-- ==== Sys2Proof/Word.lean ====
section
/-! DEFINITION. Bytes, two-byte fields, the index types of the part's collections, and the two plain
helpers every other file uses (a fixed-size table from a function, rounding division). -/

namespace Sys2Proof

/-- One byte of a frame (R205). -/
abbrev Byte := BitVec 8

/-- A two-byte field of a frame, high byte first on the line (Table 10-5). -/
abbrev Half := BitVec 16

/-- A load slot, 0 to 63 (R1). -/
abbrev LoadId := Fin 64

/-- A field station, 0 to 15 (R131). -/
abbrev StationId := Fin 16

/-- A zone, 0 to 7 (R5). -/
abbrev ZoneId := Fin 8

/-- A supply group, 0 to 7 (R6). -/
abbrev GroupId := Fin 8

/-- A panel port, 0 to 7 (R153). -/
abbrev PanelId := Fin 8

/-- A call line, 0 to 3 (R159). -/
abbrev CallId := Fin 4

/-- The table of `n` entries whose entry `i` is `f i`. -/
def tabulate {α : Type} {n : Nat} (f : Fin n → α) : Vector α n := ⟨⟨List.ofFn f⟩, by simp⟩

@[simp] theorem tabulate_getElem {α : Type} {n : Nat} (f : Fin n → α) (i : Nat) (h : i < n) :
    (tabulate f)[i] = f ⟨i, h⟩ := by
  simp [tabulate]

/-- ⌈a / b⌉ on naturals (the manual's rounding mark, About this manual, Arithmetic). -/
def ceilDiv (a b : Nat) : Nat := (a + b - 1) / b

end Sys2Proof
end

