-- ==== Sys2Proof/Syntax.lean ====
section
/-! DEFINITION. The commands of the block: one constructor per row of the table of operations and
events. The 38 supervisory commands carry their request bodies field by field, as raw bytes, so that a
byte that names no value of its kind can still be carried and refused (R206). The other rows are the
events of the port, the supply, the time bases, the Governor, the field link, the lines and the store. -/

namespace Sys2Proof

/-- A character as a line shows it to the part: the levels of the ten bit times that follow its start bit, a bit
time being that of the speed at which the part reads the line. The first eight are the data bits, least significant
first; where the line has no parity the ninth is the stop bit, and where parity is EVEN the ninth is the parity bit
and the tenth the stop bit (R167, R207). That a row carries these levels is the model's choice (log entry 24). -/
structure Received where
  value : Byte
  ninth : Bool
  tenth : Bool
deriving DecidableEq, Repr

/-- A load configuration record as a request carries it (Table 1-1, Table 10-7 code 40h). A text field
is its characters (their number is the count byte); a needs item is its kind byte and its number. -/
structure RawLoad where
  inUse : Byte
  tag : List Byte
  zone : Byte
  group : Byte
  needs : List (Byte × Byte)
  nightExempt : Byte
  wakePriority : Byte
  runKw : Half
  inrushKw : Half
  accelS : Byte
  startTimeoutS : Half
  stopTimeoutS : Half
  minRunS : Half
  minOffS : Half
  startsPerHour : Byte
  idleMin : Byte
  activityMode : Byte
  activityThreshold : Byte
  feedbackFilter : Byte
deriving DecidableEq, Repr

/-- A supply group record as a request carries it (Table 1-2). -/
structure RawGroup where
  inUse : Byte
  tag : List Byte
  required : Byte
deriving DecidableEq, Repr

/-- A plan record as a request carries it (Table 5-1). -/
structure RawPlan where
  valid : Byte
  planNo : Byte
  tag : List Byte
  workDays : Byte
  windDownTime : Half
  warningMin : Byte
  wakeTime : Half
  wakeGraceMin : Byte
  baseLeadS : Half
  ceilingKw : Half
  intervalCeilingKw : Half
  nightPanels : Byte
  nightCalls : Byte
deriving DecidableEq, Repr

/-- A panel record as a request carries it (Table 7-1). -/
structure RawPanel where
  inUse : Byte
  zone : Byte
  keepMin : Half
  keySamples : Byte
deriving DecidableEq, Repr

/-- A call record as a request carries it (Table 7-3). -/
structure RawCall where
  inUse : Byte
  group : Byte
  callMin : Byte
  activeLow : Byte
  callSamples : Half
deriving DecidableEq, Repr

/-- A meter record as a request carries it (Table 7-4). -/
structure RawMeter where
  inUse : Byte
  whPerPulse : Half
  intervalMin : Byte
  meterSamples : Byte
deriving DecidableEq, Repr

/-- A link configuration record as a request carries it: for each station its recovery byte and its
silence_counts_idle byte (Table 6-2). -/
structure RawLink where
  pollPeriodMs : Half
  replyTimeoutMs : Byte
  stations : Vector (Byte × Byte) 16
deriving DecidableEq, Repr

/-- The two keys of a panel port (R154, R156). -/
inductive Key
  | keep
  | clear
deriving DecidableEq, Repr

/-- The 21 direct input lines (R151). -/
inductive Line
  | key (panel : PanelId) (key : Key)
  | call (line : CallId)
  | meter
deriving DecidableEq, Repr

/-- The electrical levels of the 21 input lines at one sample, true for high (R151, Table 10-1). -/
structure LineLevels where
  keep : BitVec 8
  clear : BitVec 8
  call : BitVec 4
  meter : Bool
deriving DecidableEq, Repr

/-- How the read-back of CHECKING came out (R198): every word and the mark right; a contents word or
the sum word differs; or the words agree and the completion mark reads back wrong. -/
inductive CheckResult
  | agrees
  | wordDiffers
  | markWrong
deriving DecidableEq, Repr

/-- The rows of the table of operations and events. -/
inductive Instr
  | identify
  | readStatus
  | setClock (minute : Half) (second : Byte)
  | readClock
  | setMode (mode : Byte)
  | writePlan (arm : Byte) (plan : RawPlan)
  | readPlan (slot : Byte)
  | armPlan (value : Byte)
  | setCeiling (instantaneous interval : Half)
  | readDemand
  | placeHold (kind targetKind target : Byte) (duration : Half) (reason : Byte)
  | renewHold (id duration : Half)
  | releaseHold (id : Half) (force : Byte)
  | readHold (id : Half)
  | listHolds (start : Byte)
  | readLoad (load : Byte)
  | startLoad (load : Byte)
  | stopLoad (load : Byte)
  | clearFault (load : Byte)
  | readQueue (start : Byte)
  | writeLoadConfig (load : Byte) (record : RawLoad)
  | writeGroup (group : Byte) (record : RawGroup)
  | writeZone (zone : Byte) (tag : List Byte)
  | writePanel (panel : Byte) (record : RawPanel)
  | writeCall (call : Byte) (record : RawCall)
  | writeMeter (record : RawMeter)
  | writeLink (record : RawLink)
  | writePort (address speed parity : Byte)
  | readConfig (kind number : Byte)
  | readStation (station : Byte)
  | recoverStation (station : Byte)
  | linkHalt
  | linkRun
  | readAttention
  | ackAttention (causes : Byte)
  | setAttentionEnable (causes : Byte)
  | save
  | reset
  | frameDiscard (char : Received)
  | frameGapTimeout (char : Received)
  | resultBegin
  | resultEnd
  | powerOn
  | supplyLow (markWritten : Bool)
  | resetLineAssert (markWritten : Bool)
  | resetLineRelease
  | uptimeSecond
  | uptimeMinuteBoundary
  | holdExpiry
  | idleExpiry (load : LoadId)
  | stopDeadline (load : LoadId)
  | startDeadline (load : LoadId)
  | inrushWindowEnd (load : LoadId)
  | activityWindowExpiry (load : LoadId)
  | startHistoryAgeOut (load : LoadId)
  | cancelledMarkPassed
  | warnStartReached
  | warningDeadline
  | wakeBegin
  | graceDeadline
  | intervalBoundary
  | admissionScan
  | pollCycleStart
  | pollReplyGood (bytes : List Byte)
  | pollReplyBad (chars : List Received)
  | replyTimeout
  | replyGapTimeout
  | keepPress (panel : PanelId)
  | clearPress (panel : PanelId)
  | keyRelease (panel : PanelId) (key : Key)
  | refusalTimerExpiry (panel : PanelId)
  | callRisingEdge (line : CallId)
  | callFallingEdge (line : CallId)
  | meterPulse
  | meterFallingEdge
  | levelQualifiedFromUnknown (line : Line)
  | erasingComplete
  | writingComplete
  | checkingComplete (result : CheckResult)
  | lineSample (levels : LineLevels)
  | characterReceived (char : Received)
deriving DecidableEq, Repr

end Sys2Proof
end

