-- ==== Sys2Proof/Decode.lean ====
section
/-! DEFINITION. Request bodies (Table 10-7): the decoder the receiver uses, total on any bytes, and the
encoder of the same table; and the host's question of the table's words, whose rows give no bits. -/

namespace Sys2Proof

/-- The command a word spells by the bits of the table of operations and events. No row of that table gives
bits, so no word spells one; requests reach the part as frames, which `decodeRequest` reads. -/
def decodeTableWord (_nbits _w : Nat) : Option Instr := none

/-! ## Pieces -/

/-- A two-byte value, high byte first (R205). -/
def joinHalf (hi lo : Byte) : Half := hi ++ lo

/-- The two bytes of a value, high byte first (R205). -/
def halfBytes (h : Half) : List Byte := [h.extractLsb' 8 8, h.extractLsb' 0 8]

/-- A text field: a count byte and that many characters (R206). -/
def textBytes (t : List Byte) : List Byte := BitVec.ofNat 8 t.length :: t

/-- The items of a needs list, two bytes each (Table 10-6). -/
def needBytes : List (Byte × Byte) → List Byte
  | [] => []
  | i :: rest => i.1 :: i.2 :: needBytes rest

/-- Take a text field off the front of a body (R206). -/
def takeText : List Byte → Option (List Byte × List Byte)
  | [] => none
  | n :: rest => if n.toNat ≤ rest.length then some (rest.take n.toNat, rest.drop n.toNat) else none

/-- Take a number of two-byte items off the front of a body (R206). -/
def takePairs : Nat → List Byte → Option (List (Byte × Byte) × List Byte)
  | 0, l => some ([], l)
  | n + 1, a :: b :: rest => (takePairs n rest).map fun r => ((a, b) :: r.1, r.2)
  | _ + 1, _ => none

/-- Take a needs list off the front of a body: a count byte and that many items (R206). -/
def takeNeeds : List Byte → Option (List (Byte × Byte) × List Byte)
  | [] => none
  | n :: rest => takePairs n.toNat rest

/-! ## Decoding (R173, Table 10-7) -/

/-- The rest of a WRITE PLAN body after its tag. -/
def decodePlanRest (arm valid planNo : Byte) (tag : List Byte) : List Byte → Option Instr
  | [days, d1, d0, warning, w1, w0, grace, b1, b0, c1, c0, i1, i0, panels, calls] =>
    some (.writePlan arm
      { valid := valid, planNo := planNo, tag := tag, workDays := days
        windDownTime := joinHalf d1 d0, warningMin := warning, wakeTime := joinHalf w1 w0
        wakeGraceMin := grace, baseLeadS := joinHalf b1 b0, ceilingKw := joinHalf c1 c0
        intervalCeilingKw := joinHalf i1 i0, nightPanels := panels, nightCalls := calls })
  | _ => none

/-- WRITE PLAN's parameters: 20 + n bytes with the code. -/
def decodeWritePlan : List Byte → Option Instr
  | arm :: valid :: planNo :: rest =>
    match takeText rest with
    | some (tag, tail) => decodePlanRest arm valid planNo tag tail
    | none => none
  | _ => none

/-- The rest of a WRITE LOAD CONFIG body after its needs list. -/
def decodeLoadRest (load inUse : Byte) (tag : List Byte) (zone group : Byte)
    (needs : List (Byte × Byte)) : List Byte → Option Instr
  | [exempt, priority, r1, r0, i1, i0, accel, s1, s0, p1, p0, n1, n0, o1, o0, starts, idle, mode,
      threshold, filter] =>
    some (.writeLoadConfig load
      { inUse := inUse, tag := tag, zone := zone, group := group, needs := needs, nightExempt := exempt
        wakePriority := priority, runKw := joinHalf r1 r0, inrushKw := joinHalf i1 i0, accelS := accel
        startTimeoutS := joinHalf s1 s0, stopTimeoutS := joinHalf p1 p0, minRunS := joinHalf n1 n0
        minOffS := joinHalf o1 o0, startsPerHour := starts, idleMin := idle, activityMode := mode
        activityThreshold := threshold, feedbackFilter := filter })
  | _ => none

/-- WRITE LOAD CONFIG's parameters: 27 + n + 2k bytes with the code. -/
def decodeWriteLoad : List Byte → Option Instr
  | load :: inUse :: rest =>
    match takeText rest with
    | some (tag, zone :: group :: rest2) =>
      match takeNeeds rest2 with
      | some (needs, tail) => decodeLoadRest load inUse tag zone group needs tail
      | none => none
    | _ => none
  | _ => none

/-- WRITE GROUP's parameters: 5 + n bytes with the code. -/
def decodeWriteGroup : List Byte → Option Instr
  | group :: inUse :: rest =>
    match takeText rest with
    | some (tag, [required]) => some (.writeGroup group { inUse := inUse, tag := tag, required := required })
    | _ => none
  | _ => none

/-- WRITE ZONE's parameters: 3 + n bytes with the code. -/
def decodeWriteZone : List Byte → Option Instr
  | zone :: rest =>
    match takeText rest with
    | some (tag, []) => some (.writeZone zone tag)
    | _ => none
  | _ => none

/-- WRITE LINK's parameters: 36 bytes with the code. -/
def decodeWriteLink : List Byte → Option Instr
  | p1 :: p0 :: timeout :: rest =>
    match takePairs 16 rest with
    | some (pairs, []) =>
      some (.writeLink
        { pollPeriodMs := joinHalf p1 p0, replyTimeoutMs := timeout
          stations := tabulate fun k => pairs.getD k.val (0, 0) })
    | _ => none
  | _ => none

/-- The parameters of the commands of fixed length. -/
def decodeFixed (code : Nat) (params : List Byte) : Option Instr :=
  match code, params with
  | 0x01, [] => some .identify
  | 0x02, [] => some .readStatus
  | 0x03, [m1, m0, s] => some (.setClock (joinHalf m1 m0) s)
  | 0x04, [] => some .readClock
  | 0x05, [m] => some (.setMode m)
  | 0x11, [slot] => some (.readPlan slot)
  | 0x12, [v] => some (.armPlan v)
  | 0x13, [i1, i0, d1, d0] => some (.setCeiling (joinHalf i1 i0) (joinHalf d1 d0))
  | 0x14, [] => some .readDemand
  | 0x20, [k, tk, t, d1, d0, r] => some (.placeHold k tk t (joinHalf d1 d0) r)
  | 0x21, [i1, i0, d1, d0] => some (.renewHold (joinHalf i1 i0) (joinHalf d1 d0))
  | 0x22, [i1, i0, f] => some (.releaseHold (joinHalf i1 i0) f)
  | 0x23, [i1, i0] => some (.readHold (joinHalf i1 i0))
  | 0x24, [start] => some (.listHolds start)
  | 0x30, [n] => some (.readLoad n)
  | 0x31, [n] => some (.startLoad n)
  | 0x32, [n] => some (.stopLoad n)
  | 0x33, [n] => some (.clearFault n)
  | 0x34, [start] => some (.readQueue start)
  | 0x43, [p, u, z, k1, k0, n] =>
    some (.writePanel p { inUse := u, zone := z, keepMin := joinHalf k1 k0, keySamples := n })
  | 0x44, [c, u, g, m, low, n1, n0] =>
    some (.writeCall c
      { inUse := u, group := g, callMin := m, activeLow := low, callSamples := joinHalf n1 n0 })
  | 0x45, [u, w1, w0, i, n] =>
    some (.writeMeter { inUse := u, whPerPulse := joinHalf w1 w0, intervalMin := i, meterSamples := n })
  | 0x47, [a, sp, par] => some (.writePort a sp par)
  | 0x48, [k, n] => some (.readConfig k n)
  | 0x50, [k] => some (.readStation k)
  | 0x51, [k] => some (.recoverStation k)
  | 0x52, [] => some .linkHalt
  | 0x53, [] => some .linkRun
  | 0x60, [] => some .readAttention
  | 0x61, [c] => some (.ackAttention c)
  | 0x62, [c] => some (.setAttentionEnable c)
  | 0x70, [] => some .save
  | 0x71, [] => some .reset
  | _, _ => none

/-- The request a body spells; none where its code names no command or its length is not the one the
command and its counts call for, which the part answers INVALID (R173, Table 10-7). -/
def decodeRequest : List Byte → Option Instr
  | [] => none
  | code :: params =>
    match code.toNat with
    | 0x10 => decodeWritePlan params
    | 0x40 => decodeWriteLoad params
    | 0x41 => decodeWriteGroup params
    | 0x42 => decodeWriteZone params
    | 0x46 => decodeWriteLink params
    | n => decodeFixed n params

/-! ## Encoding (Table 10-7) -/

/-- The command code of a request; the events of the table have none (Table 10-7). -/
def commandCode : Instr → Option Byte
  | .identify => some 0x01
  | .readStatus => some 0x02
  | .setClock _ _ => some 0x03
  | .readClock => some 0x04
  | .setMode _ => some 0x05
  | .writePlan _ _ => some 0x10
  | .readPlan _ => some 0x11
  | .armPlan _ => some 0x12
  | .setCeiling _ _ => some 0x13
  | .readDemand => some 0x14
  | .placeHold _ _ _ _ _ => some 0x20
  | .renewHold _ _ => some 0x21
  | .releaseHold _ _ => some 0x22
  | .readHold _ => some 0x23
  | .listHolds _ => some 0x24
  | .readLoad _ => some 0x30
  | .startLoad _ => some 0x31
  | .stopLoad _ => some 0x32
  | .clearFault _ => some 0x33
  | .readQueue _ => some 0x34
  | .writeLoadConfig _ _ => some 0x40
  | .writeGroup _ _ => some 0x41
  | .writeZone _ _ => some 0x42
  | .writePanel _ _ => some 0x43
  | .writeCall _ _ => some 0x44
  | .writeMeter _ => some 0x45
  | .writeLink _ => some 0x46
  | .writePort _ _ _ => some 0x47
  | .readConfig _ _ => some 0x48
  | .readStation _ => some 0x50
  | .recoverStation _ => some 0x51
  | .linkHalt => some 0x52
  | .linkRun => some 0x53
  | .readAttention => some 0x60
  | .ackAttention _ => some 0x61
  | .setAttentionEnable _ => some 0x62
  | .save => some 0x70
  | .reset => some 0x71
  | .frameDiscard _ | .frameGapTimeout _ | .resultBegin | .resultEnd | .powerOn | .supplyLow _
  | .resetLineAssert _ | .resetLineRelease | .uptimeSecond | .uptimeMinuteBoundary | .holdExpiry
  | .idleExpiry _ | .stopDeadline _ | .startDeadline _ | .inrushWindowEnd _ | .activityWindowExpiry _
  | .startHistoryAgeOut _ | .cancelledMarkPassed | .warnStartReached | .warningDeadline | .wakeBegin
  | .graceDeadline | .intervalBoundary | .admissionScan | .pollCycleStart | .pollReplyGood _
  | .pollReplyBad _ | .replyTimeout | .replyGapTimeout | .keepPress _ | .clearPress _ | .keyRelease _ _
  | .refusalTimerExpiry _ | .callRisingEdge _ | .callFallingEdge _ | .meterPulse | .meterFallingEdge
  | .levelQualifiedFromUnknown _ | .erasingComplete | .writingComplete | .checkingComplete _
  | .lineSample _ | .characterReceived _ => none

/-- The parameter bytes of a request, after its code (Table 10-7). -/
def requestParams : Instr → List Byte
  | .setClock m s => halfBytes m ++ [s]
  | .setMode m => [m]
  | .writePlan arm p =>
    [arm, p.valid, p.planNo] ++ textBytes p.tag ++ [p.workDays] ++ halfBytes p.windDownTime ++
      [p.warningMin] ++ halfBytes p.wakeTime ++ [p.wakeGraceMin] ++ halfBytes p.baseLeadS ++
      halfBytes p.ceilingKw ++ halfBytes p.intervalCeilingKw ++ [p.nightPanels, p.nightCalls]
  | .readPlan slot => [slot]
  | .armPlan v => [v]
  | .setCeiling i d => halfBytes i ++ halfBytes d
  | .placeHold k tk t d r => [k, tk, t] ++ halfBytes d ++ [r]
  | .renewHold i d => halfBytes i ++ halfBytes d
  | .releaseHold i f => halfBytes i ++ [f]
  | .readHold i => halfBytes i
  | .listHolds start => [start]
  | .readLoad n | .startLoad n | .stopLoad n | .clearFault n => [n]
  | .readQueue start => [start]
  | .writeLoadConfig n r =>
    [n, r.inUse] ++ textBytes r.tag ++ [r.zone, r.group, BitVec.ofNat 8 r.needs.length] ++
      needBytes r.needs ++ [r.nightExempt, r.wakePriority] ++ halfBytes r.runKw ++
      halfBytes r.inrushKw ++ [r.accelS] ++ halfBytes r.startTimeoutS ++ halfBytes r.stopTimeoutS ++
      halfBytes r.minRunS ++ halfBytes r.minOffS ++
      [r.startsPerHour, r.idleMin, r.activityMode, r.activityThreshold, r.feedbackFilter]
  | .writeGroup g r => [g, r.inUse] ++ textBytes r.tag ++ [r.required]
  | .writeZone z t => z :: textBytes t
  | .writePanel p r => [p, r.inUse, r.zone] ++ halfBytes r.keepMin ++ [r.keySamples]
  | .writeCall c r => [c, r.inUse, r.group, r.callMin, r.activeLow] ++ halfBytes r.callSamples
  | .writeMeter r => r.inUse :: halfBytes r.whPerPulse ++ [r.intervalMin, r.meterSamples]
  | .writeLink r => halfBytes r.pollPeriodMs ++ [r.replyTimeoutMs] ++ needBytes r.stations.toList
  | .writePort a sp par => [a, sp, par]
  | .readConfig k n => [k, n]
  | .readStation k | .recoverStation k => [k]
  | .ackAttention c | .setAttentionEnable c => [c]
  | _ => []

/-- The body of a request (Table 10-7); the events of the table have none. -/
def encodeRequest (i : Instr) : Option (List Byte) := (commandCode i).map fun c => c :: requestParams i

end Sys2Proof
end

