-- ==== Sys2Proof/Config.lean ====
section
/-! DEFINITION. What is fixed for the part: its capacities and limits as the manual gives them, and the
two values the manual leaves open (no body: nothing in Lean can evaluate them). -/

namespace Sys2Proof

/-- The build number of the part's fixed program is this value plus one, so 1 to 65535; which number it
is, the manual leaves to the part (R175). DESIGN CHOICE: log entry 2. -/
opaque Config.buildNumberLessOne : Fin 65535

/-- The order in which two events of one handling are taken where the manual allows either order
(R30, R120, R105 with R160): the choice made at the `n`-th such point of a run. DESIGN CHOICE: log
entry 3. -/
opaque Config.freeChoice : Nat → Nat

/-- The Hold Table's capacity (R49). -/
def Config.maxHolds : Nat := 48

/-- Uptime and E hold at this value (R105, R94). -/
def Config.counterMax : Nat := 4294967295

/-- Minutes in a week (R106). -/
def Config.weekMinutes : Nat := 10080

/-- Minutes in a day. -/
def Config.dayMinutes : Nat := 1440

/-- The instantaneous ceiling without a valid plan, and the highest value of either ceiling (R93). -/
def Config.ceilingMax : Nat := 60000

/-- Longest KEEP_ON expiry, in minutes (R54). -/
def Config.keepOnMax : Nat := 900

/-- Longest KEEP_OFF expiry, in minutes (R54). -/
def Config.keepOffMax : Nat := 10080

/-- A panel's refusal timer, in seconds (R155). -/
def Config.refusalSeconds : Nat := 5

/-- The wake lead's limit, in seconds (R121). -/
def Config.leadMax : Nat := 14400

/-- The least headroom the wake lead divides by, in kW (R121). -/
def Config.headroomMin : Int := 100

/-- A failure raises a station's error counter by this (R138). -/
def Config.errStep : Nat := 8

/-- An ONLINE station whose error counter reaches this after a failure is SUSPECT (R139). -/
def Config.errSuspect : Nat := 96

/-- A SUSPECT station whose error counter falls below this after a good reply is ONLINE (R140). -/
def Config.errClear : Nat := 64

/-- The error counter's limit, at which a station is OFFLINE (R138, R139). -/
def Config.errMax : Nat := 255

/-- Good probes an OFFLINE station needs (R141). -/
def Config.recoverRun : Nat := 16

/-- The value a probe count takes when a probe is sent or an error counter takes a station OFFLINE (R135). -/
def Config.probeGap : Nat := 7

/-- Age at which an entry leaves a start history, in seconds (R89). -/
def Config.historySeconds : Nat := 3600

/-- Length of a PULSE activity window, in seconds (R23). -/
def Config.activityWindow : Nat := 60

/-- Time between two samples of the input lines, in milliseconds (R151). -/
def Config.sampleMs : Nat := 5

end Sys2Proof
end

