-- ==== Sys2Proof/Machine/State.lean ====
section
/-! DEFINITION. The state of the part: every record, table, queue, counter, mode and flag the manual
gives its nine blocks, the queue of waiting commands, and the state right after reset. -/

namespace Sys2Proof.Machine

/-! ## Plant model (chapter 1) -/

/-- A need of a load: another load, or a supply group (R8). -/
inductive Need
  | load (j : LoadId)
  | group (g : GroupId)
deriving DecidableEq, Repr

/-- PULSE counts edges, LEVEL counts consecutive high replies (Table 1-1 row 17). -/
inductive ActivityMode
  | pulse
  | level
deriving DecidableEq, Repr

/-- A load configuration record (Table 1-1); the field defaults are its Default column. -/
structure LoadConfig where
  inUse : Bool := false
  tag : List Byte := []
  zone : ZoneId := 0
  group : Option GroupId := none
  needs : List Need := []
  nightExempt : Bool := false
  wakePriority : Nat := 4
  runKw : Nat := 0
  inrushKw : Nat := 0
  accelS : Nat := 10
  startTimeoutS : Nat := 30
  stopTimeoutS : Nat := 60
  minRunS : Nat := 0
  minOffS : Nat := 0
  startsPerHour : Nat := 6
  idleMin : Nat := 30
  activityMode : ActivityMode := .pulse
  activityThreshold : Nat := 1
  feedbackFilter : Nat := 2
deriving DecidableEq, Repr

/-- A supply group record (Table 1-2). -/
structure GroupConfig where
  inUse : Bool := false
  tag : List Byte := []
  required : Nat := 1
deriving DecidableEq, Repr

/-- A plan record (Table 5-1); `workDays` has bit 0 for Monday to bit 6 for Sunday. -/
structure Plan where
  valid : Bool := false
  planNo : Nat := 0
  tag : List Byte := []
  workDays : BitVec 7 := 0
  windDownTime : Nat := 0
  warningMin : Nat := 0
  wakeTime : Nat := 0
  wakeGraceMin : Nat := 0
  baseLeadS : Nat := 0
  ceilingKw : Nat := 60000
  intervalCeilingKw : Nat := 0
  nightPanels : Bool := false
  nightCalls : Bool := false
deriving DecidableEq, Repr

/-- How an OFFLINE station returns (Table 6-2). -/
inductive Recovery
  | auto
  | manual
deriving DecidableEq, Repr

/-- A station's two settings in the link configuration record (Table 6-2). -/
structure StationConfig where
  recovery : Recovery := .auto
  silenceCountsIdle : Bool := false
deriving DecidableEq, Repr

/-- The link configuration record (Table 6-2). -/
structure LinkConfig where
  pollPeriodMs : Nat := 200
  replyTimeoutMs : Nat := 20
  stations : Vector StationConfig 16 := Vector.replicate 16 {}
deriving DecidableEq, Repr

/-- A panel record (Table 7-1). -/
structure PanelConfig where
  inUse : Bool := false
  zone : ZoneId := 0
  keepMin : Nat := 120
  keySamples : Nat := 8
deriving DecidableEq, Repr

/-- A call record (Table 7-3). -/
structure CallConfig where
  inUse : Bool := false
  group : GroupId := 0
  callMin : Nat := 30
  activeLow : Bool := false
  callSamples : Nat := 200
deriving DecidableEq, Repr

/-- The meter record (Table 7-4). -/
structure MeterConfig where
  inUse : Bool := false
  whPerPulse : Nat := 1
  intervalMin : Nat := 15
  meterSamples : Nat := 2
deriving DecidableEq, Repr

/-- Line speeds (Table 8-1). -/
inductive Speed
  | b9600
  | b19200
  | b38400
  | b57600
  | b115200
deriving DecidableEq, Repr

/-- Parity of the supervisory line (Table 8-1). -/
inductive Parity
  | none
  | even
deriving DecidableEq, Repr

/-- The port record (Table 8-1). -/
structure PortConfig where
  address : Nat := 1
  speed : Speed := .b19200
  parity : Parity := .none
deriving DecidableEq, Repr

/-- Everything an image holds (Table 9-3): the configuration of every block, both plan slots and the
attention enable set (bit 0 LOAD_FAULT to bit 7 STORE). The part's held configuration has this form too;
the field defaults are the empty image. -/
structure Settings where
  loads : Vector LoadConfig 64 := Vector.replicate 64 {}
  groups : Vector GroupConfig 8 := Vector.replicate 8 {}
  zones : Vector (List Byte) 8 := Vector.replicate 8 []
  active : Plan := {}
  staged : Plan := {}
  link : LinkConfig := {}
  panels : Vector PanelConfig 8 := Vector.replicate 8 {}
  calls : Vector CallConfig 4 := Vector.replicate 4 {}
  meter : MeterConfig := {}
  port : PortConfig := {}
  enable : BitVec 8 := 0xFF
deriving DecidableEq, Repr

/-! ## Load Table (chapter 2) -/

/-- Why a load is in FAULT (Table 2-1). -/
inductive FaultCause
  | noStart
  | noStop
deriving DecidableEq, Repr

/-- Position in the load state machine (Table 2-2). `stopping` carries stop_began, which is present only
in STOPPING, and `fault` its fault_cause, present only in FAULT (Table 2-1). `localRun` is LOCAL. -/
inductive LoadPhase
  | unused
  | localRun
  | watch
  | stopping (began : Nat)
  | off
  | queued
  | starting
  | override
  | fault (cause : FaultCause)
  | unreachable
deriving DecidableEq, Repr

/-- Why a load is wanted (Table 4-1). -/
inductive Origin
  | wake
  | hold
  | call
  | command
  | pull (puller : LoadId)
deriving DecidableEq, Repr

/-- A load state record (Table 2-1); the field defaults are the power-on column of Table 2-4, less the
state of an in-use slot. `activityCount` and `activityWindow` together are activity_acc. -/
structure LoadRecord where
  phase : LoadPhase := .unused
  feedback : Bool := false
  filterCount : Nat := 0
  activityCount : Nat := 0
  activityWindow : Option Nat := none
  lastActivity : Nat := 0
  startedAt : Option Nat := none
  stoppedAt : Option Nat := none
  startHistory : List Nat := []
  stopPending : Bool := false
  heldEnqueue : Option Origin := none
  changed : Bool := true
deriving DecidableEq, Repr

/-! ## Hold Table (chapter 3) -/

/-- What a hold asks for (Table 3-1). -/
inductive HoldKind
  | keepOn
  | keepOff
deriving DecidableEq, Repr

/-- What a hold is on (Table 3-1). -/
inductive Target
  | load (n : LoadId)
  | zone (z : ZoneId)
  | group (g : GroupId)
deriving DecidableEq, Repr

/-- Who placed a hold (Table 3-1). -/
inductive Owner
  | supervisor
  | panel (p : PanelId)
  | call (c : CallId)
deriving DecidableEq, Repr

/-- A hold record (Table 3-1). -/
structure Hold where
  id : Nat
  kind : HoldKind
  target : Target
  owner : Owner
  expiry : Option Nat
  placedAt : Nat
  renewals : Nat
  reason : Nat
deriving DecidableEq, Repr

/-! ## Demand Governor (chapter 4) -/

/-- Why the last scan that reached an entry passed it over (Table 4-1). -/
inductive Wait
  | none
  | needs
  | minOff
  | budget
  | link
  | demand
deriving DecidableEq, Repr

/-- A Start Queue entry (Table 4-1). -/
structure Entry where
  load : LoadId
  origin : Origin
  key : Nat
  seq : BitVec 32
  wait : Wait := .none
deriving DecidableEq, Repr

/-- Where an effective ceiling came from (R93). -/
inductive CeilingSource
  | plan
  | override
deriving DecidableEq, Repr

/-- An effective ceiling (R93). -/
structure Ceiling where
  value : Nat
  source : CeilingSource := .plan
deriving DecidableEq, Repr

/-- The Demand Governor's own state (Table 4-3). The inrush windows are read from the load records
(R91). `demand` is D as last recomputed (R92); `scanDue` says that a scan has been started and not yet
taken (R98). -/
structure Governor where
  queue : List Entry := []
  nextSeq : BitVec 32 := 0
  startingOrigin : Vector (Option Origin) 64 := Vector.replicate 64 none
  ceilingI : Ceiling := { value := 60000 }
  ceilingD : Ceiling := { value := 0 }
  energy : Nat := 0
  isPartial : Bool := true
  lastIntervalKw : Option Nat := none
  demand : Nat := 0
  scanDue : Bool := false
deriving DecidableEq, Repr

/-! ## Night Cycle Controller (chapter 5) -/

/-- The plant mode (R116). -/
inductive Mode
  | setup
  | day
  | windDown
  | night
  | wake
deriving DecidableEq, Repr

/-- The plant clock (R106). -/
structure Clock where
  valid : Bool := false
  minute : Nat := 0
  second : Nat := 0
deriving DecidableEq, Repr

/-- The next night of DAY: the uptime deadlines of its night_start and warn_start (R115). -/
structure NextNight where
  nightStart : Nat
  warnStart : Nat
deriving DecidableEq, Repr

/-- A wake target: its minute of week and its uptime deadline (R120). -/
structure WakeTarget where
  minute : Nat
  at_ : Nat
deriving DecidableEq, Repr

/-- The plant mode with the deadlines and other state that mode holds (Table 5-2). -/
inductive ModeState
  | setup
  | day (next : Option NextNight) (mark : Option Nat)
  | windDown (deadline : Nat) (scheduled : Bool)
  | night (target : Option WakeTarget) (wakeBegin : Option Nat) (leadS : Nat)
  | wake (grace : Option Nat)
deriving DecidableEq, Repr

/-- The Night Cycle Controller's state (Table 5-5). The plan slots stand in `Settings`. `minuteDue` and
`intervalDue` say that the present second is an uptime minute boundary, or a demand interval boundary,
whose event has not yet been taken. -/
structure NightCycle where
  uptime : Nat := 0
  clock : Clock := {}
  mode : ModeState := .setup
  late : Bool := false
  armed : Bool := false
  minuteDue : Bool := false
  intervalDue : Bool := false
deriving DecidableEq, Repr

/-! ## Field Link Master (chapter 6) -/

/-- A station's grade (Table 6-1). -/
inductive Grade
  | online
  | suspect
  | offline
deriving DecidableEq, Repr

/-- One channel's part of a reply (R137). -/
structure Reading where
  feedback : Bool
  level : Bool
  edges : Nat
deriving DecidableEq, Repr

/-- A station record (Table 6-1); the field defaults are Table 6-4. -/
structure Station where
  grade : Grade := .online
  err : Nat := 0
  goodRun : Nat := 0
  recoverArmed : Bool := false
  forcedAuto : Bool := false
  probeCount : Nat := 0
  pollTag : Byte := 0
  missed : Nat := 0
  lastGood : Option Nat := none
  lastReply : Option (Vector Reading 4) := none
deriving DecidableEq, Repr

/-- A transaction in flight: the poll that was sent and the reply timeout it began with (R136, R133).
Bit c of `permits` is channel c. -/
structure Transaction where
  station : StationId
  tag : Byte
  permitValid : Bool
  permits : BitVec 4
  timeoutMs : Nat
deriving DecidableEq, Repr

/-- The link is in RUN or HALT (R134). -/
inductive LinkState
  | run
  | halt
deriving DecidableEq, Repr

/-- The Field Link Master's state (Table 6-4): `toPoll` lists the stations of the present cycle still to
be polled (R134). -/
structure FieldLink where
  link : LinkState := .run
  stations : Vector Station 16 := Vector.replicate 16 {}
  toPoll : List StationId := []
  inFlight : Option Transaction := none
deriving DecidableEq, Repr

/-! ## Line Inputs (chapter 7) -/

/-- A line's qualified level (R151). -/
inductive Level
  | inactive
  | active
  | unknown
deriving DecidableEq, Repr

/-- A debounce record: the qualified level, the run count, and the level of the previous sample, which
is kept while the qualified level is unknown (R151). -/
structure Debounce where
  level : Level := .unknown
  run : Nat := 0
  previous : Option Bool := none
deriving DecidableEq, Repr

/-- A lamp pattern (Table 7-2). -/
inductive Pattern
  | off
  | steady
  | slow
  | fast
  | wink
deriving DecidableEq, Repr

/-- A lamp: its pattern and the milliseconds since that pattern was chosen, within its period (R158). -/
structure Lamp where
  pattern : Pattern := .off
  phaseMs : Nat := 0
deriving DecidableEq, Repr

/-- The Line Inputs' live state (Table 7-5). A refusal timer is clear, or runs to an uptime second. -/
structure LineInputs where
  keep : Vector Debounce 8 := Vector.replicate 8 {}
  clear : Vector Debounce 8 := Vector.replicate 8 {}
  call : Vector Debounce 4 := Vector.replicate 4 {}
  meter : Debounce := {}
  refusal : Vector (Option Nat) 8 := Vector.replicate 8 none
  lamps : Vector Lamp 8 := Vector.replicate 8 {}
deriving DecidableEq, Repr

/-! ## Supervisory Port (chapter 8) -/

/-- A result's status (Table 8-3). -/
inductive Status
  | ok
  | renewed
  | noChange
  | clamped
  | invalid
  | range
  | wrongMode
  | busy
  | full
  | conflict
  | notFound
  | notOwner
  | kept
  | keptOff
  | dependent
  | tooSoon
  | wrongState
  | config
deriving DecidableEq, Repr

/-- What the end of a result brings about: nothing more, the settings of a new port record (R168), or
the carrying out of a RESET command (R187). -/
inductive AfterResult
  | nothing
  | takePort
  | carryOutReset
deriving DecidableEq, Repr

/-- A result: the request's command code, the status and the result data (R172, R174). -/
structure Result where
  code : Byte
  status : Status
  data : List Byte := []
  after : AfterResult := .nothing
deriving DecidableEq, Repr

/-- The receiver (R169). RECEIVING holds the frame buffer, the characters after the lead byte. SERVING
holds either the accepted request that is still to be served or, once it has been served, its result. -/
inductive Receiver
  | hunt
  | receiving (buffer : List Byte)
  | toServe (request : Instr)
  | served (result : Result)
  | answering (result : Result)
deriving DecidableEq, Repr

/-- The kind of the last reset (R177). -/
inductive ResetKind
  | power
  | command
deriving DecidableEq, Repr

/-- The Supervisory Port's state (Table 8-5). The held port record stands in `Settings`. -/
structure SupervisoryPort where
  inEffect : PortConfig := {}
  receiver : Receiver := .hunt
  lastReset : ResetKind := .power
  lastResetAt : Nat := 0
deriving DecidableEq, Repr

/-! ## Attention Logic and Configuration Store (chapter 9) -/

/-- The attention causes in rank order (Table 9-1). -/
inductive Cause
  | loadFault
  | station
  | demand
  | startFailed
  | holdRetired
  | mode
  | plan
  | store
deriving DecidableEq, Repr

/-- Withdrawal causes (Table 4-2). -/
inductive WithdrawCause
  | keepOff
  | stop
  | override
  | unreachable
  | needLost
  | oversize
  | holdGone
  | unpulled
  | setup
deriving DecidableEq, Repr

/-- A cause's detail (Table 9-1, Table 10-10). -/
inductive Detail
  | loadFault (n : LoadId)
  | station (k : StationId)
  | demand (kw : Nat)
  | startFailed (n : LoadId) (cause : WithdrawCause)
  | callRefused (g : GroupId) (isFull : Bool)
  | holdRetired (id : Nat)
  | mode (mode : Mode) (late : Bool)
  | plan (planNo : Nat)
  | store (success fromLoad : Bool)
deriving DecidableEq, Repr

/-- The Attention Logic's state (Table 9-2); bit i of `pending` is the cause of rank i + 1. The enable
set stands in `Settings`, and the attention line follows from the two sets (R191). -/
structure AttentionLogic where
  pending : BitVec 8 := 0
  details : Vector (Option Detail) 8 := Vector.replicate 8 none
deriving DecidableEq, Repr

/-- What the nonvolatile storage holds: the image contents and the sum word, and the completion mark (R196).
Erased storage, and storage whose words do not read back as they were written, hold no contents and no sum word
(log entry 16). -/
structure Storage where
  contents : Option Settings := none
  sumWord : Option (BitVec 16) := none
  mark : Bool := false
deriving DecidableEq, Repr

/-- The phase of a SAVE (R202). -/
inductive SavePhase
  | idle
  | erasing
  | writing
  | checking
deriving DecidableEq, Repr

/-- The image state (R202). -/
inductive ImageState
  | good
  | bad
deriving DecidableEq, Repr

/-- The last save outcome (R202). -/
inductive SaveOutcome
  | none
  | success
  | fault
deriving DecidableEq, Repr

/-- The Configuration Store's state (R202), the copy a SAVE took at its acceptance (R197), and the
storage. -/
structure ConfigStore where
  storage : Storage := {}
  phase : SavePhase := .idle
  image : ImageState := .bad
  outcome : SaveOutcome := .none
  copy : Option Settings := none
deriving DecidableEq, Repr

/-- The held condition: the supply is low, or the reset line is asserted (R203, R204). -/
structure Power where
  supplyLow : Bool := false
  resetLow : Bool := false
deriving DecidableEq, Repr

/-- The part: the configuration held and the nine blocks. `freeCount` counts the points of a run at which
the manual allowed either of two orders (the model's own field; log entry 3). `checksDue` lists the loads whose checks
R30 calls for by changes of the handling under way (the model's own field, empty between events; log entry 11). -/
structure Part where
  power : Power := {}
  cfg : Settings := {}
  loads : Vector LoadRecord 64 := Vector.replicate 64 {}
  holds : List Hold := []
  nextId : Nat := 1
  dgv : Governor := {}
  ncc : NightCycle := {}
  flm : FieldLink := {}
  lin : LineInputs := {}
  svp : SupervisoryPort := {}
  atl : AttentionLogic := {}
  cfs : ConfigStore := {}
  freeCount : Nat := 0
  checksDue : List LoadId := []
deriving DecidableEq, Repr

/-- The machine's state: the part, and the commands that wait, first in, first out. -/
structure State extends Part where
  pending : List Instr := []
deriving DecidableEq, Repr

/-- The faults a step can stop with: none. Every command of the block has an effect the manual gives, so
no meaning stops. -/
inductive Fault
deriving DecidableEq, Repr

/-- The refusals a step can answer. -/
inductive Refusal
  /-- A command whose meaning is not modelled yet; raised by a refused arm of the dispatch alone. Safe:
  the machine stops where the hardware goes on. -/
  | notModelled (mnemonic : String)
deriving DecidableEq, Repr

/-- A new part right after power-on: its storage is erased, so the image is bad; every record holds the
empty-image default, the mode is SETUP, and STORE is pending with detail FAULT, LOAD (R16, R48, R77,
R104, R130, R150, R166, R188, R195, R200). -/
def State.reset : State where
  power := {}
  cfg := {}
  loads := Vector.replicate 64 {}
  holds := []
  nextId := 1
  dgv := {}
  ncc := {}
  flm := {}
  lin := {}
  svp := {}
  atl :=
    { pending := 0x80
      details := (Vector.replicate 8 none).set 7 (some (.store false true)) }
  cfs := {}
  freeCount := 0
  checksDue := []
  pending := []

end Sys2Proof.Machine
end

