-- ==== Sys2Proof/Machine/Frames.lean ====
section
/-! DEFINITION. Bytes on the two RS-485 lines: field encodings and codes (R206, Tables 10-5 and 10-6), the
CRC of both lines (Table 10-4), the characters of both (R167, R207), the supervisory frame (R205) and the field link
frames (R207). -/

namespace Sys2Proof.Machine

/-! ## Field encodings (R206, Table 10-5) -/

/-- A one-byte field. -/
def byte (n : Nat) : Byte := BitVec.ofNat 8 n

/-- A one-byte field, as a piece of result data. -/
def u8 (n : Nat) : List Byte := [byte n]

/-- A two-byte field, high byte first (R205). -/
def u16 (n : Nat) : List Byte := [byte (n / 256), byte n]

/-- A four-byte field, high byte first (R205). -/
def u32 (n : Nat) : List Byte := [byte (n / 16777216), byte (n / 65536), byte (n / 256), byte n]

/-- A flag: 00h no, clear, off; 01h yes, set, on (Table 10-6). -/
def flag (b : Bool) : List Byte := [if b then 1 else 0]

/-- A text field: a count byte and the characters (R206). -/
def text (t : List Byte) : List Byte := byte t.length :: t

/-- An optional field: a presence byte, then the field's bytes, all 00h where it is absent (R206). -/
def opt {α : Type} (width : Nat) (enc : α → List Byte) : Option α → List Byte
  | some a => 1 :: enc a
  | none => 0 :: List.replicate width 0

/-- A two-byte value from its high and low byte (R205). -/
def half (hi lo : Byte) : Half := hi ++ lo

/-! ## Codes (Table 10-6, Table 8-3) -/

def Mode.code : Mode → Nat
  | .setup => 0 | .day => 1 | .windDown => 2 | .night => 3 | .wake => 4

/-- The mode a byte names, if any (Table 10-6). -/
def Mode.ofByte (b : Byte) : Option Mode :=
  match b.toNat with
  | 0 => some .setup | 1 => some .day | 2 => some .windDown | 3 => some .night | 4 => some .wake
  | _ => none

def LoadPhase.code : LoadPhase → Nat
  | .unused => 0 | .localRun => 1 | .watch => 2 | .stopping _ => 3 | .off => 4 | .queued => 5
  | .starting => 6 | .override => 7 | .fault _ => 8 | .unreachable => 9

/-- The fault_cause byte: 00h absent outside FAULT (Table 10-6). -/
def LoadPhase.faultCode : LoadPhase → Nat
  | .fault .noStart => 1
  | .fault .noStop => 2
  | _ => 0

/-- The group field of a load: FFh for none (Table 10-6). -/
def groupCode : Option GroupId → Nat
  | some g => g.val
  | none => 0xFF

def Need.bytes : Need → List Byte
  | .load j => [0, byte j.val]
  | .group g => [1, byte g.val]

def ActivityMode.code : ActivityMode → Nat
  | .pulse => 0 | .level => 1

def HoldKind.code : HoldKind → Nat
  | .keepOn => 0 | .keepOff => 1

/-- Target kind and target number (Table 10-6). -/
def Target.bytes : Target → List Byte
  | .load n => [0, byte n.val]
  | .zone z => [1, byte z.val]
  | .group g => [2, byte g.val]

def Owner.bytes : Owner → List Byte
  | .supervisor => [0, 0]
  | .panel p => [1, byte p.val]
  | .call c => [2, byte c.val]

def Origin.code : Origin → Nat
  | .wake => 0 | .hold => 1 | .call => 2 | .command => 3 | .pull _ => 4

/-- The origin byte, FFh where there is none (Table 10-6). -/
def originByte : Option Origin → Byte
  | some o => byte o.code
  | none => 0xFF

/-- The puller byte, FFh unless the origin is PULL (Tables 10-8 and 10-9). -/
def pullerByte : Option Origin → Byte
  | some (.pull p) => byte p.val
  | _ => 0xFF

def Wait.code : Wait → Nat
  | .none => 0 | .needs => 1 | .minOff => 2 | .budget => 3 | .link => 4 | .demand => 5

/-- Withdrawal causes of a START_FAILED detail; the three that raise no cause have no code in the manual
and never stand in a detail (R189). -/
def WithdrawCause.code : WithdrawCause → Nat
  | .keepOff => 0 | .stop => 1 | .override => 2 | .unreachable => 3 | .needLost => 4 | .oversize => 5
  | .holdGone | .unpulled | .setup => 0xFF

def Grade.code : Grade → Nat
  | .online => 0 | .suspect => 1 | .offline => 2

def Recovery.code : Recovery → Nat
  | .auto => 0 | .manual => 1

def LinkState.code : LinkState → Nat
  | .run => 0 | .halt => 1

def CeilingSource.code : CeilingSource → Nat
  | .plan => 0 | .override => 1

def Speed.code : Speed → Nat
  | .b9600 => 0 | .b19200 => 1 | .b38400 => 2 | .b57600 => 3 | .b115200 => 4

def Parity.code : Parity → Nat
  | .none => 0 | .even => 1

def Level.code : Level → Nat
  | .inactive => 0 | .active => 1 | .unknown => 2

def Pattern.code : Pattern → Nat
  | .off => 0 | .steady => 1 | .slow => 2 | .fast => 3 | .wink => 4

def SavePhase.code : SavePhase → Nat
  | .idle => 0 | .erasing => 1 | .writing => 2 | .checking => 3

def ImageState.code : ImageState → Nat
  | .good => 0 | .bad => 1

def SaveOutcome.code : SaveOutcome → Nat
  | .none => 0 | .success => 1 | .fault => 2

def ResetKind.code : ResetKind → Nat
  | .power => 0 | .command => 1

/-- Status values (Table 8-3). -/
def Status.code : Status → Byte
  | .ok => 0x00 | .renewed => 0x01 | .noChange => 0x02 | .clamped => 0x03
  | .invalid => 0x10 | .range => 0x11 | .wrongMode => 0x12 | .busy => 0x13 | .full => 0x14
  | .conflict => 0x15 | .notFound => 0x16 | .notOwner => 0x17 | .kept => 0x18 | .keptOff => 0x19
  | .dependent => 0x1A | .tooSoon => 0x1B | .wrongState => 0x1C | .config => 0x1D

/-- A cause's rank, from 0 (Table 9-1, Table 10-5). -/
def Cause.index : Cause → Fin 8
  | .loadFault => 0 | .station => 1 | .demand => 2 | .startFailed => 3
  | .holdRetired => 4 | .mode => 5 | .plan => 6 | .store => 7

/-- The cause a detail belongs to (Table 9-1). -/
def Detail.cause : Detail → Cause
  | .loadFault _ => .loadFault
  | .station _ => .station
  | .demand _ => .demand
  | .startFailed _ _ | .callRefused _ _ => .startFailed
  | .holdRetired _ => .holdRetired
  | .mode _ _ => .mode
  | .plan _ => .plan
  | .store _ _ => .store

/-- The four bytes of a detail (Table 10-10). -/
def Detail.bytes : Detail → List Byte
  | .loadFault n => [byte n.val, 0, 0, 0]
  | .station k => [byte k.val, 0, 0, 0]
  | .demand kw => u32 kw
  | .startFailed n c => [0, byte n.val, byte c.code, 0]
  | .callRefused g isFull => [1, byte g.val, if isFull then 0x11 else 0x10, 0]
  | .holdRetired id => u16 id ++ [0, 0]
  | .mode m late => byte m.code :: flag late ++ [0, 0]
  | .plan no => [byte no, 0, 0, 0]
  | .store success fromLoad => [if success then 1 else 2, if fromLoad then 1 else 0, 0, 0]

/-! ## CRC (Table 10-4) -/

/-- One data bit enters the CRC register: it shifts up, and 1021h is added where the bit that left the
top differs from the data bit (R205). -/
def crcBit (r : BitVec 16) (bit : Bool) : BitVec 16 :=
  if r.msb != bit then (r <<< 1) ^^^ 0x1021 else r <<< 1

/-- One byte enters the CRC register, most significant bit first (Table 10-4). -/
def crcByte (r : BitVec 16) (b : Byte) : BitVec 16 :=
  [7, 6, 5, 4, 3, 2, 1, 0].foldl (fun r i => crcBit r (b.getLsbD i)) r

/-- The CRC of a run of bytes, from the starting value FFFFh (Table 10-4). -/
def crc (bytes : List Byte) : BitVec 16 := bytes.foldl crcByte 0xFFFF

/-- The CRC's two bytes as a frame carries them, high byte first (R205). -/
def crcBytes (bytes : List Byte) : List Byte := u16 (crc bytes).toNat

/-! ## Characters (R167, R207) -/

/-- The bits per second of a line speed (Table 8-1). -/
def Speed.baud : Speed → Nat
  | .b9600 => 9600 | .b19200 => 19200 | .b38400 => 38400 | .b57600 => 57600 | .b115200 => 115200

/-- The parity bit of a byte where parity is EVEN: it makes the number of ones even (Table 8-1). -/
def evenParity (b : Byte) : Bool := (List.range 8).foldl (fun p i => p != b.getLsbD i) false

/-- The levels of a character that is sent, bit time by bit time: the start bit, the eight data bits, least
significant first, the parity bit where parity is EVEN, and the stop bit (R167). -/
def characterBits (p : Parity) (b : Byte) : List Bool :=
  let dataBits := (List.range 8).map b.getLsbD
  match p with
  | .none => false :: dataBits ++ [true]
  | .even => false :: dataBits ++ [evenParity b, true]

/-- The character that a line shows where a byte is sent to the part in the format it reads: without parity the stop
bit and the idle line after it, with EVEN the parity bit and the stop bit (R167). -/
def sentAs (p : Parity) (b : Byte) : Received :=
  match p with
  | .none => { value := b, ninth := true, tenth := true }
  | .even => { value := b, ninth := evenParity b, tenth := true }

/-- A byte error: a missing stop bit, or a parity error where parity is EVEN (R167, R170). -/
def byteError (p : Parity) (c : Received) : Bool :=
  match p with
  | .none => !c.ninth
  | .even => c.ninth != evenParity c.value || !c.tenth

/-- What the part drives onto a line: its speed in bits per second, and the characters, each bit time by bit time. -/
structure LineDrive where
  baud : Nat
  characters : List (List Bool)
deriving DecidableEq, Repr

/-- The bytes of a frame as the supervisory line carries them under a port record (R167). -/
def PortConfig.drive (c : PortConfig) (bytes : List Byte) : LineDrive :=
  { baud := c.speed.baud, characters := bytes.map (characterBits c.parity) }

/-! ## Supervisory frames (R205) -/

/-- The lead byte of a supervisory frame (Table 10-3). -/
def leadByte : Byte := 0xA5

/-- The frame of a body at an address (Table 10-3). -/
def frame (address : Nat) (body : List Byte) : List Byte :=
  let covered := byte address :: byte body.length :: body
  leadByte :: covered ++ crcBytes covered

/-- The body of a result: the request's code, the status, the result data (R205). -/
def Result.body (r : Result) : List Byte := r.code :: r.status.code :: r.data

/-- A result's frame, at the part's address in effect (R172, R168). -/
def Result.frame (address : Nat) (r : Result) : List Byte := Machine.frame address r.body

/-! ## Field link frames (R207) -/

/-- The poll frame of a transaction (Table 10-11). -/
def Transaction.pollFrame (t : Transaction) : List Byte :=
  let covered := [byte t.station.val, t.tag, if t.permitValid then 1 else 0, t.permits.setWidth 8]
  0xC3 :: covered ++ crcBytes covered

/-- The poll as the field link carries it: 57,600 baud, no parity (R207). -/
def Transaction.drive (t : Transaction) : LineDrive :=
  { baud := 57600, characters := t.pollFrame.map (characterBits .none) }

/-- The four channel readings of a reply's bytes 3 to 8 (Table 10-12). -/
def readings (feedback level e0 e1 e2 e3 : Byte) : Vector Reading 4 :=
  #v[{ feedback := feedback.getLsbD 0, level := level.getLsbD 0, edges := e0.toNat },
     { feedback := feedback.getLsbD 1, level := level.getLsbD 1, edges := e1.toNat },
     { feedback := feedback.getLsbD 2, level := level.getLsbD 2, edges := e2.toNat },
     { feedback := feedback.getLsbD 3, level := level.getLsbD 3, edges := e3.toNat }]

/-- The twelve bytes of a good reply of a station to a tag (Table 10-12); the trailer's value is free. -/
def replyFrame (station : StationId) (tag feedback level e0 e1 e2 e3 trailer : Byte) : List Byte :=
  let covered := [byte station.val, tag, feedback, level, e0, e1, e2, e3]
  0x3C :: covered ++ crcBytes covered ++ [trailer]

/-- The judgement of the bytes taken as the reply to a poll (R136, R207): the readings of a good reply,
or nothing where the reply is cut short, has another lead byte, fails its CRC, or carries another station
number or another tag. -/
def judgeReply (t : Transaction) (bytes : List Byte) : Option (Vector Reading 4) :=
  match bytes with
  | [lead, station, tag, feedback, level, e0, e1, e2, e3, c0, c1, _trailer] =>
    if lead = 0x3C ∧ station = byte t.station.val ∧ tag = t.tag ∧
        [c0, c1] = crcBytes [station, tag, feedback, level, e0, e1, e2, e3] then
      some (readings feedback level e0 e1 e2 e3)
    else none
  | _ => none

end Sys2Proof.Machine
end

