-- ==== Sys2Proof/Machine/Plant.lean ====
section
/-! DEFINITION. What the part derives from its records whenever they are read: membership and the need
graph (R7, R9), the live conditions of loads and groups (R20, R21), hold coverage and counts (R51, R52),
and the plant validation (R15). -/

namespace Sys2Proof.Machine

/-- Load slots in ascending number. -/
def allLoads : List LoadId := List.finRange 64

/-- Groups in ascending number. -/
def allGroups : List GroupId := List.finRange 8

/-- Stations in ascending number. -/
def allStations : List StationId := List.finRange 16

/-- Panels in ascending number. -/
def allPanels : List PanelId := List.finRange 8

/-- Call lines in ascending number. -/
def allCalls : List CallId := List.finRange 4

/-! ## Records -/

/-- The configuration of a slot (Table 1-1). -/
def Part.config (s : Part) (n : LoadId) : LoadConfig := s.cfg.loads[n]

/-- The state record of a slot (Table 2-1). -/
def Part.load (s : Part) (n : LoadId) : LoadRecord := s.loads[n]

/-- A group's record (Table 1-2). -/
def Part.group (s : Part) (g : GroupId) : GroupConfig := s.cfg.groups[g]

/-- A station's record (Table 6-1). -/
def Part.station (s : Part) (k : StationId) : Station := s.flm.stations[k]

/-- The present uptime second (R105). -/
def Part.now (s : Part) : Nat := s.ncc.uptime

/-- The present uptime minute (R105). -/
def Part.minute (s : Part) : Nat := s.now / 60

/-- The plant mode in force (R116). -/
def Part.mode (s : Part) : Mode :=
  match s.ncc.mode with
  | .setup => .setup
  | .day _ _ => .day
  | .windDown _ _ => .windDown
  | .night _ _ _ => .night
  | .wake _ => .wake

/-- A slot whose in_use field is yes (R1). -/
def Part.inUse (s : Part) (n : LoadId) : Bool := (s.config n).inUse

/-- Load n is on station n div 4 (R1). -/
def stationOf (n : LoadId) : StationId := ⟨n.val / 4, by omega⟩

/-- The slot on a station's channel (R131). -/
def slotOf (k : StationId) (c : Fin 4) : LoadId := ⟨4 * k.val + c.val, by omega⟩

/-- A station's four slots, channel 0 first (R131). -/
def slotsOf (k : StationId) : List LoadId := (List.finRange 4).map (slotOf k)

/-- Load n is on channel n mod 4 (R1). -/
def channelOf (n : LoadId) : Fin 4 := ⟨n.val % 4, by omega⟩

/-- A station is polled while at least one of its four slots is in use (R132). -/
def Settings.polled (c : Settings) (k : StationId) : Bool := (slotsOf k).any fun n => c.loads[n].inUse

/-- The station is in the polled set (R132). -/
def Part.polled (s : Part) (k : StationId) : Bool := s.cfg.polled k

/-! ## Membership and the need graph (R5, R7, R9) -/

/-- The load is a member of the group: in use, naming it, the group itself in use (R7). -/
def Part.memberOf (s : Part) (n : LoadId) (g : GroupId) : Bool :=
  (s.group g).inUse && s.inUse n && (s.config n).group = some g

/-- A group's members, in ascending number (R7). -/
def Part.members (s : Part) (g : GroupId) : List LoadId := allLoads.filter fun n => s.memberOf n g

/-- The group a load is a member of, if any (R7). -/
def Part.groupOf (s : Part) (n : LoadId) : Option GroupId :=
  match (s.config n).group with
  | some g => if s.memberOf n g then some g else none
  | none => none

/-- A zone's members, in ascending number (R5). -/
def Part.zoneMembers (s : Part) (z : ZoneId) : List LoadId :=
  allLoads.filter fun n => s.inUse n && (s.config n).zone = z

/-- The need names the load, directly or as a member of its group (R9, R86). -/
def Part.needCovers (s : Part) (need : Need) (j : LoadId) : Bool :=
  match need with
  | .load i => i = j
  | .group g => s.memberOf j g

/-- The need graph has an edge from k to j (R9). -/
def Part.edge (s : Part) (k j : LoadId) : Bool :=
  s.inUse k && s.inUse j && (s.config k).needs.any fun need => s.needCovers need j

/-- The in-use loads with a need LOAD j, in ascending number (R9). -/
def Part.directDependents (s : Part) (j : LoadId) : List LoadId :=
  allLoads.filter fun k => s.inUse k && (s.config k).needs.contains (.load j)

/-- The in-use loads with a need GROUP g, in ascending number (R9). -/
def Part.groupDependents (s : Part) (g : GroupId) : List LoadId :=
  allLoads.filter fun k => s.inUse k && (s.config k).needs.contains (.group g)

/-- The in-use loads from which a path of the given number of edges starts in the need graph (R9). -/
def Part.pathStarts (s : Part) : Nat → List LoadId
  | 0 => allLoads.filter s.inUse
  | k + 1 =>
    let longer := s.pathStarts k
    allLoads.filter fun j => longer.any fun i => s.edge j i

/-- The need graph has a cycle: among 64 loads, exactly when a path of 64 edges exists (R9). -/
def Part.hasCycle (s : Part) : Bool := !(s.pathStarts 64).isEmpty

/-- The loads that lie within the given number of edges of the loads of a list (R15). -/
def Part.within (s : Part) (from_ : List LoadId) : Nat → List LoadId
  | 0 => from_
  | k + 1 =>
    let near := s.within from_ k
    allLoads.filter fun j => near.contains j || near.any fun i => s.edge i j

/-- A path of one or more edges leads from the load back to itself (R15). -/
def Part.onCycle (s : Part) (j : LoadId) : Bool :=
  (s.within (allLoads.filter fun i => s.edge j i) 63).contains j

/-- The number of edges in the longest path that starts at j; meaningful without a cycle (R9). -/
def Part.depthOf (s : Part) (j : LoadId) : Nat :=
  (List.range 63).countP fun k => (s.pathStarts (k + 1)).contains j

/-- The depth the Load Table keeps for j: none while the graph has a cycle (R9). DESIGN CHOICE (log entry 13): R9
keeps a depth for an in-use load alone, and R12 does not say what READ CONFIG gives for a slot not in use; there the
model gives none. -/
def Part.depth (s : Part) (j : LoadId) : Option Nat :=
  if s.inUse j && !s.hasCycle then some (s.depthOf j) else none

/-! ## States and conditions (R20, R21) -/

/-- The run permit of a state (Table 2-2); UNREACHABLE has none, and no poll carries one for it. -/
def LoadPhase.permit : LoadPhase → Bool
  | .unused | .localRun | .watch | .starting | .unreachable => true
  | .stopping _ | .off | .queued | .override | .fault _ => false

/-- LOCAL or WATCH. -/
def LoadPhase.running : LoadPhase → Bool
  | .localRun | .watch => true
  | _ => false

/-- STOPPING. -/
def LoadPhase.isStopping : LoadPhase → Bool
  | .stopping _ => true
  | _ => false

/-- FAULT, either cause. -/
def LoadPhase.isFault : LoadPhase → Bool
  | .fault _ => true
  | _ => false

/-- Active: every state but OFF, UNUSED and FAULT(NO_START) (R21). -/
def LoadPhase.active : LoadPhase → Bool
  | .off | .unused | .fault .noStart => false
  | _ => true

/-- The running state for the mode: LOCAL in SETUP and DAY, WATCH in the others (R20). -/
def runningPhase (m : Mode) : LoadPhase :=
  match m with
  | .setup | .day => .localRun
  | .windDown | .night | .wake => .watch

/-- Up: feedback on in LOCAL, WATCH, OVERRIDE or UNREACHABLE (R21). -/
def LoadRecord.up (r : LoadRecord) : Bool :=
  r.feedback && (r.phase.running || r.phase = .override || r.phase = .unreachable)

/-- The load is up (R21). -/
def Part.up (s : Part) (n : LoadId) : Bool := (s.load n).up

/-- The load is active (R21). -/
def Part.active (s : Part) (n : LoadId) : Bool := (s.load n).phase.active

/-- The load satisfies a need on it: LOCAL or WATCH with feedback on (R21). -/
def Part.serving (s : Part) (n : LoadId) : Bool := (s.load n).phase.running && (s.load n).feedback

/-- A need is satisfied (R21). -/
def Part.needSatisfied (s : Part) : Need → Bool
  | .load j => s.serving j
  | .group g => (s.group g).required ≤ (s.members g).countP s.serving

/-- Every need of the load is satisfied (R21, R99). -/
def Part.needsSatisfied (s : Part) (n : LoadId) : Bool := (s.config n).needs.all s.needSatisfied

/-! ## Holds (R51, R52, R57) -/

/-- The loads a target covers (R51). -/
def Part.covers (s : Part) (t : Target) (n : LoadId) : Bool :=
  match t with
  | .load j => j = n
  | .zone z => s.inUse n && (s.config n).zone = z
  | .group _ => false

/-- The covered loads in ascending number (R61, R63). -/
def Part.covered (s : Part) (t : Target) : List LoadId := allLoads.filter (s.covers t)

/-- The number of live KEEP_ON holds that cover the load (R52). -/
def Part.onCount (s : Part) (n : LoadId) : Nat :=
  s.holds.countP fun h => h.kind = .keepOn && s.covers h.target n

/-- The number of live KEEP_OFF holds that cover the load (R52). -/
def Part.offCount (s : Part) (n : LoadId) : Nat :=
  s.holds.countP fun h => h.kind = .keepOff && s.covers h.target n

/-- The number of live KEEP_ON holds with target GROUP g (R52). -/
def Part.groupOnCount (s : Part) (g : GroupId) : Nat :=
  s.holds.countP fun h => h.kind = .keepOn && h.target = .group g

/-- A group has floor demand (R21). -/
def Part.floorDemand (s : Part) (g : GroupId) : Bool :=
  0 < s.groupOnCount g || (s.groupDependents g).any s.active

/-- The closure load set after the given number of rounds of following LOAD needs (R57). -/
def Part.closureLoads (s : Part) (t : Target) : Nat → List LoadId
  | 0 => s.covered t
  | k + 1 =>
    let set := s.closureLoads t k
    allLoads.filter fun j => set.contains j || set.any fun i => (s.config i).needs.contains (.load j)

/-- The closure load set of a KEEP_ON target (R57): 63 rounds reach every load that needs can reach. -/
def Part.closureLoadSet (s : Part) (t : Target) : List LoadId := s.closureLoads t 63

/-- The closure group set of a KEEP_ON target (R57). -/
def Part.closureGroupSet (s : Part) (t : Target) : List GroupId :=
  allGroups.filter fun g =>
    t = .group g || (s.closureLoadSet t).any fun i => (s.config i).needs.contains (.group g)

/-- The KEEP_ON check of R58 fails for the target. -/
def Part.keepOnConflict (s : Part) (t : Target) : Bool :=
  (s.closureLoadSet t).any (fun n => 0 < s.offCount n) ||
  (s.closureGroupSet t).any fun g =>
    (s.members g).countP (fun n => s.offCount n = 0) < (s.group g).required

/-- The KEEP_OFF check of R59 fails for the target. -/
def Part.keepOffConflict (s : Part) (t : Target) : Bool :=
  let keepOns := (s.holds.filter fun h => h.kind = .keepOn).map Hold.target
  (s.covered t).any fun n =>
    0 < s.onCount n ||
    keepOns.any (fun h => (s.closureLoadSet h).contains n) ||
    match s.groupOf n with
    | some g =>
      keepOns.any (fun h => (s.closureGroupSet h).contains g) &&
      decide ((s.members g).countP (fun m => s.offCount m = 0 && !s.covers t m) < (s.group g).required)
    | none => false

/-- A hold reads SATISFIED (R74). -/
def Part.holdSatisfied (s : Part) (h : Hold) : Bool :=
  match h.kind, h.target with
  | .keepOn, .group g => (s.group g).required ≤ (s.members g).countP s.up
  | .keepOn, t => (s.covered t).all s.up
  | .keepOff, t => (s.covered t).all fun n => (s.load n).phase = .off || (s.load n).phase.isFault

/-- A panel's hold: owner PANEL p, KEEP_ON, target the panel's zone (R157). -/
def Part.panelHold (s : Part) (p : PanelId) : Option Hold :=
  s.holds.find? fun h => h.owner = .panel p && h.kind = .keepOn && h.target = .zone s.cfg.panels[p].zone

/-! ## Stops (R29, R34) -/

/-- The group part of the stop conditions: a member of a group with floor demand leaves at least the
required count of up members without it (R29 condition 9, R34). -/
def Part.groupAllowsStop (s : Part) (n : LoadId) : Bool :=
  match s.groupOf n with
  | some g =>
    !s.floorDemand g || (s.group g).required ≤ (s.members g).countP fun m => m != n && s.up m
  | none => true

/-- The stop conditions of R34 other than the station condition. -/
def Part.dependentsAllowStop (s : Part) (n : LoadId) : Bool :=
  !(s.directDependents n).any s.active && s.groupAllowsStop n

/-- The load's station is ONLINE; a station outside the polled set reads as ONLINE (R132). -/
def Part.stationOnline (s : Part) (n : LoadId) : Bool := (s.station (stationOf n)).grade = .online

/-- The stop conditions of R34. -/
def Part.stopConditions (s : Part) (n : LoadId) : Bool := s.stationOnline n && s.dependentsAllowStop n

/-- The load's min_run_s has elapsed since its last admission, or it has had none (R29 condition 5). -/
def Part.minRunMet (s : Part) (n : LoadId) : Bool :=
  match (s.load n).startedAt with
  | some a => decide ((s.config n).minRunS ≤ s.now - a)
  | none => true

/-- The nine conditions of an idle stop (R29). -/
def Part.idleStopDue (s : Part) (n : LoadId) : Bool :=
  s.mode = .night && (s.load n).phase = .watch && s.stationOnline n &&
  (s.config n).idleMin * 60 ≤ s.now - (s.load n).lastActivity &&
  s.minRunMet n && !(s.config n).nightExempt && s.onCount n = 0 && s.dependentsAllowStop n

/-! ## Plant validation (R13 to R15) -/

/-- Reason codes (Table 1-3). -/
inductive FailureReason
  | needUnknown
  | needSelf
  | groupShort
  | cycle
  | tooDeep
  | callUnknown
  | panelEmpty
deriving DecidableEq, Repr

/-- Failure kinds (R14). -/
inductive FailureKind
  | load
  | group
  | call
  | panel
deriving DecidableEq, Repr

/-- A validation failure (R14). -/
structure Failure where
  kind : FailureKind
  index : Nat
  reason : FailureReason
deriving DecidableEq, Repr

/-- The CONFIG result's data: kind, index and reason code (R206, Table 10-6). -/
def Failure.bytes (f : Failure) : List Byte :=
  [match f.kind with | .load => 0 | .group => 1 | .call => 2 | .panel => 3,
   BitVec.ofNat 8 f.index,
   match f.reason with
   | .needUnknown => 1 | .needSelf => 2 | .groupShort => 3 | .cycle => 4 | .tooDeep => 5
   | .callUnknown => 6 | .panelEmpty => 7]

/-- What pass 1 finds wrong with one need of a load (R15). -/
def Part.needFailure (s : Part) (n : LoadId) (need : Need) : Option FailureReason :=
  match need with
  | .load j => if !s.inUse j then some .needUnknown else if j = n then some .needSelf else none
  | .group g =>
    if !(s.group g).inUse then some .needUnknown
    else if (s.config n).group = some g then some .needSelf else none

/-- Pass 1, needs (R15). -/
def Part.checkNeeds (s : Part) : Option Failure :=
  allLoads.findSome? fun n =>
    if s.inUse n then
      ((s.config n).needs.findSome? (s.needFailure n)).map fun r => ⟨.load, n.val, r⟩
    else none

/-- Pass 2, group floors (R15). -/
def Part.checkGroups (s : Part) : Option Failure :=
  allGroups.findSome? fun g =>
    if (s.group g).inUse && decide ((s.members g).length < (s.group g).required) then
      some ⟨.group, g.val, .groupShort⟩
    else none

/-- Pass 3, cycles (R15). -/
def Part.checkCycles (s : Part) : Option Failure :=
  if s.hasCycle then (allLoads.find? s.onCycle).map fun n => ⟨.load, n.val, .cycle⟩ else none

/-- Pass 4, depth (R15): a path of five edges starts at the load exactly when its depth exceeds 4. -/
def Part.checkDepth (s : Part) : Option Failure :=
  (s.pathStarts 5).head?.map fun n => ⟨.load, n.val, .tooDeep⟩

/-- Pass 5, the call lines (R15). -/
def Part.checkCalls (s : Part) : Option Failure :=
  allCalls.findSome? fun c =>
    if s.cfg.calls[c].inUse && !(s.group s.cfg.calls[c].group).inUse then
      some ⟨.call, c.val, .callUnknown⟩
    else none

/-- Pass 5, the panels (R15). -/
def Part.checkPanels (s : Part) : Option Failure :=
  allPanels.findSome? fun p =>
    if s.cfg.panels[p].inUse && (s.zoneMembers s.cfg.panels[p].zone).isEmpty then
      some ⟨.panel, p.val, .panelEmpty⟩
    else none

/-- The plant validation: the first failure of the five passes, if any (R15). -/
def Part.validate (s : Part) : Option Failure :=
  s.checkNeeds <|> s.checkGroups <|> s.checkCycles <|> s.checkDepth <|> s.checkCalls <|> s.checkPanels

end Sys2Proof.Machine
end

