-- ==== Sys2Proof/Machine/Flags.lean ====
section
/-! DEFINITION. The Attention Logic's flags: raising a cause (R190), the signalled set and the attention
line (R189, R191), and the highest signalled cause (R192). -/

namespace Sys2Proof.Machine

/-- The set that holds one cause (Table 10-5). -/
def Cause.bit (c : Cause) : BitVec 8 := 1#8 <<< c.index.val

/-- A raise is taken: the cause's pending flag is set and its detail replaced (R190). -/
def Part.raise (s : Part) (d : Detail) : Part :=
  { s with atl :=
    { pending := s.atl.pending ||| d.cause.bit
      details := s.atl.details.set d.cause.index (some d) } }

/-- The signalled set: the causes both pending and enabled (R189). -/
def Part.signalled (s : Part) : BitVec 8 := s.atl.pending &&& s.cfg.enable

/-- The part works: it is not in the held condition (R203, R204). -/
def Part.working (s : Part) : Bool := !s.power.supplyLow && !s.power.resetLow

/-- The attention line is asserted (R191); while the part is held it is released (Table 10-2). -/
def Part.attentionLine (s : Part) : Bool := s.working && s.signalled != 0

/-- The rank from 0 of the highest signalled cause (R189, R192). -/
def Part.highest (s : Part) : Option (Fin 8) := (List.finRange 8).find? fun i => s.signalled.getLsbD i

end Sys2Proof.Machine
end

