-- ==== Sys2Proof/Machine/Demand.lean ====
section
/-! DEFINITION. The Demand Governor's arithmetic: inrush windows and contributions (R91), the estimate D
(R92), the projection P (R97), the interval's figures (R94, R96), and the motor limits (R89, R90). -/

namespace Sys2Proof.Machine

/-- The load is in its inrush window (R91). -/
def Part.inWindow (s : Part) (n : LoadId) : Bool :=
  match (s.load n).startedAt with
  | some a => decide (s.now - a < (s.config n).accelS)
  | none => false

/-- The demand of a load `t` seconds into its inrush window (R91). -/
def windowDemand (c : LoadConfig) (t : Nat) : Nat :=
  c.runKw + ceilDiv ((c.inrushKw - c.runKw) * (c.accelS - t)) c.accelS

/-- A load's contribution to D (R91, R92). -/
def Part.contribution (s : Part) (n : LoadId) : Nat :=
  if s.inWindow n then windowDemand (s.config n) (s.now - (s.load n).startedAt.getD 0)
  else if s.up n then (s.config n).runKw else 0

/-- D, the estimated instantaneous demand, from the states and windows as they stand (R92). -/
def Part.demandNow (s : Part) : Nat := (allLoads.map s.contribution).sum

/-- L, the interval length in seconds (R94). -/
def Part.intervalLength (s : Part) : Nat := s.cfg.meter.intervalMin * 60

/-- t, the seconds since the boundary at which a full interval began, by the formula of R94. In the second of the next
boundary, before that is taken, the formula gives 0 where the seconds since the boundary are L; the model takes the
formula. DESIGN CHOICE: log entry 25. -/
def Part.intervalTime (s : Part) : Nat :=
  (s.ncc.clock.minute % s.cfg.meter.intervalMin) * 60 + s.ncc.clock.second

/-- A boundary of the present second that is still to be taken stays due only where one falls there under the
interval length now in force (R94). -/
def NightCycle.keepBoundary (c : NightCycle) (intervalMin : Nat) : NightCycle :=
  { c with intervalDue := c.intervalDue && c.clock.minute % intervalMin = 0 }

/-- last_interval_kw of an interval that closes with energy e (R96). -/
def intervalKw (e l : Nat) : Nat := ceilDiv (36 * e) (10 * l)

/-- P, the projection for a candidate load (R97). -/
def Part.projection (s : Part) (k : LoadId) : Nat :=
  ceilDiv (36 * s.dgv.energy +
      10 * (s.demandNow + (s.config k).runKw) * (s.intervalLength - s.intervalTime))
    (10 * s.intervalLength)

/-- The four conditions under which a projection is taken (R97). -/
def Part.projectionOn (s : Part) : Bool :=
  s.cfg.meter.inUse && 0 < s.dgv.ceilingD.value && s.ncc.clock.valid && !s.dgv.isPartial

/-- The interval test: the projection passes, or is not taken (R97, R100). -/
def Part.intervalTest (s : Part) (k : LoadId) : Bool :=
  !s.projectionOn || s.projection k ≤ s.dgv.ceilingD.value

/-- The instantaneous test (R100). -/
def Part.instantTest (s : Part) (k : LoadId) : Bool :=
  s.demandNow + (s.config k).inrushKw ≤ s.dgv.ceilingI.value

/-- The load is in its minimum off time (R90). -/
def Part.inMinOff (s : Part) (n : LoadId) : Bool :=
  match (s.load n).stoppedAt with
  | some a => decide (s.now - a < (s.config n).minOffS)
  | none => false

/-- The load's own condition that keeps its entry waiting, the first that applies (R99). -/
def Part.ownWait (s : Part) (n : LoadId) : Option Wait :=
  if !s.needsSatisfied n then some .needs
  else if s.inMinOff n then some .minOff
  else if (s.config n).startsPerHour ≤ (s.load n).startHistory.length then some .budget
  else if !s.stationOnline n then some .link
  else none

/-- The number of loads in their inrush windows (R103). -/
def Part.windowCount (s : Part) : Nat := allLoads.countP s.inWindow

/-- An entry of origin WAKE is queued, or a load of starting origin WAKE is STARTING (R124). -/
def Part.wakeWork (s : Part) : Bool :=
  s.dgv.queue.any (fun e => e.origin = .wake) ||
  allLoads.any fun n => (s.load n).phase = .starting && s.dgv.startingOrigin[n] = some .wake

end Sys2Proof.Machine
end

