-- ==== Sys2Proof/Machine/Schedule.lean ====
section
/-! DEFINITION. The schedule's arithmetic: forward and backward distance (R107), the points of the ACTIVE
plan (R114), the next night (R115), the wake lead (R121), and the classification of a moment (R127). -/

namespace Sys2Proof.Machine

/-- Forward distance from minute c to minute m, 1 to 10,080 (R107). -/
def forwardDistance (c m : Nat) : Nat := (m + Config.weekMinutes - c - 1) % Config.weekMinutes + 1

/-- Backward distance from minute c to minute m, 0 to 10,079 (R107). -/
def backwardDistance (c m : Nat) : Nat := (c + Config.weekMinutes - m) % Config.weekMinutes

/-- Uptime at which plant clock second 0 of the present minute fell; before the last reset it is negative
(R107). -/
def Part.minuteStart (s : Part) : Int := (s.now : Int) - s.ncc.clock.second

/-- Uptime at which the next occurrence of a minute of week later than the present minute begins (R107). -/
def Part.nextOccurrence (s : Part) (m : Nat) : Int :=
  s.minuteStart + 60 * (forwardDistance s.ncc.clock.minute m : Int)

/-- The work days of a plan, Monday first (Table 5-1 row 4). -/
def Plan.days (p : Plan) : List Nat := (List.range 7).filter fun d => p.workDays.getLsbD d

/-- The minutes of week of a plan's night_starts (R114). -/
def Plan.nightMinutes (p : Plan) : List Nat := p.days.map fun d => d * Config.dayMinutes + p.windDownTime

/-- The minutes of week at which a plan may wake: wake_time on each work day (R114). -/
def Plan.wakeMinutes (p : Plan) : List Nat := p.days.map fun d => d * Config.dayMinutes + p.wakeTime

/-- A schedule is in force (R114). -/
def Part.scheduled (s : Part) : Bool :=
  s.cfg.active.valid && s.cfg.active.workDays != 0 && s.ncc.clock.valid

/-- The element of a list whose image under f is least; the first where several are. -/
def leastBy {α : Type} (f : α → Int) : List α → Option α
  | [] => none
  | a :: l =>
    match leastBy f l with
    | none => some a
    | some b => if f b < f a then some b else some a

/-- The first occurrence of a night_start, next in the week at `first`, that is later than a cancelled-night
mark; the occurrences are a week apart (R115). -/
def afterMark (first : Int) : Option Nat → Int
  | none => first
  | some m =>
    if (m : Int) < first then first
    else first + 604800 * (((m : Int) - first) / 604800 + 1)

/-- The next night of DAY for a cancelled-night mark (R115); absent while no schedule is in force. -/
def Part.nextNight (s : Part) (mark : Option Nat) : Option NextNight :=
  if s.scheduled then
    (leastBy id (s.cfg.active.nightMinutes.map fun m => afterMark (s.nextOccurrence m) mark)).map
      fun d => ⟨d.toNat, (d - 60 * (s.cfg.active.warningMin : Int)).toNat⟩
  else none

/-- The wake target of NIGHT: the first instant later than the present clock minute at wake_time of a work
day (R120 step 1); absent while no schedule is in force. -/
def Part.wakeTarget (s : Part) : Option WakeTarget :=
  if s.scheduled then
    (leastBy s.nextOccurrence s.cfg.active.wakeMinutes).map fun m => ⟨m, (s.nextOccurrence m).toNat⟩
  else none

/-- The latest night_start at or before the present second, as its minute of week (R127). -/
def Part.latestNight (s : Part) : Option Nat :=
  leastBy (fun m => (backwardDistance s.ncc.clock.minute m : Int)) s.cfg.active.nightMinutes

/-- The wake target of the night_start at a minute of week whose latest occurrence is meant: the minute of
week and the uptime of the first work-day wake_time after it (R114, R127). -/
def Part.wakeTargetAfter (s : Part) (nightMinute : Nat) : Option (Nat × Int) :=
  let began := s.minuteStart - 60 * (backwardDistance s.ncc.clock.minute nightMinute : Int)
  (leastBy (fun m => (forwardDistance nightMinute m : Int)) s.cfg.active.wakeMinutes).map
    fun m => (m, began + 60 * (forwardDistance nightMinute m : Int))

/-- The wake target of the latest night_start (R127, R128). -/
def Part.latestWakeTarget (s : Part) : Option (Nat × Int) := s.latestNight.bind s.wakeTargetAfter

/-- The class of the present moment, with the point its move needs (R127). -/
inductive MomentClass
  | day
  | windDown (nightStart : Nat)
  | night (target : WakeTarget)
deriving DecidableEq, Repr

/-- Outside every night: WIND_DOWN inside the next night's warning period, else DAY (R127). -/
def Part.classifyAwake (s : Part) : MomentClass :=
  match s.nextNight none with
  | some nn => if nn.warnStart ≤ s.now then .windDown nn.nightStart else .day
  | none => .day

/-- The classification of the present moment while a schedule is in force (R127). -/
def Part.classify (s : Part) : MomentClass :=
  match s.latestWakeTarget with
  | some (m, t) => if (s.now : Int) < t then .night ⟨m, t.toNat⟩ else s.classifyAwake
  | none => s.classifyAwake

/-- The wake lead, in seconds (R121). -/
def Part.leadSeconds (s : Part) : Nat :=
  let asleep := allLoads.filter fun n => s.inUse n && (s.load n).phase = .off && s.offCount n = 0
  let w := (asleep.map fun n => (s.config n).inrushKw * (s.config n).accelS).sum
  let r0 := ((allLoads.filter s.up).map fun n => (s.config n).runKw).sum
  let half := ceilDiv (asleep.map fun n => (s.config n).runKw).sum 2
  let h := max Config.headroomMin ((s.dgv.ceilingI.value : Int) - r0 - half)
  let longest := (asleep.map fun n => (s.config n).accelS).foldl max 0
  min Config.leadMax (s.cfg.active.baseLeadS + ceilDiv w h.toNat + longest)

/-- wake_begin for a wake target and a lead (R122). -/
def wakeBeginFor (target : Option WakeTarget) (lead : Nat) : Option Nat :=
  target.map fun t => t.at_ - 60 * ceilDiv lead 60

end Sys2Proof.Machine
end

