-- ==== Sys2Proof/Machine/Ops.lean ====
section
/-! DEFINITION. The shared operations of the Load Table and the Demand Governor: named updates of the
state, stops and their re-evaluation (R29 to R34), the Start Queue with pull-up, withdrawal and the need
review (R79 to R88), a load's entries to OFF, FAULT and completion (R32, R33, R37, R38), and the
consequences that close the handling of an event (R92, R98). -/

namespace Sys2Proof.Machine

/-! ## Named updates -/

/-- Replace a load state record. -/
def Part.setLoad (s : Part) (n : LoadId) (r : LoadRecord) : Part := { s with loads := s.loads.set n r }

/-- Replace a station record. -/
def Part.setStation (s : Part) (k : StationId) (r : Station) : Part :=
  { s with flm := { s.flm with stations := s.flm.stations.set k r } }

/-- Replace the Start Queue. -/
def Part.setQueue (s : Part) (q : List Entry) : Part := { s with dgv := { s.dgv with queue := q } }

/-- Start an admission scan (R98). -/
def Part.startScan (s : Part) : Part := { s with dgv := { s.dgv with scanDue := true } }

/-- Record, or drop, a load's starting origin (R101). -/
def Part.setStartingOrigin (s : Part) (n : LoadId) (o : Option Origin) : Part :=
  { s with dgv := { s.dgv with startingOrigin := s.dgv.startingOrigin.set n o } }

/-- Replace the mode with its deadlines. -/
def Part.setMode (s : Part) (m : ModeState) : Part := { s with ncc := { s.ncc with mode := m } }

/-- A point at which the manual allows either of several orders has been passed (log entry 3). -/
def Part.nextChoice (s : Part) : Part := { s with freeCount := s.freeCount + 1 }

/-! ## The inputs of the checks (R30) -/

/-- What the checks of a load read and R30 lists as their inputs, with whether a live hold asks for the floor of
its group: a rise of group_on_count from 0 to 1 and a fall to 0 are inputs of the members' checks even where a
need keeps the group's floor demand (R62, R71). -/
structure CheckInputs where
  lastActivity : Nat
  dependents : List LoadPhase
  members : List (LoadPhase × Bool)
  floorDemand : Bool
  floorHeld : Bool
  onCount : Nat
  grade : Grade
deriving DecidableEq, Repr

/-- The inputs of R30, R62 and R71 for a load, as they stand. -/
def Part.checkInputs (s : Part) (n : LoadId) : CheckInputs where
  lastActivity := (s.load n).lastActivity
  dependents := (s.directDependents n).map fun k => (s.load k).phase
  members :=
    match s.groupOf n with
    | some g => (s.members g).map fun m => ((s.load m).phase, (s.load m).feedback)
    | none => []
  floorDemand := match s.groupOf n with | some g => s.floorDemand g | none => false
  floorHeld := match s.groupOf n with | some g => decide (0 < s.groupOnCount g) | none => false
  onCount := s.onCount n
  grade := (s.station (stationOf n)).grade

/-- A load whose idle stop or pending KEEP_OFF stop may be re-evaluated (R30, R34). -/
def Part.checkable (s : Part) (n : LoadId) : Bool :=
  (s.load n).phase = .watch || ((s.load n).stopPending && (s.load n).phase.running)

/-- The loads whose checks R30 calls for between two states of a handling: an input differs, or has changed on the way
and changed back. -/
def Part.changedInputs (before after : Part) : List LoadId :=
  allLoads.filter fun n => after.checkable n &&
    (before.checkInputs n != after.checkInputs n ||
      (after.checksDue.drop before.checksDue.length).contains n)

/-- The checks of which a change has just moved an input fall due; they are taken with the others of the handling
(R30). -/
def Part.noteInputs (before after : Part) : Part :=
  { after with checksDue := after.checksDue ++ before.changedInputs after }

/-- A change of a load's record that is a change of its state or feedback: the checks it is an input of fall due
(R30). -/
def Part.moveLoad (s : Part) (n : LoadId) (r : LoadRecord) : Part := s.noteInputs (s.setLoad n r)

/-- A change of a load's state; changed is set (R44). -/
def Part.setPhase (s : Part) (n : LoadId) (p : LoadPhase) : Part :=
  s.moveLoad n { s.load n with phase := p, changed := true }

/-- The checks noted since an earlier state are noted no more. -/
def Part.settleChecks (before after : Part) : Part := { after with checksDue := before.checksDue }

/-! ## Reports of a load's change (R92, R98) -/

/-- Some load's need is satisfied after an event and was not before it (R98). -/
def Part.needBecameSatisfied (before after : Part) : Bool :=
  allLoads.any fun k =>
    after.inUse k &&
    (after.config k).needs.any fun need => after.needSatisfied need && !before.needSatisfied need

/-- The Load Table reports a change of one load's state or feedback: D is recomputed, and a fall of it, which is a
fall of that load's contribution, starts a scan; so does a need that the change has satisfied, which only a load that
begins to serve can bring about (R92, R98). So a fall is seen where a later change of the same handling makes good for
it. -/
def Part.reportChange (before after : Part) (n : LoadId) : Part :=
  if after.contribution n < before.contribution n ||
      (after.serving n && !before.serving n && before.needBecameSatisfied after) then after.startScan
  else after

/-! ## Stopping (R31, R34) and the re-evaluation of R30 -/

/-- A load enters STOPPING (R31), which is reported (R92). -/
def Part.enterStopping (s : Part) (n : LoadId) : Part :=
  s.reportChange (s.moveLoad n { s.load n with phase := .stopping s.now, stopPending := false, changed := true }) n

/-- The KEEP_OFF stop of a load: begun when the stop conditions hold, otherwise left pending (R34). -/
def Part.keepOffStop (s : Part) (n : LoadId) : Part :=
  if (s.load n).phase.running then
    if s.stopConditions n then s.enterStopping n
    else s.setLoad n { s.load n with stopPending := true }
  else s

/-- The check of a load passes now: its idle stop is due, or its pending KEEP_OFF stop may begin (R29, R34). -/
def Part.stopsNow (s : Part) (n : LoadId) : Bool :=
  s.idleStopDue n ||
  ((s.load n).stopPending && (s.load n).phase.running && s.mode != .setup && s.stopConditions n)

/-- The due loads, with those of a second list that are not among them. -/
def joinDue (due more : List LoadId) : List LoadId := due ++ more.filter fun n => !due.contains n

/-- Take the checks of the loads that are due, one after the other, each seeing the state the others have
left, together with those that fall due by a stop so begun (R30). Where several would pass, either may be
taken first: the choice is free. At most 64 loads can stop. -/
def Part.takeChecks : Nat → Part → List LoadId → Part
  | 0, s, _ => s
  | fuel + 1, s, due =>
    match due.filter s.stopsNow with
    | [] => s
    | [n] =>
      let s' := s.enterStopping n
      Part.takeChecks fuel s' (joinDue due (s.changedInputs s'))
    | n :: m :: rest =>
      let pick := (n :: m :: rest).getD (Config.freeChoice s.freeCount % (rest.length + 2)) n
      let s' := s.nextChoice.enterStopping pick
      Part.takeChecks fuel s' (joinDue due (s.changedInputs s'))

/-- Re-evaluate the loads whose inputs an event has changed, be it that they have changed back (R30). -/
def Part.recheck (before after : Part) : Part :=
  before.settleChecks (after.takeChecks 64 (before.changedInputs after))

/-! ## The Start Queue (R78 to R80) -/

/-- The load's entry, if it is queued (R78). -/
def Part.entry? (s : Part) (n : LoadId) : Option Entry := s.dgv.queue.find? fun e => e.load = n

/-- Take a load's entry out of the queue. -/
def Part.removeEntry (s : Part) (n : LoadId) : Part := s.setQueue (s.dgv.queue.filter fun e => e.load != n)

/-- Change the origin of a load's entry; key, place, seq and wait are kept (R79, R80, R86, R87). -/
def Part.setOrigin (s : Part) (n : LoadId) (o : Origin) : Part :=
  s.setQueue (s.dgv.queue.map fun e => if e.load = n then { e with origin := o } else e)

/-- Record the wait of a load's entry (R99, R100). -/
def Part.setWait (s : Part) (n : LoadId) (w : Wait) : Part :=
  s.setQueue (s.dgv.queue.map fun e => if e.load = n then { e with wait := w } else e)

/-- HOLD, CALL and COMMAND rank above WAKE and PULL (Table 4-1). -/
def Origin.high : Origin → Bool
  | .hold | .call | .command => true
  | .wake | .pull _ => false

/-- The origin of an entry, or of a held request, after a second request (R35, R80). -/
def Origin.merge (old new : Origin) : Origin := if new.high && !old.high then new else old

/-- Put an entry at the back of its key: after every entry of an equal or lower key (R79). -/
def atBackOfKey (q : List Entry) (e : Entry) : List Entry :=
  (q.takeWhile fun x => x.key ≤ e.key) ++ e :: (q.dropWhile fun x => x.key ≤ e.key)

/-- Put an entry immediately before the entry of its puller (R79). -/
def beforePuller (q : List Entry) (e : Entry) (puller : LoadId) : List Entry :=
  (q.takeWhile fun x => x.load != puller) ++ e :: (q.dropWhile fun x => x.load != puller)

/-- The queue with a new entry in its place, with its key (R79). -/
def Part.placeEntry (s : Part) (n : LoadId) (o : Origin) : List Entry :=
  let own : Entry :=
    { load := n, origin := o, key := (s.config n).wakePriority, seq := s.dgv.nextSeq }
  match o with
  | .pull p =>
    match s.entry? p with
    | some e => beforePuller s.dgv.queue { own with key := e.key } p
    | none => atBackOfKey s.dgv.queue own
  | _ => atBackOfKey s.dgv.queue own

/-- A new entry is made: it takes the next seq and its place, and the load enters QUEUED (R79, R36). -/
def Part.newEntry (s : Part) (n : LoadId) (o : Origin) : Part :=
  { s with dgv := { s.dgv with queue := s.placeEntry n o, nextSeq := s.dgv.nextSeq + 1 } }.setPhase n .queued

/-- A load wants another: it has a need on it, directly or through its group (R86). -/
def Part.wants (s : Part) (k n : LoadId) : Bool := (s.config k).needs.any fun need => s.needCovers need n

/-- The first wanting load: in queue order, or the lowest-numbered STARTING one (R86). -/
def Part.firstWanting (s : Part) (n : LoadId) : Option LoadId :=
  ((s.dgv.queue.find? fun e => s.wants e.load n).map Entry.load) <|>
    allLoads.find? fun k => (s.load k).phase = .starting && s.wants k n

/-- The entry of origin HOLD or CALL has backing (R86, R80). -/
def Part.backed (s : Part) (n : LoadId) : Bool :=
  0 < s.onCount n || match s.groupOf n with | some g => 0 < s.groupOnCount g | none => false

/-! ## Needs judged (R81) -/

/-- A need is satisfiable, given which loads are available (R81). A need on a load that serves it is satisfied
(R21) and so satisfiable, even where a KEEP_OFF covers that load and it is not available. DEDUCED: log entry 21. -/
def Part.needSatisfiableBy (s : Part) (available : LoadId → Bool) : Need → Bool
  | .load j => s.serving j || available j
  | .group g => (s.group g).required ≤ (s.members g).countP fun m => s.up m || available m

/-- A load is available (R81). The judgement follows needs down the graph, which is never deeper than the
fuel the callers give. -/
def Part.available (s : Part) : Nat → LoadId → Bool
  | 0, _ => false
  | fuel + 1, j =>
    s.inUse j && s.offCount j = 0 &&
    match (s.load j).phase with
    | .unused | .fault _ | .unreachable => false
    | .off | .queued | .stopping _ => (s.config j).needs.all (s.needSatisfiableBy (s.available fuel))
    | .localRun | .watch | .starting | .override => true

/-- A need is satisfiable (R81). -/
def Part.needSatisfiable (s : Part) (need : Need) : Bool := s.needSatisfiableBy (s.available 64) need

/-- Every need of the load is satisfiable (R81). -/
def Part.needsSatisfiable (s : Part) (n : LoadId) : Bool := (s.config n).needs.all s.needSatisfiable

/-! ## Withdrawal (R85 to R87) -/

/-- Settle the orphans of one round of withdrawn pullers in queue order: each takes the first wanting load
as puller, or is withdrawn UNPULLED; answers the loads withdrawn (R87). -/
def Part.settleRound (s : Part) (orphans : List LoadId) : Part × List LoadId :=
  orphans.foldl
    (fun (acc : Part × List LoadId) o =>
      match acc.1.firstWanting o with
      | some k => (acc.1.setOrigin o (.pull k), acc.2)
      | none => ((acc.1.removeEntry o).setPhase o .off, acc.2 ++ [o]))
    (s, [])

/-- The queued loads whose entries were pulled by one of the loads given, in queue order (R87). -/
def Part.orphansOf (s : Part) (gone : List LoadId) : List LoadId :=
  (s.dgv.queue.filter fun e => match e.origin with | .pull p => gone.contains p | _ => false).map Entry.load

/-- Settle the orphans of withdrawn pullers, round after round, until no orphan remains (R87). -/
def Part.settleOrphans : Nat → Part → List LoadId → Part
  | 0, s, _ => s
  | fuel + 1, s, gone =>
    match s.orphansOf gone with
    | [] => s
    | orphans =>
      let r := s.settleRound orphans
      Part.settleOrphans fuel r.1 r.2

/-- The state a withdrawn load goes to (Table 4-2). -/
def WithdrawCause.phase : WithdrawCause → LoadPhase
  | .override => .override
  | .unreachable => .unreachable
  | _ => .off

/-- The withdrawal raises START_FAILED (Table 4-2). -/
def WithdrawCause.raises : WithdrawCause → Bool
  | .holdGone | .unpulled | .setup => false
  | _ => true

/-- Withdraw a load's entry: the entry goes, the load takes its state, START_FAILED is raised where Table
4-2 says so, and the orphans are settled (R85). -/
def Part.withdraw (s : Part) (n : LoadId) (cause : WithdrawCause) : Part :=
  let s := (s.removeEntry n).setPhase n cause.phase
  let s := if cause.raises then s.raise (.startFailed n cause) else s
  Part.settleOrphans 64 s [n]

/-- Re-examine an entry of origin HOLD or CALL that may have lost its backing (R86). -/
def Part.reexamine (s : Part) (n : LoadId) : Part :=
  match s.entry? n with
  | some e =>
    if (e.origin = .hold || e.origin = .call) && !s.backed n then
      match s.firstWanting n with
      | some k => s.setOrigin n (.pull k)
      | none => s.withdraw n .holdGone
    else s
  | none => s

/-! ## Enqueue requests and pull-up (R80, R82 to R84) -/

/-- Members that are up, STARTING or QUEUED (R82, R83). -/
def Part.floorCount (s : Part) (g : GroupId) : Nat :=
  (s.members g).countP fun m => s.up m || (s.load m).phase = .starting || (s.load m).phase = .queued

/-- Ask for OFF, available members of a group in ascending number until the count reaches the required
count; answers the count reached (R82 step 2, R83). -/
def Part.askOffMembers (ask : Part → LoadId → Origin → Part) (s : Part) (g : GroupId) (o : Origin) :
    Part × Nat :=
  (s.members g).foldl
    (fun (acc : Part × Nat) m =>
      if acc.2 < (s.group g).required && (acc.1.load m).phase = .off && acc.1.available 64 m then
        (ask acc.1 m o, acc.2 + 1)
      else acc)
    (s, s.floorCount g)

/-- Ask for STOPPING members not covered by KEEP_OFF in the same way, each request kept (R82 step 2). -/
def Part.askStoppingMembers (ask : Part → LoadId → Origin → Part) (acc : Part × Nat) (g : GroupId)
    (o : Origin) : Part :=
  ((acc.1.members g).foldl
    (fun (acc : Part × Nat) m =>
      if acc.2 < (acc.1.group g).required && (acc.1.load m).phase.isStopping && acc.1.offCount m = 0 then
        (ask acc.1 m o, acc.2 + 1)
      else acc)
    acc).1

/-- Step 2 of pull-up for one need of a load (R82). -/
def Part.pullNeed (ask : Part → LoadId → Origin → Part) (k : LoadId) (s : Part) : Need → Part
  | .load j =>
    if (s.load j).phase = .off || (s.load j).phase.isStopping then ask s j (.pull k) else s
  | .group g => Part.askStoppingMembers ask (s.askOffMembers ask g (.pull k)) g (.pull k)

/-- Step 2 of pull-up: the needs of the load, in list order (R82). -/
def Part.pullNeeds (ask : Part → LoadId → Origin → Part) (s : Part) (k : LoadId) : Part :=
  (s.config k).needs.foldl (Part.pullNeed ask k) s

/-- Make a new entry for a load, apply pull-up, and start a scan if it is still queued (R80, R82). -/
def Part.enqueueNew (ask : Part → LoadId → Origin → Part) (s : Part) (n : LoadId) (o : Origin) : Part :=
  let s := s.newEntry n o
  if s.needsSatisfiable n then (Part.pullNeeds ask s n).startScan else s.withdraw n .needLost

/-- The puller of a request can still stand as its puller: QUEUED or STARTING (R80). -/
def Part.pullerStands (s : Part) (p : LoadId) : Bool :=
  (s.load p).phase = .queued || (s.load p).phase = .starting

/-- A request for an OFF load that is not kept off (R80). -/
def Part.requestOff (ask : Part → LoadId → Origin → Part) (s : Part) (n : LoadId) (o : Origin) : Part :=
  match o with
  | .hold | .call => if s.backed n then Part.enqueueNew ask s n o else s
  | .pull p =>
    if s.pullerStands p then Part.enqueueNew ask s n o
    else
      match s.firstWanting n with
      | some k => Part.enqueueNew ask s n (.pull k)
      | none => s
  | .wake | .command => Part.enqueueNew ask s n o

/-- One enqueue request, taken by the mode and the load's state (R80, R35). Each nested request of pull-up
makes one more load QUEUED, so the callers' fuel of 65 is never used up. -/
def Part.request : Nat → Part → LoadId → Origin → Part
  | 0, s, _, _ => s
  | fuel + 1, s, n, o =>
    if s.mode = .setup then s
    else
      match (s.load n).phase with
      | .off => if 0 < s.offCount n then s else Part.requestOff (Part.request fuel) s n o
      | .queued =>
        match s.entry? n with
        | some e => s.setOrigin n (e.origin.merge o)
        | none => s
      | .stopping _ =>
        let held := match (s.load n).heldEnqueue with | some h => h.merge o | none => o
        s.setLoad n { s.load n with heldEnqueue := some held }
      | _ => s

/-- An enqueue request (R80). -/
def Part.enqueue (s : Part) (n : LoadId) (o : Origin) : Part := Part.request 65 s n o

/-- A floor request for a group (R83). -/
def Part.floorRequest (s : Part) (g : GroupId) (o : Origin) : Part :=
  if s.mode = .setup then s else (s.askOffMembers Part.enqueue g o).1

/-- The origin of a floor request: CALL if call lines alone hold the group, else HOLD (R62). -/
def Part.floorOrigin (s : Part) (g : GroupId) : Origin :=
  if s.holds.all fun h =>
      !(h.kind = .keepOn && h.target = .group g) || match h.owner with | .call _ => true | _ => false
  then .call else .hold

/-- The floor request handed over for a member of a held group (R62 items 2 to 4). -/
def Part.floorForMember (s : Part) (n : LoadId) : Part :=
  match s.groupOf n with
  | some g => if 0 < s.groupOnCount g then s.floorRequest g (s.floorOrigin g) else s
  | none => s

/-- The need review of one queued load (R84). -/
def Part.reviewEntry (s : Part) (n : LoadId) : Part :=
  if (s.entry? n).isSome then
    if s.needsSatisfiable n then Part.pullNeeds Part.enqueue s n else s.withdraw n .needLost
  else s

/-- The need review: the queue from head to tail as it stands when the review is taken (R84). -/
def Part.needReview (s : Part) : Part := (s.dgv.queue.map Entry.load).foldl Part.reviewEntry s

/-! ## A load's entries to OFF, FAULT, OVERRIDE, and completion -/

/-- The two steps that follow an entry to OFF (R32): the held request is handed over; then the Hold Table
asks again for a load kept on and for the floor of a held group (R61, R62). -/
def Part.offReports (s : Part) (n : LoadId) : Part :=
  let held := (s.load n).heldEnqueue
  let s := s.setLoad n { s.load n with heldEnqueue := none }
  let s := match held with | some o => s.enqueue n o | none => s
  let s := if 0 < s.onCount n then s.enqueue n .hold else s
  s.floorForMember n

/-- A load reaches OFF from STOPPING, FAULT or OVERRIDE: stopped_at is set, the two steps follow, and the
need review is taken (R32, R33, R40, R41, R84). -/
def Part.enterOff (s : Part) (n : LoadId) : Part :=
  let s := s.moveLoad n { s.load n with phase := .off, stoppedAt := some s.now, changed := true }
  (s.offReports n).needReview

/-- A start fails with NO_START (R38): LOAD_FAULT is raised, the floor request of R62 item 3 is handed
over, and the need review is taken (R84). The manual gives no order of the last two. DESIGN CHOICE: log entry 12. -/
def Part.failStart (s : Part) (n : LoadId) : Part :=
  let s := (s.setPhase n (.fault .noStart)).setStartingOrigin n none
  ((s.raise (.loadFault n)).floorForMember n).needReview

/-- A stop fails with NO_STOP (R33). -/
def Part.failStop (s : Part) (n : LoadId) : Part :=
  ((s.setPhase n (.fault .noStop)).raise (.loadFault n)).needReview

/-- A start completes: LOCAL or WATCH by mode, which is reported (R92, R98), and a KEEP_OFF that covers the load is
applied at once (R37). -/
def Part.completeStart (s : Part) (n : LoadId) : Part :=
  let s := s.reportChange (s.moveLoad n
    { s.load n with phase := runningPhase s.mode, lastActivity := s.now, changed := true }) n
  let s := s.setStartingOrigin n none
  if 0 < s.offCount n then s.keepOffStop n else s

/-- A load whose permit is OFF is found running (R40). -/
def Part.enterOverride (s : Part) (n : LoadId) : Part :=
  if (s.load n).phase = .queued then s.withdraw n .override else s.setPhase n .override

/-! ## Admission (R99 to R101) -/

/-- An admission (R101, R37). -/
def Part.admitLoad (s : Part) (n : LoadId) : Part :=
  let origin := (s.entry? n).map Entry.origin
  let s := s.removeEntry n
  let s := s.moveLoad n
    { s.load n with
      phase := .starting
      startedAt := some s.now
      startHistory := (s.load n).startHistory ++ [s.now]
      changed := true }
  s.setStartingOrigin n origin

/-- The scan reaches the entries in turn, as the queue stands; it ends at a DEMAND wait (R99, R100). An
entry withdrawn on the way is passed over. -/
def Part.scanFrom : List LoadId → Part → Part
  | [], s => s
  | n :: rest, s =>
    if (s.entry? n).isSome then
      match s.ownWait n with
      | some w => Part.scanFrom rest (s.setWait n w)
      | none =>
        if s.dgv.ceilingI.value < (s.config n).inrushKw then
          Part.scanFrom rest (s.withdraw n .oversize)
        else if s.instantTest n && s.intervalTest n then Part.scanFrom rest (s.admitLoad n)
        else s.setWait n .demand
    else Part.scanFrom rest s

/-- An admission scan, taken whole (R98, R99). -/
def Part.scan (s : Part) : Part :=
  Part.scanFrom (s.dgv.queue.map Entry.load) { s with dgv := { s.dgv with scanDue := false } }

/-! ## The close of an event's handling -/

/-- D is recomputed; a fall starts a scan, and so does a need that has become satisfied (R92, R98). A fall, or a need
satisfied, between two changes of one handling has been reported at its change (reportChange). -/
def Part.recomputeDemand (before after : Part) : Part :=
  let d := after.demandNow
  let due := after.dgv.scanDue || decide (d < after.dgv.demand) || before.needBecameSatisfied after
  { after with dgv := { after.dgv with demand := d, scanDue := due } }

end Sys2Proof.Machine
end

