-- ==== Sys2Proof/Machine/LineOps.lean ====
section
/-! DEFINITION. The Line Inputs' operations: debounce records (R151, R152), lamps (R157, R158), and which
call lines are effective (R160). -/

namespace Sys2Proof.Machine

/-! ## Debounce (R151) -/

/-- A sample acts on a debounce record whose line has sample count `limit` (R151). A record whose run
count stands at its sample count waits for its edge, or its level, to be taken and is left as it is. -/
def Debounce.sample (d : Debounce) (limit : Nat) (active : Bool) : Debounce :=
  if limit ≤ d.run then d
  else
    match d.level with
    | .unknown =>
      { d with run := if d.previous = some active then d.run + 1 else 1, previous := some active }
    | .active => { d with run := if active then 0 else d.run + 1 }
    | .inactive => { d with run := if active then d.run + 1 else 0 }

/-- A rising edge is due: the qualified level is inactive and the run count has reached N (R151). -/
def Debounce.risingDue (d : Debounce) (limit : Nat) : Bool := d.level = .inactive && limit ≤ d.run

/-- A falling edge is due (R151). -/
def Debounce.fallingDue (d : Debounce) (limit : Nat) : Bool := d.level = .active && limit ≤ d.run

/-- A line of unknown level has reached its sample count (R151). -/
def Debounce.levelDue (d : Debounce) (limit : Nat) : Bool :=
  d.level = .unknown && limit ≤ d.run && d.previous.isSome

/-- The record at a qualified level, run count 0 (R151). -/
def Debounce.at_ (level : Level) : Debounce := { level := level, run := 0, previous := none }

/-- The level a line of unknown level takes: that of its last samples (R151). -/
def Debounce.sampledLevel (d : Debounce) : Level := if d.previous = some true then .active else .inactive

/-- What an accepted write makes of a line's debounce record (R152). -/
def Debounce.afterWrite (d : Debounce) (restart newCount : Bool) : Debounce :=
  if restart then {} else if newCount then { d with run := 0 } else d

/-- A line's debounce record. -/
def LineInputs.debounce (l : LineInputs) : Line → Debounce
  | .key p .keep => l.keep[p]
  | .key p .clear => l.clear[p]
  | .call c => l.call[c]
  | .meter => l.meter

/-- Replace a line's debounce record. -/
def LineInputs.setDebounce (l : LineInputs) (line : Line) (d : Debounce) : LineInputs :=
  match line with
  | .key p .keep => { l with keep := l.keep.set p d }
  | .key p .clear => { l with clear := l.clear.set p d }
  | .call c => { l with call := l.call.set c d }
  | .meter => { l with meter := d }

/-- Replace a line's debounce record in the part. -/
def Part.setDebounce (s : Part) (line : Line) (d : Debounce) : Part :=
  { s with lin := s.lin.setDebounce line d }

/-- The line's record is in use, so it is sampled (R151, R152). -/
def Settings.lineInUse (c : Settings) : Line → Bool
  | .key p _ => c.panels[p].inUse
  | .call l => c.calls[l].inUse
  | .meter => c.meter.inUse

/-- The line's sample count N (R151). -/
def Settings.sampleCount (c : Settings) : Line → Nat
  | .key p _ => c.panels[p].keySamples
  | .call l => c.calls[l].callSamples
  | .meter => c.meter.meterSamples

/-- A sample read as active: keys and the meter when high, a call line at the level active_low names
(R151, Table 10-1). -/
def Settings.sampleActive (c : Settings) (v : LineLevels) : Line → Bool
  | .key p .keep => v.keep.getLsbD p.val
  | .key p .clear => v.clear.getLsbD p.val
  | .call l => v.call.getLsbD l.val != c.calls[l].activeLow
  | .meter => v.meter

/-- One line's record after a sample (R151, R152). -/
def Part.sampled (s : Part) (v : LineLevels) (line : Line) : Debounce :=
  if s.cfg.lineInUse line then
    (s.lin.debounce line).sample (s.cfg.sampleCount line) (s.cfg.sampleActive v line)
  else s.lin.debounce line

/-! ## Lamps (R157, R158) -/

/-- The period of a pattern, in milliseconds; a steady output has none (R158). -/
def Pattern.period : Pattern → Nat
  | .off | .steady => 1
  | .slow => 1000
  | .fast => 250
  | .wink => 2000

/-- The lamp output (R158). -/
def Lamp.output (l : Lamp) : Bool :=
  match l.pattern with
  | .off => false
  | .steady => true
  | .slow => l.phaseMs < 500
  | .fast => l.phaseMs < 125
  | .wink => l.phaseMs < 100

/-- Five milliseconds pass at a lamp (R158). -/
def Lamp.advance (l : Lamp) : Lamp :=
  { l with phaseMs := (l.phaseMs + Config.sampleMs) % l.pattern.period }

/-- The pattern Table 7-2 gives a panel (R157). -/
def Part.lampPattern (s : Part) (p : PanelId) : Pattern :=
  if !s.cfg.panels[p].inUse then .off
  else if (s.lin.refusal[p]).isSome then .fast
  else
    match s.panelHold p with
    | some h => if h.expiry.getD 0 - s.minute ≤ 15 then .slow else .steady
    | none => if s.mode = .windDown then .wink else .off

/-- The lamp a panel shows after its pattern is chosen: a new choice of the same pattern does not restart
it, another begins with its on time (R158). -/
def Lamp.choose (l : Lamp) (p : Pattern) : Lamp := if l.pattern = p then l else { pattern := p, phaseMs := 0 }

/-- A panel's lamp is chosen again (R157). -/
def Part.chooseLamp (s : Part) (p : PanelId) : Part :=
  { s with lin := { s.lin with lamps := s.lin.lamps.set p (s.lin.lamps[p].choose (s.lampPattern p)) } }

/-- Every panel's lamp is chosen again (R157, R116). -/
def Part.chooseLamps (s : Part) : Part := allPanels.foldl Part.chooseLamp s

/-- The lamp outputs; off while the part is held (Table 10-2). -/
def Part.lampOutput (s : Part) (p : PanelId) : Bool := s.working && s.lin.lamps[p].output

/-- Run, or clear, a panel's refusal timer (R155). -/
def Part.setRefusal (s : Part) (p : PanelId) (t : Option Nat) : Part :=
  { s with lin := { s.lin with refusal := s.lin.refusal.set p t } }

/-! ## Call lines (R160) -/

/-- The call line is effective (R160). -/
def Part.callEffective (s : Part) (c : CallId) : Bool :=
  s.cfg.calls[c].inUse && s.cfg.active.valid && s.cfg.active.nightCalls &&
  (s.mode = .windDown || s.mode = .night || s.mode = .wake)

/-- The call lines asserted and effective, which send their requests at an uptime minute boundary (R160). The manual
gives no order of several lines at one boundary; the model takes them in ascending number. DESIGN CHOICE: log entry
12. -/
def Part.callsAsking (s : Part) : List CallId :=
  allCalls.filter fun c => s.callEffective c && (s.lin.call[c]).level = .active

end Sys2Proof.Machine
end

