-- ==== Sys2Proof/Machine/HoldOps.lean ====
section
/-! DEFINITION. The Hold Table's operations: expiry (R54), ids (R50), placement and its reports (R53 to
R63), renewal (R56, R64), and retirement with its reports (R66 to R73). -/

namespace Sys2Proof.Machine

/-- The expiry of a placed or renewed hold at uptime minute m, and whether the duration was clamped (R54). -/
def expiryFor (kind : HoldKind) (d m : Nat) : Option Nat × Bool :=
  match kind with
  | .keepOn =>
    if d = 0 then (some (m + 1), true)
    else if d ≤ Config.keepOnMax then (some (m + d), false)
    else (some (m + Config.keepOnMax), true)
  | .keepOff =>
    if d = 0 then (none, false)
    else if d ≤ Config.keepOffMax then (some (m + d), false)
    else (some (m + Config.keepOffMax), true)

/-- One step of the next id: from 65535 to 1 (R50). -/
def stepId (id : Nat) : Nat := if id = 65535 then 1 else id + 1

/-- The next id after a placement, moved on past live ids (R50). With at most 48 live holds the fuel of
49 finds a free one. -/
def freeId (live : List Nat) : Nat → Nat → Nat
  | 0, id => id
  | fuel + 1, id => if live.contains id then freeId live fuel (stepId id) else id

/-- The live hold with an id; id 0 names none (R64, R65, R75). -/
def Part.hold? (s : Part) (id : Nat) : Option Hold :=
  if id = 0 then none else s.holds.find? fun h => h.id = id

/-- Put a hold into the table, which is kept in ascending id (R49). -/
def insertHold (h : Hold) (holds : List Hold) : List Hold :=
  (holds.takeWhile fun x => x.id < h.id) ++ h :: holds.dropWhile fun x => x.id < h.id

/-- Replace the live hold that has the id of the one given. -/
def Part.updateHold (s : Part) (h : Hold) : Part :=
  { s with holds := s.holds.map fun x => if x.id = h.id then h else x }

/-- The lamp of the panel that owns a hold is chosen again (R157). -/
def Part.ownerLamp (s : Part) : Owner → Part
  | .panel p => s.chooseLamp p
  | _ => s

/-- What a placement request is answered (Table 3-2). -/
inductive Placement
  | wrongMode
  | noTarget
  | renewed (hold : Hold) (clamped : Bool)
  | full
  | conflict
  | placed (hold : Hold) (clamped : Bool)
deriving DecidableEq, Repr

/-- The target names nothing (Table 3-2 row 3). -/
def Part.targetEmpty (s : Part) : Target → Bool
  | .load n => !s.inUse n
  | .zone z => (s.zoneMembers z).isEmpty
  | .group g => !(s.group g).inUse

/-- The report of a load newly covered by KEEP_OFF (R63): the Load Table applies R34, the Demand Governor
withdraws its entry and takes the need review (R84). -/
def Part.reportKeepOff (s : Part) (n : LoadId) : Part :=
  let s := s.keepOffStop n
  let s := if (s.load n).phase = .queued then s.withdraw n .keepOff else s
  s.needReview

/-- The reports of a placement (R61 to R63), for the loads and the group the counts of which have risen
from 0 to 1. -/
def Part.reportPlacement (s : Part) (h : Hold) : Part :=
  match h.kind, h.target with
  | .keepOn, .group g => if s.groupOnCount g = 1 then s.floorRequest g (s.floorOrigin g) else s
  | .keepOn, t => ((s.covered t).filter fun n => s.onCount n = 1).foldl (fun s n => s.enqueue n .hold) s
  | .keepOff, t => ((s.covered t).filter fun n => s.offCount n = 1).foldl Part.reportKeepOff s

/-- A placement creates a hold (R60): the record takes the next id, and the changes are reported. -/
def Part.createHold (s : Part) (h : Hold) : Part :=
  let holds := insertHold h s.holds
  let s := { s with holds := holds, nextId := freeId (holds.map Hold.id) 49 (stepId h.id) }
  (s.reportPlacement h).ownerLamp h.owner

/-- The live hold with an owner, kind and target (R56). -/
def Part.matching (s : Part) (kind : HoldKind) (t : Target) (owner : Owner) : Option Hold :=
  s.holds.find? fun h => h.owner = owner && h.kind = kind && h.target = t

/-- The conflict check of the kind fails (Table 3-2 row 6). -/
def Part.conflicts (s : Part) (kind : HoldKind) (t : Target) : Bool :=
  match kind with
  | .keepOn => s.keepOnConflict t
  | .keepOff => s.keepOffConflict t

/-- A placement request with every parameter in range, through the checks of Table 3-2 (R53). -/
def Part.place (s : Part) (kind : HoldKind) (t : Target) (owner : Owner) (duration reason : Nat) :
    Part × Placement :=
  let e := expiryFor kind duration s.minute
  if s.mode = .setup then (s, .wrongMode)
  else if s.targetEmpty t then (s, .noTarget)
  else
    match s.matching kind t owner with
    | some h =>
      let h' := { h with expiry := e.1, renewals := min 255 (h.renewals + 1), reason := reason }
      ((s.updateHold h').ownerLamp owner, .renewed h' e.2)
    | none =>
      if Config.maxHolds ≤ s.holds.length then (s, .full)
      else if s.conflicts kind t then (s, .conflict)
      else
        let h : Hold :=
          { id := s.nextId, kind := kind, target := t, owner := owner, expiry := e.1
            placedAt := s.minute, renewals := 0, reason := reason }
        (s.createHold h, .placed h e.2)

/-! ## Retirement (R67 to R73) -/

/-- The report of a load whose off_count has fallen to 0 (R72): stop_pending is cleared, the need review is
taken (R84), and a held group is asked for again (R62 item 4). The manual gives no order of the last two. DESIGN
CHOICE: log entry 12. -/
def Part.reportKeepOffLoss (s : Part) (n : LoadId) : Part :=
  let s := s.setLoad n { s.load n with stopPending := false }
  s.needReview.floorForMember n

/-- The reports of a retirement, the record being gone (R70 to R72). For the loads of a KEEP_OFF on a zone R72 gives
no order; the model reports them in ascending number. DESIGN CHOICE: log entry 12. -/
def Part.reportRetirement (s : Part) (h : Hold) : Part :=
  match h.kind, h.target with
  | .keepOn, .group g => if s.groupOnCount g = 0 then (s.members g).foldl Part.reexamine s else s
  | .keepOn, t => ((s.covered t).filter fun n => s.onCount n = 0).foldl Part.reexamine s
  | .keepOff, t => ((s.covered t).filter fun n => s.offCount n = 0).foldl Part.reportKeepOffLoss s

/-- A hold is retired, whole: the record goes, the changes are reported, the checks whose inputs changed
are taken, and the owner's lamp is chosen again (R67, R30, R157). -/
def Part.retire (s : Part) (h : Hold) : Part :=
  let gone := { s with holds := s.holds.filter fun x => x.id != h.id }
  (s.recheck (gone.reportRetirement h)).ownerLamp h.owner

/-- One hold expires (R68). -/
def Part.expire (s : Part) (h : Hold) : Part := (s.retire h).raise (.holdRetired h.id)

/-- A panel's release request (R66). -/
def Part.panelRelease (s : Part) (p : PanelId) : Part :=
  (s.holds.filter fun h => h.owner = .panel p && h.target = .zone s.cfg.panels[p].zone).foldl Part.retire s

/-- A call line's placement request and its outcome (R160, R162). -/
def Part.callRequest (s : Part) (c : CallId) : Part :=
  let g := s.cfg.calls[c].group
  let r := s.place .keepOn (.group g) (.call c) s.cfg.calls[c].callMin 0
  match r.2 with
  | .conflict => r.1.raise (.callRefused g false)
  | .full => r.1.raise (.callRefused g true)
  | _ => r.1

end Sys2Proof.Machine
end

