-- ==== Sys2Proof/Machine/ModeOps.lean ====
section
/-! DEFINITION. The Night Cycle Controller's operations: the plan swap (R112), the mode machine with the
entry actions of each mode (R116 to R126), the wake end test (R124), SET CLOCK's moves (R128), and the
close of an event's handling, which takes the end test last. -/

namespace Sys2Proof.Machine

/-! ## Ceilings and plans (R93, R112) -/

/-- The ACTIVE plan's ceilings, 60,000 and 0 without a valid plan (R93). -/
def Settings.planCeilings (c : Settings) : Nat × Nat :=
  if c.active.valid then (c.active.ceilingKw, c.active.intervalCeilingKw) else (Config.ceilingMax, 0)

/-- Both ceilings take new settings; a change of either value starts a scan (R93). -/
def Part.setCeilings (s : Part) (i d : Ceiling) : Part :=
  let moved := s.dgv.ceilingI.value != i.value || s.dgv.ceilingD.value != d.value
  { s with dgv :=
    { s.dgv with ceilingI := i, ceilingD := d, scanDue := s.dgv.scanDue || moved } }

/-- A swap of the plans, less the recomputation of the next night, which its callers take (R112). -/
def Part.swapPlans (s : Part) : Part :=
  let cfg := { s.cfg with active := s.cfg.staged, staged := s.cfg.active }
  let s := { s with cfg := cfg, ncc := { s.ncc with armed := false } }
  let c := cfg.planCeilings
  let s := s.setCeilings { value := c.1 } { value := c.2 }
  s.raise (.plan cfg.active.planNo)

/-- A partial interval begins (R95). -/
def Part.beginPartial (s : Part) : Part :=
  { s with dgv := { s.dgv with energy := 0, isPartial := true } }

/-! ## Mode changes (R116) -/

/-- A mode change that is called for, with what its entry needs. DAY carries the LATE flag and the
cancelled-night mark it is entered with; WAKE carries its grace deadline and whether a deadline already
past is reached at once (R128). -/
inductive Move
  | setup
  | day (late : Bool) (mark : Option Nat)
  | windDown (deadline : Nat) (scheduled : Bool)
  | night
  | wake (grace : Option Int) (atOnce : Bool)
deriving DecidableEq, Repr

/-- The Load Table is told of a mode: every LOCAL or WATCH load takes the running state for it (R116, R26). -/
def Part.moveRunning (s : Part) (m : Mode) : Part :=
  let p := runningPhase m
  { s with loads := tabulate fun n =>
      let r := s.load n
      if r.phase.running && r.phase != p then { r with phase := p, changed := true } else r }

/-- The mode takes its new value, and the Load Table and the Line Inputs are told of it (R116). -/
def Part.tellMode (s : Part) (m : ModeState) : Part :=
  let s := s.setMode m
  (s.noteInputs (s.moveRunning s.mode)).chooseLamps

/-- MODE is raised for the mode in force (R116). -/
def Part.raiseMode (s : Part) (late : Bool) : Part := s.raise (.mode s.mode late)

/-- The Hold Table is cleared with cause SETUP (R73). -/
def Part.clearHolds (s : Part) : Part :=
  if s.holds.isEmpty then s else ({ s with holds := [] }.raise (.holdRetired 0)).chooseLamps

/-- The Load Table's part of an entry to SETUP (R27), with the loads of the cleared queue among them (R88). -/
def Part.loadsToLocal (s : Part) : Part :=
  { s with
    loads := tabulate fun n =>
      let r := s.load n
      if s.inUse n then
        { r with
          phase := if r.phase = .unreachable then .unreachable else .localRun
          stopPending := false
          heldEnqueue := none
          changed := r.changed || (r.phase != .unreachable && r.phase != .localRun) }
      else r
    dgv := { s.dgv with queue := [], startingOrigin := Vector.replicate 64 none } }

/-- The change a next night calls for: a warning already reached passes DAY on to WIND_DOWN (R115, R118). -/
def nextNightMove (next : Option NextNight) (now : Nat) : Option Move :=
  match next with
  | some n => if n.warnStart ≤ now then some (.windDown n.nightStart true) else none
  | none => none

/-- DAY's next night is computed (R115). -/
def Part.takeNextNight (s : Part) (mark : Option Nat) : Part × Option Move :=
  (s.setMode (.day (s.nextNight mark) mark), nextNightMove (s.nextNight mark) s.now)

/-- The grace deadline of a wake target (R123 step 1). -/
def Part.graceAfter (s : Part) (targetAt : Int) : Int := targetAt + 60 * (s.cfg.active.wakeGraceMin : Int)

/-- The change a wake_begin calls for where it is at or before the present second (R122), with the grace deadline
of the wake target held (R123 step 1). DESIGN CHOICE (log entry 22): so too in the handling of a SET CLOCK that
leaves the mode NIGHT in Table 5-4, where R123 and R128 could be read as giving the latest night_start's target. -/
def Part.leadMove (s : Part) (target : Option WakeTarget) (wakeBegin : Option Nat) : Option Move :=
  match target, wakeBegin with
  | some t, some b => if b ≤ s.now then some (.wake (some (s.graceAfter t.at_)) false) else none
  | _, _ => none

/-- The lead and wake_begin are computed and held (R121, R122). -/
def Part.takeLead (s : Part) (target : Option WakeTarget) : Part × Option Move :=
  let wb := wakeBeginFor target s.leadSeconds
  (s.setMode (.night target wb s.leadSeconds), s.leadMove target wb)

/-- The checks taken on entry to NIGHT (R26, R30). -/
def Part.nightChecks (s : Part) : Part := s.takeChecks 64 (allLoads.filter s.checkable)

/-- The entry actions of NIGHT (R120). The lead and the idle stop checks of the entry may be taken in
either order; where some check would pass, the choice is free. -/
def Part.enterNight (s : Part) : Part × Option Move :=
  let target := s.wakeTarget
  if (allLoads.filter fun n => s.checkable n && s.stopsNow n).isEmpty then s.takeLead target
  else if Config.freeChoice s.freeCount % 2 = 0 then
    let r := s.nextChoice.takeLead target
    (r.1.nightChecks, r.2)
  else s.nextChoice.nightChecks.takeLead target

/-- The loads the wake sweep asks for, in wake order (R123 step 2). -/
def Part.sweepList (s : Part) : List LoadId :=
  (List.range 8).flatMap fun p =>
    allLoads.filter fun n =>
      s.inUse n && ((s.load n).phase = .off || (s.load n).phase.isStopping) && s.offCount n = 0 &&
      (s.config n).wakePriority = p

/-- The wake sweep (R123 step 2). -/
def Part.sweep (s : Part) : Part := s.sweepList.foldl (fun s n => s.enqueue n .wake) s

/-- The LATE flag takes a value (R124, R125). -/
def Part.setLate (s : Part) (late : Bool) : Part := { s with ncc := { s.ncc with late := late } }

/-- An armed STAGED plan is swapped on entry to DAY (R112). -/
def Part.swapIfArmed (s : Part) : Part := if s.ncc.armed then s.swapPlans else s

/-- The entry actions of DAY (R125). -/
def Part.enterDay (s : Part) (late : Bool) (mark : Option Nat) : Part × Option Move :=
  (s.setLate late).swapIfArmed.takeNextNight mark

/-- The change WAKE's entry calls for: to DAY where the sweep left no work, or where a deadline already past
is reached at once (R124, R128). -/
def Part.afterSweep (s : Part) (grace : Option Int) (atOnce : Bool) : Option Move :=
  if !s.wakeWork then some (.day false none)
  else
    match grace with
    | some g => if atOnce && g ≤ (s.now : Int) then some (.day true none) else none
    | none => none

/-- One mode change, whole (R116): the mode, the telling, the entry actions and MODE; with the further
change an entry action calls for. -/
def Part.applyMove (s : Part) : Move → Part × Option Move
  | .setup => (((s.tellMode .setup).clearHolds.loadsToLocal).raiseMode false, none)
  | .day late mark =>
    let r := (s.tellMode (.day none none)).enterDay late mark
    (r.1.raiseMode late, r.2)
  | .windDown deadline scheduled =>
    ((s.tellMode (.windDown deadline scheduled)).raiseMode false,
      if deadline ≤ s.now then some .night else none)
  | .night =>
    let r := (s.tellMode (.night none none 0)).enterNight
    (r.1.raiseMode false, r.2)
  | .wake grace atOnce =>
    let t := ((s.tellMode (.wake (grace.map Int.toNat))).sweep).raiseMode false
    (t, t.afterSweep grace atOnce)

/-- A mode change and the changes that follow from it, one after the other (R116). From any mode at most
five follow before a held deadline stands in the future; the callers give eight. -/
def Part.runMoves : Nat → Part → Option Move → Part
  | 0, s, _ => s
  | _, s, none => s
  | fuel + 1, s, some m =>
    let r := s.applyMove m
    Part.runMoves fuel r.1 r.2

/-- A mode change is carried out (R116). -/
def Part.changeMode (s : Part) (m : Move) : Part := Part.runMoves 8 s (some m)

/-- The move to WAKE from NIGHT by deadline or command: the grace deadline follows from the wake target
held (R123 step 1). -/
def Part.wakeMove (s : Part) : Move :=
  match s.ncc.mode with
  | .night (some t) _ _ => .wake (some (s.graceAfter t.at_)) false
  | _ => .wake none false

/-- The end test of WAKE (R124). -/
def Part.wakeEndTest (s : Part) : Part :=
  if s.mode = .wake && !s.wakeWork then s.changeMode (.day false none) else s

/-- The close of an event's handling: the checks whose inputs changed (R30), D and the scans it starts
(R92, R98), and the end test of WAKE (R124). -/
def Part.finish (before after : Part) : Part :=
  before.settleChecks (before.recomputeDemand (before.recheck after)).wakeEndTest

/-! ## SET CLOCK's moves (R128) -/

/-- The grace deadline of the latest night_start's wake target (R128). -/
def Part.clockGrace (s : Part) : Option Int :=
  s.latestWakeTarget.map fun t => s.graceAfter t.2

/-- Table 5-4: the mode is moved, or its deadlines recomputed, from the classification (R128). -/
def Part.reclassify (s : Part) : Part :=
  if !s.scheduled then
    match s.ncc.mode with
    | .day _ mark => s.setMode (.day none mark)
    | _ => s
  else
    match s.ncc.mode, s.classify with
    | .setup, _ => s
    | .day _ mark, .day => s.setMode (.day (s.nextNight mark) mark)
    | .day _ _, .windDown d => s.changeMode (.windDown d true)
    | .day _ _, .night _ => s.changeMode .night
    | .windDown _ _, .day => s.changeMode (.day false none)
    | .windDown _ _, .windDown d => s.setMode (.windDown d true)
    | .windDown _ _, .night _ => s.changeMode .night
    | .night _ _ _, .day => s.changeMode (.wake s.clockGrace true)
    | .night _ _ _, .windDown _ =>
      let r := s.takeLead s.wakeTarget
      Part.runMoves 8 r.1 r.2
    | .night _ _ _, .night t =>
      let r := s.takeLead (some t)
      Part.runMoves 8 r.1 r.2
    | .wake _, _ =>
      let g := s.clockGrace
      let late := s.wakeWork
      let s := s.setMode (.wake (g.map Int.toNat))
      match g with
      | some g => if g ≤ (s.now : Int) then s.changeMode (.day late none) else s
      | none => s

end Sys2Proof.Machine
end

