-- ==== Sys2Proof/Machine/LinkOps.lean ====
section
/-! DEFINITION. The Field Link Master's operations: poll cycles and polls (R134 to R136), the error counter
and grades (R138 to R141), what a reply brings the Load Table (R22 to R25, R46, R137), and the loss of a
station's loads (R45). -/

namespace Sys2Proof.Machine

/-! ## Sending polls (R134 to R136) -/

/-- The permits of a station's four channels as its slots' states give them, bit c for channel c (R20, R136). -/
def Part.permits (s : Part) (k : StationId) : BitVec 4 :=
  BitVec.ofBoolListLE ((slotsOf k).map fun n => (s.load n).phase.permit)

/-- A poll is sent to a station (R136): the tag rises, a probe of an OFFLINE station carries no permits and
sets its probe count again (R135). -/
def Part.sendPoll (s : Part) (k : StationId) : Part :=
  let r := s.station k
  let probe := r.grade = .offline
  let t : Transaction :=
    { station := k
      tag := r.pollTag
      permitValid := !probe
      permits := if probe then 0 else s.permits k
      timeoutMs := s.cfg.link.replyTimeoutMs }
  let s := s.setStation k
    { r with
      pollTag := r.pollTag + 1
      probeCount := if probe then Config.probeGap else r.probeCount }
  { s with flm := { s.flm with inFlight := some t } }

/-- The next station of the cycle that is still in the polled set is polled; without one the cycle has
ended (R134, R132). -/
def Part.pollNext (s : Part) : Part :=
  match s.flm.toPoll.dropWhile fun k => !s.polled k with
  | [] => { s with flm := { s.flm with toPoll := [], inFlight := none } }
  | k :: rest => { s with flm := { s.flm with toPoll := rest, inFlight := none } }.sendPoll k

/-- A station of the polled set is polled in a cycle that begins now (R134). -/
def Part.onList (s : Part) (k : StationId) : Bool :=
  s.polled k && ((s.station k).grade != .offline || (s.station k).probeCount = 0)

/-- A poll cycle begins: the stations to poll are listed, the probe counts of the OFFLINE stations passed
over fall by one, and the first poll is sent (R134). -/
def Part.beginCycle (s : Part) : Part :=
  let list := allStations.filter s.onList
  let stations := tabulate fun k =>
    let r := s.station k
    if s.polled k && r.grade = .offline && 0 < r.probeCount then { r with probeCount := r.probeCount - 1 }
    else r
  { s with flm := { s.flm with toPoll := list, inFlight := none, stations := stations } }.pollNext

/-! ## Loss of a station's loads (R45) -/

/-- A load becomes UNREACHABLE (R45); its queue entry, if any, is withdrawn. -/
def Part.loseLoad (s : Part) (n : LoadId) : Part :=
  let r := s.load n
  let s := (s.moveLoad n
    { r with
      phase := .unreachable
      filterCount := 0
      activityCount := 0
      activityWindow := none
      stopPending := false
      heldEnqueue := none
      changed := true }).setStartingOrigin n none
  if r.phase = .queued then s.withdraw n .unreachable else s

/-- What follows a load's entry to UNREACHABLE: the floor request of R62 item 3, then the need review (R84). The
manual gives no order of the two. DESIGN CHOICE: log entry 12. -/
def Part.afterLoss (s : Part) (n : LoadId) : Part := (s.floorForMember n).needReview

/-- A station's in-use loads become UNREACHABLE (R45). -/
def Part.loseLoads (s : Part) (k : StationId) : Part :=
  let ns := (slotsOf k).filter s.inUse
  ns.foldl Part.afterLoss (ns.foldl Part.loseLoad s)

/-! ## Error counter and grades (R138 to R141, R143) -/

/-- The effective recovery of a station is AUTO (R131). -/
def Part.recoversAuto (s : Part) (k : StationId) : Bool :=
  (s.cfg.link.stations[k]).recovery = .auto || (s.station k).forcedAuto

/-- A station that fails while ONLINE or SUSPECT: its record after the failure (R138, R139). -/
def Station.failed (r : Station) : Station :=
  let err := min Config.errMax (r.err + Config.errStep)
  if err = Config.errMax then
    { r with
      grade := .offline, err := err, goodRun := 0, probeCount := Config.probeGap
      forcedAuto := false, recoverArmed := false }
  else if r.grade = .online && Config.errSuspect ≤ err then { r with grade := .suspect, err := err, goodRun := 0 }
  else { r with err := err, goodRun := 0 }

/-- A station's record after a failure: missed rises, good_run becomes 0, and the counter and grade move
while it is not OFFLINE (R137 to R139). -/
def Station.afterFailure (r : Station) : Station :=
  let r := { r with missed := min 65535 (r.missed + 1) }
  if r.grade = .offline then { r with goodRun := 0 } else r.failed

/-- A transaction with a station fails (R137, R138, R139, R143). -/
def Part.failPoll (s : Part) (k : StationId) : Part :=
  let r := s.station k
  let r' := r.afterFailure
  let s := s.setStation k r'
  let s := if r'.grade = r.grade then s else s.raise (.station k)
  if r'.grade = .offline && r.grade != .offline then s.loseLoads k else s

/-- A station's record after a good reply, by stage 1 of R137 (R138, R140, R141). -/
def Station.afterGood (r : Station) (auto : Bool) : Station :=
  match r.grade with
  | .online => { r with err := r.err - 1 }
  | .suspect =>
    { r with err := r.err - 1, grade := if r.err - 1 < Config.errClear then .online else .suspect }
  | .offline =>
    if auto || r.recoverArmed then
      if r.goodRun + 1 = Config.recoverRun then
        { r with grade := .online, err := 0, goodRun := 0, recoverArmed := false, forcedAuto := false }
      else { r with goodRun := r.goodRun + 1 }
    else r

/-! ## Qualification (R22 to R25) -/

/-- Feedback after a reply's bit, through the filter (R22). -/
def LoadRecord.qualifyFeedback (r : LoadRecord) (filter : Nat) (bit : Bool) : LoadRecord :=
  if bit = r.feedback then { r with filterCount := 0 }
  else if filter ≤ r.filterCount + 1 then { r with feedback := bit, filterCount := 0 }
  else { r with filterCount := r.filterCount + 1 }

/-- PULSE activity after a reply's edge count (R23). -/
def LoadRecord.qualifyPulse (r : LoadRecord) (threshold now edges : Nat) : LoadRecord :=
  if r.activityWindow = none ∧ edges = 0 then r
  else
    let sum := min 255 (r.activityCount + edges)
    if threshold ≤ sum then
      { r with lastActivity := now, activityCount := 0, activityWindow := none }
    else { r with activityCount := sum, activityWindow := some (r.activityWindow.getD now) }

/-- LEVEL activity after a reply's level bit (R24). -/
def LoadRecord.qualifyLevel (r : LoadRecord) (threshold now : Nat) (high : Bool) : LoadRecord :=
  let count := if high then min 255 (r.activityCount + 1) else 0
  { r with
    activityCount := count
    lastActivity := if threshold ≤ count then now else r.lastActivity }

/-- Activity after a reply, by the load's activity mode (R23, R24). -/
def LoadRecord.qualifyActivity (r : LoadRecord) (c : LoadConfig) (now : Nat) (v : Reading) : LoadRecord :=
  match c.activityMode with
  | .pulse => r.qualifyPulse c.activityThreshold now v.edges
  | .level => r.qualifyLevel c.activityThreshold now v.level

/-- A load whose readings a reply qualifies: in use and not UNREACHABLE (R22). -/
def Part.qualifies (s : Part) (n : LoadId) : Bool := s.inUse n && (s.load n).phase != .unreachable

/-- The silence is handed to a station's loads: last_activity advances, to no later than the present
second (R25). -/
def Part.handSilence (s : Part) (k : StationId) (silence : Nat) : Part :=
  if (s.cfg.link.stations[k]).silenceCountsIdle then s
  else
    ((slotsOf k).filter s.qualifies).foldl
      (fun s n => s.setLoad n { s.load n with lastActivity := min s.now ((s.load n).lastActivity + silence) }) s

/-- A load's readings are qualified, and a change of its feedback is reported (R22 to R24, R92, R98). -/
def Part.qualifyLoad (s : Part) (n : LoadId) (v : Reading) : Part :=
  let c := s.config n
  s.reportChange
    (s.moveLoad n (((s.load n).qualifyFeedback c.feedbackFilter v.feedback).qualifyActivity c s.now v)) n

/-- The start deadline of a load has been reached (R37). -/
def Part.startDeadlinePassed (s : Part) (n : LoadId) : Bool :=
  match (s.load n).startedAt with
  | some a => decide (a + (s.config n).startTimeoutS ≤ s.now)
  | none => false

/-- What the state machine makes of a load's feedback after a reply, `was` being the feedback before it
(R32, R33, R37, R38, R40). -/
def Part.feedbackEffect (s : Part) (n : LoadId) (was : Bool) : Part :=
  let fb := (s.load n).feedback
  let wentOn := fb && !was
  let wentOff := !fb && was
  match (s.load n).phase with
  | .stopping _ | .fault .noStop => if fb then s else s.enterOff n
  | .off | .queued | .fault .noStart => if wentOn then s.enterOverride n else s
  | .override => if wentOff then s.enterOff n else s
  | .starting =>
    if wentOn && !s.inWindow n then s.completeStart n
    else if wentOff && s.startDeadlinePassed n then s.failStart n
    else s
  | .unused | .localRun | .watch | .unreachable => s

/-- The four channel readings of a reply are qualified; then each load's change of feedback takes effect
(R137 stage 4, R22). The manual gives no order of the four channels' changes; the model takes them in ascending
channel. DESIGN CHOICE: log entry 12. -/
def Part.qualifyReply (s : Part) (k : StationId) (v : Vector Reading 4) : Part :=
  let ns := (slotsOf k).filter s.qualifies
  let qualified := ns.foldl (fun s' n => s'.qualifyLoad n v[channelOf n]) s
  ns.foldl (fun s' n => s'.feedbackEffect n (s.load n).feedback) qualified

/-! ## Return of a station's loads (R46) -/

/-- A load returns from UNREACHABLE on a reply, which is reported (R46, R92, R98). -/
def Part.returnLoad (s : Part) (n : LoadId) (v : Reading) : Part :=
  let r := { s.load n with
    phase := runningPhase s.mode
    feedback := v.feedback
    filterCount := 0
    lastActivity := s.now
    changed := true }
  let s := s.reportChange (s.moveLoad n (r.qualifyActivity (s.config n) s.now v)) n
  if 0 < s.offCount n then s.keepOffStop n else s

/-- A station's UNREACHABLE loads return (R46). Whether R34 is applied to a returned load before or after the
station's other loads have returned the manual does not say; the model returns them in ascending channel and
applies R34 to each before the next. DESIGN CHOICE: log entry 12. -/
def Part.returnLoads (s : Part) (k : StationId) (v : Vector Reading 4) : Part :=
  let ns := (slotsOf k).filter fun n => s.inUse n && (s.load n).phase = .unreachable
  ns.foldl (fun s n => s.returnLoad n v[channelOf n]) s

/-! ## A good reply (R137) -/

/-- Stage 1 of a good reply: last_good and last_reply are set, the counter and grade move, a change of
grade raises STATION, a return to ONLINE starts a scan and is an input of the station's checks (R137, R138,
R140, R141, R143). -/
def Part.gradeReply (s : Part) (k : StationId) (v : Vector Reading 4) : Part :=
  let r := s.station k
  let r' := { r.afterGood (s.recoversAuto k) with lastGood := some s.now, lastReply := some v }
  let next := s.setStation k r'
  let next := if r'.grade = r.grade then next else next.raise (.station k)
  let next := if r'.grade = .online && r.grade != .online then next.startScan else next
  s.recheck next

/-- Stages 2 to 4 of a good reply, `before` being the station's record before it (R137, R144). -/
def Part.useReply (s : Part) (k : StationId) (before : Station) (v : Vector Reading 4) : Part :=
  if before.grade = .offline then
    if (s.station k).grade = .online then s.returnLoads k v else s
  else
    let s :=
      match before.lastGood with
      | some g => if 0 < before.missed then s.handSilence k (s.now - g) else s
      | none => s
    s.qualifyReply k v

/-- A good reply from a station (R137). missed becomes 0 at every good reply, as R137 and Table 6-1 say, and so
also at one from an unarmed OFFLINE station of MANUAL recovery, where R141 says that the reply sets last_good and
last_reply and nothing else. DEDUCED: log entry 23. -/
def Part.goodReply (s : Part) (k : StationId) (v : Vector Reading 4) : Part :=
  let before := s.station k
  let s := (s.gradeReply k v).useReply k before v
  s.setStation k { s.station k with missed := 0 }

/-! ## Halt, and the polled set (R132, R145) -/

/-- A station is taken OFFLINE by LINK HALT, if it was not (R145 steps 2 and 3). -/
def Part.haltStation (s : Part) (k : StationId) : Part :=
  if s.polled k then
    let r := s.station k
    let s := s.setStation k
      { r with
        grade := .offline, err := Config.errMax, goodRun := 0, probeCount := 0
        recoverArmed := false, forcedAuto := true }
    if r.grade = .offline then s else (s.raise (.station k)).loseLoads k
  else s

/-- The polled set is recomputed for one station after a configuration write, `was` telling whether it was
in the set (R132). -/
def Part.repollStation (s : Part) (k : StationId) (was : Bool) : Part :=
  if was = s.polled k then s
  else if was then
    let s := s.setStation k {}
    let s := { s with flm := { s.flm with toPoll := s.flm.toPoll.filter fun j => j != k } }
    match s.flm.inFlight with
    | some t => if t.station = k then s.pollNext else s
    | none => s
  else
    match s.flm.link with
    | .run => s.setStation k {}
    | .halt =>
      (s.setStation k
        { grade := .offline, err := Config.errMax, forcedAuto := true }).raise (.station k)

end Sys2Proof.Machine
end

