-- ==== Sys2Proof/Machine/ResetOps.lean ====
section
/-! DEFINITION. The held condition (R203, R204), the loading of the image (R196, R200, R201), and the values
each block takes at each kind of reset (R48, R77, R104, R130, R150, R166, R188, R195, R202). -/

namespace Sys2Proof

/-- The 16-bit words that image contents are stored in. R196 sums them and gives neither their number nor their
layout, so they are free (no body). DESIGN CHOICE: log entry 16. -/
opaque Config.contentWords : Machine.Settings → List (BitVec 16)

end Sys2Proof

namespace Sys2Proof.Machine

/-! ## The image (R196) -/

/-- The sum modulo 65,536 of the 16-bit words of image contents (R196). -/
def Settings.contentSum (c : Settings) : BitVec 16 := (Config.contentWords c).foldl (· + ·) 0

/-- The sum word an image is written with: it brings the sum of the contents and itself to FFFFh (R196). -/
def Settings.sumWord (c : Settings) : BitVec 16 := 0xFFFF - c.contentSum

/-- The sum of the contents and the sum word, read from storage, is FFFFh (R196). -/
def Storage.sumRight (t : Storage) : Bool :=
  match t.contents, t.sumWord with
  | some c, some w => c.contentSum + w = 0xFFFF
  | _, _ => false

/-- The stored image, where its check word is good: the completion mark is present and the sum is FFFFh (R196). -/
def Storage.image? (t : Storage) : Option Settings :=
  if t.mark && t.sumRight then t.contents else none

/-- The storage that holds the copy of a SAVE and its sum word, its completion mark still to be written (R198). -/
def Storage.written (copy : Option Settings) : Storage :=
  { contents := copy, sumWord := copy.map Settings.sumWord }

/-- The image state a load leaves, from the image it found (R200). -/
def loadedState (image : Option Settings) : ImageState := if image.isSome then .good else .bad

/-- A SAVE is in progress (R202). -/
def Part.saving (s : Part) : Bool := s.cfs.phase != .idle

/-- A SAVE in progress ends without outcome; where its completion mark had been written and read back, the
storage holds the copy with its mark (R199). -/
def ConfigStore.cutShort (c : ConfigStore) (markWritten : Bool) : ConfigStore :=
  let storage :=
    if c.phase = .checking && markWritten then { c.storage with mark := true } else c.storage
  { c with storage := storage, phase := .idle, copy := none }

/-- The part enters the held condition: work in progress ends without outcome, the transaction in flight
is void, and a result being sent is cut off (R203). -/
def Part.hold (s : Part) (markWritten : Bool) : Part :=
  { s with
    cfs := s.cfs.cutShort markWritten
    flm := { s.flm with toPoll := [], inFlight := none }
    svp := { s.svp with receiver := .hunt } }

/-! ## Values after a reset -/

/-- A load state record after power-on or the reset line (Table 2-4). -/
def freshLoad (inUse : Bool) : LoadRecord := { phase := if inUse then .localRun else .unused }

/-- The load state records after power-on or the reset line (Table 2-4). -/
def powerLoads (c : Settings) : Vector LoadRecord 64 := tabulate fun n => freshLoad c.loads[n].inUse

/-- The load state records after a RESET command at an uptime second: start_history and stopped_at are
kept for the slots in use after the reload (Table 2-4, R48). -/
def commandLoads (c : Settings) (old : Vector LoadRecord 64) (now : Nat) : Vector LoadRecord 64 :=
  tabulate fun n =>
    if c.loads[n].inUse then
      { freshLoad true with
        lastActivity := now, stoppedAt := old[n].stoppedAt, startHistory := old[n].startHistory }
    else { freshLoad false with lastActivity := now }

/-- The Demand Governor after any reset: the ceilings take the plan values loaded (Table 4-3). -/
def resetGovernor (c : Settings) : Governor :=
  { ceilingI := { value := c.planCeilings.1 }, ceilingD := { value := c.planCeilings.2 } }

/-- The mode first taken at a reset: DAY if the image is good and passes validation, SETUP otherwise; no
MODE is raised (R13, R130). -/
def Part.firstMode (s : Part) (good : Bool) : Part :=
  s.setMode (if good && s.validate.isNone then .day none none else .setup)

/-- A reset by power-on or the reset line, from the image that the load found: every block takes its values,
the mode is entered, the lamps are chosen, and a bad image raises STORE with FAULT, LOAD (R16, R200). -/
def Part.powerResetFrom (s : Part) (image : Option Settings) : Part :=
  let cfg := image.getD {}
  let next : Part :=
    { cfg := cfg
      loads := powerLoads cfg
      dgv := resetGovernor cfg
      svp := { inEffect := cfg.port }
      cfs := { storage := s.cfs.storage, image := loadedState image }
      freeCount := s.freeCount }
  let next := (next.firstMode image.isSome).chooseLamps
  if image.isSome then next else next.raise (.store false true)

/-- A reset by power-on or the reset line, from the storage as it stands (R200). -/
def Part.powerReset (s : Part) : Part := s.powerResetFrom s.cfs.storage.image?

/-- A RESET command is carried out, from the image that the load found: every block takes its RESET command
values, uptime and clock go on, and the plant is entered and re-classified (R17, R187, R130, R201). A boundary
still to be taken is none where the meter record loaded has none there (R94; log entry 11). -/
def Part.commandResetFrom (s : Part) (image : Option Settings) : Part :=
  let cfg := image.getD {}
  let next : Part :=
    { cfg := cfg
      loads := commandLoads cfg s.loads s.now
      dgv := resetGovernor cfg
      ncc := { s.ncc.keepBoundary cfg.meter.intervalMin with mode := .setup, late := false, armed := false }
      svp := { inEffect := cfg.port, lastReset := .command, lastResetAt := s.now }
      cfs := { storage := s.cfs.storage, image := loadedState image }
      freeCount := s.freeCount }
  let next := (next.firstMode image.isSome).chooseLamps
  next.finish next.reclassify

/-- A RESET command is carried out: the image is loaded again from the storage as it stands (R187, R201). -/
def Part.commandReset (s : Part) : Part := s.commandResetFrom s.cfs.storage.image?

/-- The part leaves the held condition when neither the supply nor the reset line holds it (R203, R204). -/
def Part.leaveHold (s : Part) : Part := if s.working then s.powerReset else s

/-! ## Slots coming into and going out of use (R4, R47) -/

/-- A slot's live state after a write that changes in_use (R47). -/
def Part.changeUse (s : Part) (n : LoadId) : Part :=
  let phase : LoadPhase :=
    if !s.inUse n then .unused
    else if (s.station (stationOf n)).grade = .offline then .unreachable else .localRun
  (s.setLoad n { phase := phase }).setStartingOrigin n none

/-- An accepted WRITE LOAD CONFIG takes effect (R4): the record is replaced; where in_use changes, the
polled set is recomputed and the slot changes its use; a change of activity_mode clears the accumulator. -/
def Part.writeLoad (s : Part) (n : LoadId) (c : LoadConfig) : Part :=
  let old := s.config n
  let was := s.polled (stationOf n)
  let s := { s with cfg := { s.cfg with loads := s.cfg.loads.set n c } }
  if old.inUse != c.inUse then (s.repollStation (stationOf n) was).changeUse n
  else if old.activityMode != c.activityMode then
    s.setLoad n { s.load n with activityCount := 0, activityWindow := none }
  else s

end Sys2Proof.Machine
end

