-- ==== Sys2Proof/Machine/PortOps.lean ====
section
/-! DEFINITION. The Supervisory Port's operations: the receiver (R169 to R171), the serving of an accepted
request and the save gate (R172, R173), and the two ways a meaning is run: as a request, or as an event. -/

namespace Sys2Proof.Machine

/-! ## Serving (R172 to R174) -/

/-- What a command's rule answers: the status, the result data, and what the end of the result brings. -/
structure Answer where
  status : Status
  data : List Byte := []
  after : AfterResult := .nothing

/-- A refusal with RANGE carries the field number (R174). -/
def Answer.range (row : Nat) : Answer := { status := .range, data := [BitVec.ofNat 8 row] }

/-- OK where a change was made, NO_CHANGE otherwise. -/
def okIf (changed : Bool) : Status := if changed then .ok else .noChange

/-- The receiver puts the answer to a request into its result (R172). -/
def Part.answer (s : Part) (c : Instr) (a : Answer) : Part :=
  let r : Result :=
    { code := (commandCode c).getD 0, status := a.status, data := a.data, after := a.after }
  { s with svp := { s.svp with receiver := .served r } }

/-- The result frame the part sends, or has ready to send, for the request it has served: the result's body in a
frame at the address in effect, which a new port record changes only after the frame's last byte (R168, R172).
Outside SERVING and ANSWERING there is none. -/
def Part.resultFrame? (s : Part) : Option (List Byte) :=
  match s.svp.receiver with
  | .served r | .answering r => some (r.frame s.svp.inEffect.address)
  | .hunt | .receiving _ | .toServe _ => none

/-- The supervisory driver is on: the part drives the line while it sends a result, from the first byte's start bit
to the last byte's stop bit, which is ANSWERING; in SERVING the line is still released, and so it is while the part is
held (R171, Table 10-2). -/
def Part.supervisoryDriver (s : Part) : Bool :=
  s.working &&
  match s.svp.receiver with
  | .answering _ => true
  | .hunt | .receiving _ | .toServe _ | .served _ => false

/-- What the part drives onto the supervisory line: nothing while its driver is off, and otherwise the result frame,
its characters in the format and at the speed in effect, which a new port record changes only after the frame's last
byte (R167, R168, R171). -/
def Part.resultDrive? (s : Part) : Option LineDrive :=
  if s.supervisoryDriver then s.resultFrame?.map s.svp.inEffect.drive else none

/-- A request can be served: the part works, and the receiver is free to take its frame, or has accepted
this very request. A request sent while another is being served or answered is lost (R171, R203). -/
def Part.canServe (s : Part) (c : Instr) : Bool :=
  s.working &&
  match s.svp.receiver with
  | .hunt | .receiving _ => true
  | .toServe r => r = c
  | .served _ | .answering _ => false

/-- An accepted request is served, whole, and its result is built (R172). -/
def Part.serve (s : Part) (c : Instr) (rule : Part → Part × Answer) : Part :=
  if s.canServe c then
    let r := rule s
    r.1.answer c r.2
  else s

/-- Run a request's rule on the machine. -/
def request (c : Instr) (rule : Part → Part × Answer) (s : State) : Host.Outcome State Fault Refusal :=
  .next { s with toPart := s.toPart.serve c rule }

/-- The save gate: BUSY while a SAVE is in progress (R173 step 3). -/
def saveGate (rule : Part → Part × Answer) (s : Part) : Part × Answer :=
  if s.saving then (s, { status := .busy }) else rule s

/-- The gates of a configuration write: BUSY, then WRONG_MODE (R10). -/
def writeGate (rule : Part → Part × Answer) : Part → Part × Answer :=
  saveGate fun s => if s.mode = .setup then rule s else (s, { status := .wrongMode })

/-- Run an event on the machine; while the part is held it takes no event (R203). -/
def event (handle : Part → Part) (s : State) : Host.Outcome State Fault Refusal :=
  .next { s with toPart := if s.working then handle s.toPart else s.toPart }

/-! ## Receiving (R169, R170) -/

/-- Replace the receiver's state. -/
def Part.setReceiver (s : Part) (r : Receiver) : Part := { s with svp := { s.svp with receiver := r } }

/-- A frame in reception shows, with one more character, a discard case of Table 8-2 other than the gap:
a byte error in the character format in effect, a length byte of 0 or above 250, or at the second CRC byte a CRC
that differs or an address that is not the part's (R167, R170). -/
def showsDiscard (port : PortConfig) (buffer : List Byte) (c : Received) : Bool :=
  byteError port.parity c ||
  match buffer with
  | [] => false
  | [_] => c.value.toNat = 0 || 250 < c.value.toNat
  | addr :: len :: _ =>
    buffer.length = len.toNat + 3 &&
    let covered := buffer.take (len.toNat + 2)
    (crcBytes covered != buffer.drop (len.toNat + 2) ++ [c.value] || addr.toNat != port.address)

/-- A frame in reception is complete with one more character: the second CRC byte (R169). -/
def completes (buffer : List Byte) : Bool :=
  match buffer with
  | _ :: len :: _ => buffer.length = len.toNat + 3
  | _ => false

/-- A character examined in HUNT, in the format in effect (R167, R169). -/
def Part.examine (s : Part) (c : Received) : Part :=
  if c.value = leadByte && !byteError s.svp.inEffect.parity c then s.setReceiver (.receiving []) else s.setReceiver .hunt

/-- An accepted frame's request: served by its own row of the table, or, where its body spells none,
answered INVALID (R169, R173). -/
def Part.accept (s : Part) (body : List Byte) : Part :=
  match decodeRequest body with
  | some c => s.setReceiver (.toServe c)
  | none => s.setReceiver (.served { code := body.headD 0, status := .invalid })

/-- A character is received on the supervisory line (R169 to R171). -/
def Part.receive (s : Part) (c : Received) : Part :=
  match s.svp.receiver with
  | .hunt => s.examine c
  | .receiving buffer =>
    if showsDiscard s.svp.inEffect buffer c then s.setReceiver .hunt
    else if completes buffer then s.accept ((buffer.drop 2).take (buffer.length - 3))
    else s.setReceiver (.receiving (buffer ++ [c.value]))
  | .toServe _ | .served _ | .answering _ => s

end Sys2Proof.Machine
end

