-- ==== Sys2Proof/Machine/Results.lean ====
section
/-! DEFINITION. Result data, byte by byte: the records of Tables 1-1 to 8-1 as READ CONFIG and READ PLAN
return them, and the data of every read (R12, R44, R75, R76, R102, R103, R113, R129, R148, R165, R175,
R176, R183, R192, R206, Tables 10-8 to 10-10). -/

namespace Sys2Proof.Machine

/-! ## Configuration records -/

/-- A load record in the row order of Table 1-1. -/
def LoadConfig.bytes (c : LoadConfig) : List Byte :=
  flag c.inUse ++ text c.tag ++ u8 c.zone.val ++ u8 (groupCode c.group) ++
  (byte c.needs.length :: c.needs.flatMap Need.bytes) ++ flag c.nightExempt ++ u8 c.wakePriority ++
  u16 c.runKw ++ u16 c.inrushKw ++ u8 c.accelS ++ u16 c.startTimeoutS ++ u16 c.stopTimeoutS ++
  u16 c.minRunS ++ u16 c.minOffS ++ u8 c.startsPerHour ++ u8 c.idleMin ++ u8 c.activityMode.code ++
  u8 c.activityThreshold ++ u8 c.feedbackFilter

/-- A group record in the row order of Table 1-2. -/
def GroupConfig.bytes (c : GroupConfig) : List Byte := flag c.inUse ++ text c.tag ++ u8 c.required

/-- A plan record in the row order of Table 5-1. -/
def Plan.bytes (p : Plan) : List Byte :=
  flag p.valid ++ u8 p.planNo ++ text p.tag ++ [p.workDays.setWidth 8] ++ u16 p.windDownTime ++
  u8 p.warningMin ++ u16 p.wakeTime ++ u8 p.wakeGraceMin ++ u16 p.baseLeadS ++ u16 p.ceilingKw ++
  u16 p.intervalCeilingKw ++ flag p.nightPanels ++ flag p.nightCalls

/-- A panel record in the row order of Table 7-1. -/
def PanelConfig.bytes (c : PanelConfig) : List Byte :=
  flag c.inUse ++ u8 c.zone.val ++ u16 c.keepMin ++ u8 c.keySamples

/-- A call record in the row order of Table 7-3. -/
def CallConfig.bytes (c : CallConfig) : List Byte :=
  flag c.inUse ++ u8 c.group.val ++ u8 c.callMin ++ flag c.activeLow ++ u16 c.callSamples

/-- The meter record in the row order of Table 7-4. -/
def MeterConfig.bytes (c : MeterConfig) : List Byte :=
  flag c.inUse ++ u16 c.whPerPulse ++ u8 c.intervalMin ++ u8 c.meterSamples

/-- A station's two settings (Table 6-2). -/
def StationConfig.bytes (c : StationConfig) : List Byte := u8 c.recovery.code ++ flag c.silenceCountsIdle

/-- The link configuration record, its 34 rows (Table 6-2). -/
def LinkConfig.bytes (c : LinkConfig) : List Byte :=
  u16 c.pollPeriodMs ++ u8 c.replyTimeoutMs ++ allStations.flatMap fun k => c.stations[k].bytes

/-- The port record in the row order of Table 8-1. -/
def PortConfig.bytes (c : PortConfig) : List Byte := u8 c.address ++ u8 c.speed.code ++ u8 c.parity.code

/-! ## Identification and status (R175, R176) -/

/-- The name text "GLF-6408" (R175). -/
def partName : List Byte := [0x47, 0x4C, 0x46, 0x2D, 0x36, 0x34, 0x30, 0x38]

/-- The build number, 1 to 65535 (R175). -/
def buildNumber : Nat := Config.buildNumberLessOne.val + 1

/-- The capacities: load slots, groups, zones, holds, stations, panels and call lines (R175). -/
def capacities : List Byte := [64, 8, 8, 48, 16, 8, 4]

/-- IDENTIFY's result data (R175). -/
def Part.identityData (s : Part) : List Byte :=
  text partName ++ u16 buildNumber ++ capacities ++ s.svp.inEffect.bytes ++ u32 s.now

/-- Seconds remaining to an uptime deadline. -/
def Part.remaining (s : Part) (deadline : Nat) : Nat := deadline - s.now

/-- The Night Cycle Controller's part of READ STATUS (R129); deadlines of modes other than the present
one are absent, and that mode's other fields read 0. DESIGN CHOICE (log entry 13): R129 gives whether a wind-down
is scheduled or manual, and Table 10-6 no code for it; the model sends 01h for scheduled and 00h for manual. -/
def Part.nightStatus (s : Part) : List Byte :=
  let secs := opt (α := Nat) 4 u32
  let day := match s.ncc.mode with | .day next mark => (next, mark) | _ => (none, none)
  let wind := match s.ncc.mode with | .windDown d sch => (some d, sch) | _ => (none, false)
  let night := match s.ncc.mode with | .night t wb lead => (t, wb, lead) | _ => (none, none, 0)
  let grace := match s.ncc.mode with | .wake g => g | _ => none
  let inWake := s.mode = .wake
  let entries := s.dgv.queue.countP fun e => e.origin = .wake
  let starts := allLoads.countP fun n =>
    (s.load n).phase = .starting && s.dgv.startingOrigin[n] = some .wake
  u8 s.mode.code ++ flag s.ncc.late ++
  flag s.ncc.clock.valid ++ u16 s.ncc.clock.minute ++ u8 s.ncc.clock.second ++ u32 s.now ++
  flag s.scheduled ++ u8 s.cfg.active.planNo ++ text s.cfg.active.tag ++
  flag s.cfg.staged.valid ++ flag s.ncc.armed ++
  secs (day.1.map fun n => s.remaining n.warnStart) ++
  secs (day.1.map fun n => s.remaining n.nightStart) ++ flag day.2.isSome ++
  secs (wind.1.map s.remaining) ++ flag wind.2 ++
  opt 2 u16 (night.1.map WakeTarget.minute) ++ u16 night.2.2 ++ secs (night.2.1.map s.remaining) ++
  secs (grace.map s.remaining) ++ u8 (if inWake then entries else 0) ++ u8 (if inWake then starts else 0)

/-- The number of loads in a state. -/
def Part.countPhase (s : Part) (p : LoadPhase → Bool) : Nat := allLoads.countP fun n => p (s.load n).phase

/-- The set of loads whose changed field is set: bit k mod 8 of byte k div 8 for load k (Table 10-5). -/
def Part.changedSet (s : Part) : List Byte :=
  (List.finRange 8).map fun i =>
    BitVec.ofBoolListLE ((List.finRange 8).map fun j => (s.loads[8 * i.val + j.val]'(by omega)).changed)

/-- The Load Table's part of READ STATUS (R176). DESIGN CHOICE (log entry 13): R176 names the ten state counts and
gives no order; they go by the state codes of Table 10-6, FAULT's two by their cause codes, NO_START before NO_STOP. -/
def Part.loadStatus (s : Part) : List Byte :=
  u8 (allLoads.countP s.inUse) ++
  u8 (s.countPhase (· = .localRun)) ++ u8 (s.countPhase (· = .watch)) ++
  u8 (s.countPhase LoadPhase.isStopping) ++ u8 (s.countPhase (· = .off)) ++
  u8 (s.countPhase (· = .queued)) ++ u8 (s.countPhase (· = .starting)) ++
  u8 (s.countPhase (· = .override)) ++ u8 (s.countPhase (· = .fault .noStart)) ++
  u8 (s.countPhase (· = .fault .noStop)) ++ u8 (s.countPhase (· = .unreachable)) ++ s.changedSet

/-- The number of polled stations of a grade (R149). -/
def Part.countGrade (s : Part) (g : Grade) : Nat :=
  allStations.countP fun k => s.polled k && (s.station k).grade = g

/-- READ STATUS's result data, the sources in the order of R176. -/
def Part.statusData (s : Part) : List Byte :=
  s.nightStatus ++ s.loadStatus ++
  u8 s.holds.length ++ u8 (s.holds.countP fun h => h.kind = .keepOn) ++
  u8 (s.holds.countP fun h => h.kind = .keepOff) ++
  u8 s.dgv.queue.length ++ u8 (s.countPhase (· = .starting)) ++ u32 s.demandNow ++
  u16 s.dgv.ceilingI.value ++ u16 s.dgv.ceilingD.value ++
  u8 s.flm.link.code ++ u8 (s.countGrade .online) ++ u8 (s.countGrade .suspect) ++
  u8 (s.countGrade .offline) ++
  [s.signalled] ++
  flag s.saving ++ u8 s.cfs.phase.code ++ u8 s.cfs.image.code ++ u8 s.cfs.outcome.code ++
  u8 s.svp.lastReset.code ++ u32 s.svp.lastResetAt

/-! ## Clock, mode, plans, demand (R103, R108, R110, R113, R117, R93) -/

/-- READ CLOCK's result data (R108). -/
def Part.clockData (s : Part) : List Byte :=
  flag s.ncc.clock.valid ++ u16 s.ncc.clock.minute ++ u8 (s.ncc.clock.minute / Config.dayMinutes) ++
  u16 (s.ncc.clock.minute % Config.dayMinutes) ++ u8 s.ncc.clock.second ++ u32 s.now

/-- The mode after a SET MODE, and for DAY the LATE flag (R181). -/
def Part.modeData (s : Part) : List Byte :=
  u8 s.mode.code ++ opt 1 flag (if s.mode = .day then some s.ncc.late else none)

/-- READ PLAN's result data: the slot's record, the armed flag, and for ACTIVE whether a schedule is in
force (R113). -/
def Part.planData (s : Part) (isActive : Bool) : List Byte :=
  (if isActive then s.cfg.active else s.cfg.staged).bytes ++ flag s.ncc.armed ++
  opt 1 flag (if isActive then some s.scheduled else none)

/-- SET CEILING's result data (R93). -/
def Part.ceilingData (s : Part) : List Byte :=
  u16 s.dgv.ceilingI.value ++ u8 s.dgv.ceilingI.source.code ++
  u16 s.dgv.ceilingD.value ++ u8 s.dgv.ceilingD.source.code

/-- READ DEMAND's result data (R103). -/
def Part.demandData (s : Part) : List Byte :=
  u32 s.demandNow ++ s.ceilingData ++ flag s.cfg.meter.inUse ++ flag s.dgv.isPartial ++
  u16 s.intervalLength ++ opt 2 u16 (if s.dgv.isPartial then none else some s.intervalTime) ++
  u32 s.dgv.energy ++ opt 4 u32 s.dgv.lastIntervalKw ++ u8 s.windowCount ++ u8 s.dgv.queue.length

/-! ## Holds (R75, R76, R178, R179) -/

/-- The minutes remaining of a hold, where its expiry is present (R75). -/
def Part.minutesLeft (s : Part) (h : Hold) : Option Nat := h.expiry.map fun e => e - s.minute

/-- A hold as READ HOLD and LIST HOLDS give it (Table 10-9). -/
def Part.holdBytes (s : Part) (h : Hold) : List Byte :=
  u16 h.id ++ u8 h.kind.code ++ h.target.bytes ++ h.owner.bytes ++ opt 4 u32 h.expiry ++
  u32 h.placedAt ++ u8 h.renewals ++ u8 h.reason ++ flag (s.holdSatisfied h) ++ opt 2 u16 (s.minutesLeft h)

/-- LIST HOLDS's result data from a start index (R76, R206). -/
def Part.holdListData (s : Part) (start : Nat) : List Byte :=
  u8 s.holds.length ++ u8 start ++ ((s.holds.drop start).take 6).flatMap s.holdBytes

/-- PLACE HOLD's success data (R178, R206). -/
def Part.placedData (s : Part) (h : Hold) (renewed clamped : Bool) : List Byte :=
  u16 h.id ++ opt 4 u32 h.expiry ++ opt 2 u16 (s.minutesLeft h) ++ flag renewed ++ flag clamped

/-- RENEW HOLD's success data (R179). -/
def Part.renewedData (s : Part) (h : Hold) : List Byte :=
  u16 h.id ++ opt 4 u32 h.expiry ++ opt 2 u16 (s.minutesLeft h)

/-! ## Loads and queue (R44, R102, R180) -/

/-- READ LOAD's result data (Table 10-8). -/
def Part.loadData (s : Part) (n : LoadId) : List Byte :=
  let r := s.load n
  let e := s.entry? n
  u8 n.val ++ u8 r.phase.code ++ u8 r.phase.faultCode ++ flag r.feedback ++ u32 r.lastActivity ++
  opt 4 u32 r.startedAt ++ opt 4 u32 r.stoppedAt ++ u8 r.startHistory.length ++ flag r.stopPending ++
  [originByte r.heldEnqueue, pullerByte r.heldEnqueue] ++ flag r.changed ++
  [originByte (e.map Entry.origin), pullerByte (e.map Entry.origin),
    match e with | some e => byte e.wait.code | none => 0xFF]

/-- START LOAD's success data (R180). -/
def Part.startData (s : Part) (n : LoadId) : List Byte :=
  u8 n.val ++ u8 (s.load n).phase.code ++ [originByte ((s.entry? n).map Entry.origin)]

/-- The success data of STOP LOAD and CLEAR FAULT (R180). -/
def Part.stateData (s : Part) (n : LoadId) : List Byte := u8 n.val ++ u8 (s.load n).phase.code

/-- A queue entry with its position (R102, R206). -/
def entryBytes (position : Nat) (e : Entry) : List Byte :=
  u8 position ++ u8 e.load.val ++ [originByte (some e.origin), pullerByte (some e.origin)] ++
  u8 e.key ++ u32 e.seq.toNat ++ u8 e.wait.code

/-- Entries from a position on. -/
def entriesBytes : Nat → List Entry → List Byte
  | _, [] => []
  | i, e :: rest => entryBytes i e ++ entriesBytes (i + 1) rest

/-- READ QUEUE's result data from a start index (R102). -/
def Part.queueData (s : Part) (start : Nat) : List Byte :=
  u8 s.dgv.queue.length ++ u8 start ++ entriesBytes start ((s.dgv.queue.drop start).take 12)

/-! ## READ CONFIG (R12, R165, R183) -/

/-- LOAD: the record, the depth or none, and the number of direct dependents (R12). DESIGN CHOICE (log entry
13): R9 keeps a depth and a dependents list for an in-use load alone, and R12 gives neither for a slot not in use;
there the model gives no depth, and counts the in-use loads with a need LOAD on that slot. -/
def Part.loadConfigData (s : Part) (n : LoadId) : List Byte :=
  (s.config n).bytes ++ opt 1 u8 (s.depth n) ++ u8 (s.directDependents n).length

/-- GROUP: the record, the member count and the member list (R12). -/
def Part.groupConfigData (s : Part) (g : GroupId) : List Byte :=
  (s.group g).bytes ++ u8 (s.members g).length ++
  (byte (s.members g).length :: (s.members g).map fun n => byte n.val)

/-- ZONE: the tag and the number of in-use members (R12). -/
def Part.zoneConfigData (s : Part) (z : ZoneId) : List Byte :=
  text s.cfg.zones[z] ++ u8 (s.zoneMembers z).length

/-- PANEL: the record and the live state of R165. -/
def Part.panelConfigData (s : Part) (p : PanelId) : List Byte :=
  let h := s.panelHold p
  s.cfg.panels[p].bytes ++ u8 (s.lin.keep[p]).level.code ++ u8 (s.lin.clear[p]).level.code ++
  u8 (s.lin.lamps[p]).pattern.code ++ opt 4 u32 ((s.lin.refusal[p]).map s.remaining) ++
  opt 2 u16 (h.map Hold.id) ++ opt 2 u16 (h.bind s.minutesLeft)

/-- CALL: the record and the live state of R165. -/
def Part.callConfigData (s : Part) (c : CallId) : List Byte :=
  s.cfg.calls[c].bytes ++ u8 (s.lin.call[c]).level.code ++ flag (s.callEffective c)

/-- METER: the record and the live state of R165. -/
def Part.meterConfigData (s : Part) : List Byte := s.cfg.meter.bytes ++ u8 s.lin.meter.level.code

/-- LINK: the record's 34 rows and the link state (R183). -/
def Part.linkConfigData (s : Part) : List Byte := s.cfg.link.bytes ++ u8 s.flm.link.code

/-! ## Field link and attention (R148, R192) -/

/-- One channel's reading (R148). -/
def Reading.bytes (v : Reading) : List Byte := flag v.feedback ++ flag v.level ++ u8 v.edges

/-- READ STATION's result data (R148). DESIGN CHOICE (log entry 13): Table 10-5 gives no size for the seconds
since last_good; they take four bytes, as seconds remaining do, with a presence byte of their own. -/
def Part.stationData (s : Part) (k : StationId) : List Byte :=
  let r := s.station k
  let c := s.cfg.link.stations[k]
  flag (s.polled k) ++ u8 r.grade.code ++ u8 r.err ++ u8 r.goodRun ++ flag r.recoverArmed ++
  flag r.forcedAuto ++ u16 r.missed ++ c.bytes ++ u8 (if s.recoversAuto k then 0 else 1) ++
  opt 4 u32 r.lastGood ++ opt 4 u32 (r.lastGood.map fun g => s.now - g) ++
  opt 12 (fun v : Vector Reading 4 => v.toList.flatMap Reading.bytes) r.lastReply ++ u8 s.flm.link.code

/-- READ ATTENTION's result data (R192, R206). -/
def Part.attentionData (s : Part) : List Byte :=
  [s.signalled, s.atl.pending, s.cfg.enable] ++
  match s.highest with
  | some i =>
    byte i.val :: match s.atl.details[i] with | some d => d.bytes | none => [0, 0, 0, 0]
  | none => [0xFF, 0, 0, 0, 0]

end Sys2Proof.Machine
end

