-- ==== Sys2Proof/Machine/Attention.lean ====
section
/-! DEFINITION. READ ATTENTION, ACK ATTENTION and SET ATTENTION ENABLE (R192 to R194). -/

namespace Sys2Proof.Machine

/-- READ ATTENTION (R192). -/
def execReadAttention (s : State) : Host.Outcome State Fault Refusal :=
  request .readAttention (fun p => (p, { status := .ok, data := p.attentionData })) s

/-- ACK ATTENTION (R193). -/
def execAckAttention (causes : Byte) (s : State) : Host.Outcome State Fault Refusal :=
  request (.ackAttention causes)
    (fun p =>
      let p' := { p with atl := { p.atl with pending := p.atl.pending &&& ~~~causes } }
      (p', { status := okIf (p.atl.pending &&& causes != 0), data := [p'.signalled, p'.atl.pending] })) s

/-- SET ATTENTION ENABLE (R194). -/
def execSetAttentionEnable (causes : Byte) (s : State) : Host.Outcome State Fault Refusal :=
  request (.setAttentionEnable causes)
    (fun p =>
      let p' := { p with cfg := { p.cfg with enable := causes } }
      (p', { status := okIf (p.cfg.enable != causes), data := [p'.cfg.enable, p'.signalled] })) s

end Sys2Proof.Machine
end

