-- ==== Sys2Proof/Machine/ClockModes.lean ====
section
/-! DEFINITION. SET CLOCK, READ CLOCK and SET MODE (R108, R117). -/

namespace Sys2Proof.Machine

/-- The cancelled-night mark of DAY is removed (R108 step 3, R115). -/
def ModeState.clearMark : ModeState → ModeState
  | .day next _ => .day next none
  | m => m

/-- The first three steps of an accepted SET CLOCK: the clock takes the reading, a partial interval begins, and
the cancelled-night mark is removed (R108). An interval boundary of the old reading that is not yet taken is
dropped with that reading (log entry 11). Whether a new reading that is itself second 0 of a minute divisible by
interval_min makes a boundary the manual does not say; the model has none in that second (R94, R95). DESIGN CHOICE: log
entry 25. -/
def Part.clockTaken (s : Part) (minute second : Nat) : Part :=
  let s := { s with ncc :=
    { s.ncc with clock := { valid := true, minute := minute, second := second }, intervalDue := false } }
  let s := s.beginPartial
  s.setMode s.ncc.mode.clearMark

/-- An accepted SET CLOCK, its four steps (R108). -/
def Part.takeClock (s : Part) (minute second : Nat) : Part := (s.clockTaken minute second).reclassify

/-- SET CLOCK (R108). -/
def execSetClock (minute : Half) (second : Byte) (s : State) : Host.Outcome State Fault Refusal :=
  request (.setClock minute second)
    (fun p =>
      if Config.weekMinutes ≤ minute.toNat then (p, .range 1)
      else if 60 ≤ second.toNat then (p, .range 2)
      else
        let p' := p.finish (p.takeClock minute.toNat second.toNat)
        (p', { status := .ok, data := u8 p'.mode.code })) s

/-- READ CLOCK (R108). -/
def execReadClock (s : State) : Host.Outcome State Fault Refusal :=
  request .readClock (fun p => (p, { status := .ok, data := p.clockData })) s

/-- What Table 5-3 gives a SET MODE that asks for another mode than the present one. -/
inductive ModeRequest
  | move (m : Move)
  | wrongMode
  | validate
deriving DecidableEq, Repr

/-- Table 5-3 (R117, R118, R119). -/
def Part.modeRequest (s : Part) (requested : Mode) : ModeRequest :=
  match s.ncc.mode, requested with
  | .setup, .day => .validate
  | .setup, _ => .wrongMode
  | .day _ _, .setup => .move .setup
  | .day _ _, .windDown => .move (.windDown (s.now + 60 * s.cfg.active.warningMin) false)
  | .day _ _, .night => .move .night
  | .day _ _, _ => .wrongMode
  | .windDown _ _, .night => .move .night
  | .windDown d _, .day => .move (.day false (some d))
  | .windDown d _, .wake => .move (.day false (some d))
  | .windDown _ _, _ => .wrongMode
  | .night _ _ _, .wake => .move s.wakeMove
  | .night _ _ _, _ => .wrongMode
  | .wake _, .day => .move (.day false none)
  | .wake _, _ => .wrongMode

/-- A mode change is carried out for a SET MODE, and its handling closed (R116, R117). -/
def Part.moveMode (s : Part) (m : Move) : Part × Answer :=
  let s' := s.finish (s.changeMode m)
  (s', { status := .ok, data := s'.modeData })

/-- SET MODE (R117). -/
def execSetMode (mode : Byte) (s : State) : Host.Outcome State Fault Refusal :=
  request (.setMode mode)
    (fun p =>
      match Mode.ofByte mode with
      | none => (p, .range 1)
      | some m =>
        if m = p.mode then (p, { status := .noChange, data := p.modeData })
        else
          match p.modeRequest m with
          | .wrongMode => (p, { status := .wrongMode })
          | .move v => p.moveMode v
          | .validate =>
            match p.validate with
            | none => p.moveMode (.day false none)
            | some f => (p, { status := .config, data := f.bytes })) s

end Sys2Proof.Machine
end

