-- ==== Sys2Proof/Machine/Operands.lean ====
section
/-! DEFINITION. Request operands: what a raw byte or field names, and the range checks that turn a raw
record into a configuration record, in row order, with the number of the first field out of range (R2, R3,
R5, R6, R109, R110, R133, R153, R159, R163, R168, R206). -/

namespace Sys2Proof.Machine

/-- A record check answers the number of the first field out of range, or the record. -/
abbrev Checked (α : Type) := Except Nat α

/-- A yes/no or set/clear byte (Table 10-6). -/
def yesNo (b : Byte) : Option Bool :=
  match b.toNat with
  | 0 => some false
  | 1 => some true
  | _ => none

/-- A number below n (R206). -/
def below (n : Nat) (b : Byte) : Option (Fin n) := if h : b.toNat < n then some ⟨b.toNat, h⟩ else none

/-- A field named by its row number: what it holds, or RANGE with that row. -/
def field {α : Type} (row : Nat) : Option α → Checked α
  | some a => .ok a
  | none => .error row

/-- A number field in a closed range (R2). -/
def within (row lo hi n : Nat) : Checked Nat := if lo ≤ n ∧ n ≤ hi then .ok n else .error row

/-- A character of a tag: 20h to 7Eh. -/
def printable (b : Byte) : Bool := 0x20 ≤ b.toNat && b.toNat ≤ 0x7E

/-- A tag of lo to 8 printable characters (R2, R5). -/
def tagField (row lo : Nat) (t : List Byte) : Checked (List Byte) :=
  if lo ≤ t.length ∧ t.length ≤ 8 ∧ t.all printable then .ok t else .error row

/-- The group field of a load: none is FFh (Table 10-6). -/
def groupField (row : Nat) (b : Byte) : Checked (Option GroupId) :=
  if b = 0xFF then .ok none else (field row (below 8 b)).map some

/-- One needs item (Table 10-6). -/
def needItem (i : Byte × Byte) : Option Need :=
  match i.1.toNat with
  | 0 => (below 64 i.2).map Need.load
  | 1 => (below 8 i.2).map Need.group
  | _ => none

/-- The needs list: at most 3 needs, no two alike (Table 1-1 row 5). -/
def needsField (row : Nat) (l : List (Byte × Byte)) : Checked (List Need) :=
  match l.mapM needItem with
  | some needs => if needs.length ≤ 3 ∧ needs.Nodup then .ok needs else .error row
  | none => .error row

/-- The activity mode byte (Table 10-6). -/
def activityField (row : Nat) (b : Byte) : Checked ActivityMode :=
  match b.toNat with
  | 0 => .ok .pulse
  | 1 => .ok .level
  | _ => .error row

/-- A load record against Table 1-1, in row order (R3). -/
def checkLoad (r : RawLoad) : Checked LoadConfig := do
  let inUse ← field 1 (yesNo r.inUse)
  if inUse then
    let tag ← tagField 2 1 r.tag
    let zone ← field 3 (below 8 r.zone)
    let group ← groupField 4 r.group
    let needs ← needsField 5 r.needs
    let nightExempt ← field 6 (yesNo r.nightExempt)
    let wakePriority ← within 7 0 7 r.wakePriority.toNat
    let runKw ← within 8 0 2000 r.runKw.toNat
    let inrushKw ← within 9 runKw 8000 r.inrushKw.toNat
    let accelS ← within 10 1 120 r.accelS.toNat
    let startTimeoutS ← within 11 5 600 r.startTimeoutS.toNat
    let stopTimeoutS ← within 12 5 900 r.stopTimeoutS.toNat
    let minRunS ← within 13 0 3600 r.minRunS.toNat
    let minOffS ← within 14 0 3600 r.minOffS.toNat
    let startsPerHour ← within 15 1 8 r.startsPerHour.toNat
    let idleMin ← within 16 1 240 r.idleMin.toNat
    let activityMode ← activityField 17 r.activityMode
    let activityThreshold ← within 18 1 255 r.activityThreshold.toNat
    let feedbackFilter ← within 19 1 8 r.feedbackFilter.toNat
    return {
      inUse := true, tag, zone, group, needs, nightExempt, wakePriority, runKw, inrushKw, accelS,
      startTimeoutS, stopTimeoutS, minRunS, minOffS, startsPerHour, idleMin, activityMode,
      activityThreshold, feedbackFilter }
  else return {}

/-- A group record against Table 1-2 (R6). -/
def checkGroup (r : RawGroup) : Checked GroupConfig := do
  let inUse ← field 1 (yesNo r.inUse)
  if inUse then
    let tag ← tagField 2 1 r.tag
    let required ← within 3 1 64 r.required.toNat
    return { inUse := true, tag, required }
  else return {}

/-- The set of work days; bit 7 is unused, so a byte that sets it is out of range (R206). -/
def daysField (row : Nat) (b : Byte) : Checked (BitVec 7) :=
  if b.getLsbD 7 then .error row else .ok (b.setWidth 7)

/-- The span of a plan, in minutes (R109). -/
def planSpan (windDown wake : Nat) : Nat := (windDown + Config.dayMinutes - wake) % Config.dayMinutes

/-- A plan record against Table 5-1 and the span check, field 14 (R109, R110). -/
def checkPlan (r : RawPlan) : Checked Plan := do
  let valid ← field 1 (yesNo r.valid)
  if valid then
    let tag ← tagField 3 1 r.tag
    let workDays ← daysField 4 r.workDays
    let windDownTime ← within 5 0 1439 r.windDownTime.toNat
    let warningMin ← within 6 0 60 r.warningMin.toNat
    let wakeTime ← within 7 0 1439 r.wakeTime.toNat
    let wakeGraceMin ← within 8 0 120 r.wakeGraceMin.toNat
    let baseLeadS ← within 9 0 3600 r.baseLeadS.toNat
    let ceilingKw ← within 10 1 60000 r.ceilingKw.toNat
    let intervalCeilingKw ← within 11 0 60000 r.intervalCeilingKw.toNat
    let nightPanels ← field 12 (yesNo r.nightPanels)
    let nightCalls ← field 13 (yesNo r.nightCalls)
    if planSpan windDownTime wakeTime < warningMin + 30 then .error 14
    else
      return {
        valid := true, planNo := r.planNo.toNat, tag, workDays, windDownTime, warningMin, wakeTime,
        wakeGraceMin, baseLeadS, ceilingKw, intervalCeilingKw, nightPanels, nightCalls }
  else return {}

/-- A panel record against Table 7-1 (R153). -/
def checkPanel (r : RawPanel) : Checked PanelConfig := do
  let inUse ← field 1 (yesNo r.inUse)
  if inUse then
    let zone ← field 2 (below 8 r.zone)
    let keepMin ← within 3 15 900 r.keepMin.toNat
    let keySamples ← within 4 2 32 r.keySamples.toNat
    return { inUse := true, zone, keepMin, keySamples }
  else return {}

/-- A call record against Table 7-3 (R159). -/
def checkCall (r : RawCall) : Checked CallConfig := do
  let inUse ← field 1 (yesNo r.inUse)
  if inUse then
    let group ← field 2 (below 8 r.group)
    let callMin ← within 3 5 240 r.callMin.toNat
    let activeLow ← field 4 (yesNo r.activeLow)
    let callSamples ← within 5 20 400 r.callSamples.toNat
    return { inUse := true, group, callMin, activeLow, callSamples }
  else return {}

/-- A meter record against Table 7-4 (R163). -/
def checkMeter (r : RawMeter) : Checked MeterConfig := do
  let inUse ← field 1 (yesNo r.inUse)
  if inUse then
    let whPerPulse ← within 2 1 1000 r.whPerPulse.toNat
    let intervalMin ←
      if r.intervalMin.toNat = 15 ∨ r.intervalMin.toNat = 30 then .ok r.intervalMin.toNat else .error 3
    let meterSamples ← within 4 2 8 r.meterSamples.toNat
    return { inUse := true, whPerPulse, intervalMin, meterSamples }
  else return {}

/-- A recovery byte (Table 10-6). -/
def recoveryOf (b : Byte) : Option Recovery :=
  match b.toNat with
  | 0 => some .auto
  | 1 => some .manual
  | _ => none

/-- The two settings of station k against rows 3 + 2k and 4 + 2k of Table 6-2. -/
def stationField (k : Nat) (b : Byte × Byte) : Checked StationConfig := do
  let recovery ← field (3 + 2 * k) (recoveryOf b.1)
  let silenceCountsIdle ← field (4 + 2 * k) (yesNo b.2)
  return { recovery, silenceCountsIdle }

/-- The settings of the stations from station k on, in order (Table 6-2). -/
def stationFields : Nat → List (Byte × Byte) → Checked (List StationConfig)
  | _, [] => .ok []
  | k, b :: rest => do
    let c ← stationField k b
    let cs ← stationFields (k + 1) rest
    return c :: cs

/-- A link record against Table 6-2 (R133). -/
def checkLink (r : RawLink) : Checked LinkConfig := do
  let pollPeriodMs ← within 1 100 1000 r.pollPeriodMs.toNat
  let replyTimeoutMs ← within 2 5 50 r.replyTimeoutMs.toNat
  let cs ← stationFields 0 r.stations.toList
  return { pollPeriodMs, replyTimeoutMs, stations := tabulate fun k => cs.getD k.val {} }

/-- A speed byte (Table 10-6). -/
def speedOf (b : Byte) : Option Speed :=
  match b.toNat with
  | 0 => some .b9600
  | 1 => some .b19200
  | 2 => some .b38400
  | 3 => some .b57600
  | 4 => some .b115200
  | _ => none

/-- A parity byte (Table 10-6). -/
def parityOf (b : Byte) : Option Parity :=
  match b.toNat with
  | 0 => some .none
  | 1 => some .even
  | _ => none

/-- A port record against Table 8-1 (R168). -/
def checkPort (address speed parity : Byte) : Checked PortConfig := do
  let address ← within 1 1 31 address.toNat
  let speed ← field 2 (speedOf speed)
  let parity ← field 3 (parityOf parity)
  return { address, speed, parity }

/-- A hold kind byte (Table 10-6). -/
def holdKindOf (b : Byte) : Option HoldKind :=
  match b.toNat with
  | 0 => some .keepOn
  | 1 => some .keepOff
  | _ => none

/-- The kind and target of a PLACE HOLD, its fields 1 to 3 in order (R178). -/
def checkTarget (kind targetKind target : Byte) : Checked (HoldKind × Target) := do
  let k ← field 1 (holdKindOf kind)
  match targetKind.toNat with
  | 0 => return (k, .load (← field 3 (below 64 target)))
  | 1 => return (k, .zone (← field 3 (below 8 target)))
  | 2 => if k = .keepOff then .error 2 else return (k, .group (← field 3 (below 8 target)))
  | _ => .error 2

end Sys2Proof.Machine
end

