-- ==== Sys2Proof/Machine/Configuration.lean ====
section
/-! DEFINITION. The eight configuration writes and READ CONFIG (R3 to R6, R10, R12, R133, R152, R153, R159,
R163, R165, R168, R182, R183). -/

namespace Sys2Proof.Machine

/-- A record number, field 0, below n (R182). -/
def onRecord {n : Nat} (number : Byte) (rule : Fin n → Part → Part × Answer) (s : Part) : Part × Answer :=
  match below n number with
  | some i => rule i s
  | none => (s, .range 0)

/-- WRITE LOAD CONFIG (R3, R4). A write that ends NO_CHANGE does nothing. -/
def execWriteLoadConfig (load : Byte) (record : RawLoad) (s : State) : Host.Outcome State Fault Refusal :=
  request (.writeLoadConfig load record)
    (writeGate (onRecord load fun n p =>
      match checkLoad record with
      | .error row => (p, .range row)
      | .ok c =>
        if c = p.config n then (p, { status := .noChange, data := u8 n.val })
        else (p.finish (p.writeLoad n c), { status := .ok, data := u8 n.val }))) s

/-- WRITE GROUP (R6). -/
def execWriteGroup (group : Byte) (record : RawGroup) (s : State) : Host.Outcome State Fault Refusal :=
  request (.writeGroup group record)
    (writeGate (onRecord group fun (g : GroupId) p =>
      match checkGroup record with
      | .error row => (p, .range row)
      | .ok c =>
        ({ p with cfg := { p.cfg with groups := p.cfg.groups.set g c } },
          { status := okIf (c != p.group g), data := u8 g.val }))) s

/-- WRITE ZONE (R5). -/
def execWriteZone (zone : Byte) (tag : List Byte) (s : State) : Host.Outcome State Fault Refusal :=
  request (.writeZone zone tag)
    (writeGate (onRecord zone fun (z : ZoneId) p =>
      match tagField 1 0 tag with
      | .error row => (p, .range row)
      | .ok t =>
        ({ p with cfg := { p.cfg with zones := p.cfg.zones.set z t } },
          { status := okIf (t != p.cfg.zones[z]), data := u8 z.val }))) s

/-- An accepted WRITE PANEL (R153, R152): where in_use changes, the debounce records start afresh, the
refusal timer is cleared and the lamp is chosen again. -/
def Part.writePanel (s : Part) (q : PanelId) (c : PanelConfig) : Part :=
  let old := s.cfg.panels[q]
  let restart := old.inUse != c.inUse
  let newCount := old.keySamples != c.keySamples
  let s := { s with cfg := { s.cfg with panels := s.cfg.panels.set q c } }
  let s := s.setDebounce (.key q .keep) ((s.lin.keep[q]).afterWrite restart newCount)
  let s := s.setDebounce (.key q .clear) ((s.lin.clear[q]).afterWrite restart newCount)
  if restart then (s.setRefusal q none).chooseLamp q else s

/-- WRITE PANEL (R153). -/
def execWritePanel (panel : Byte) (record : RawPanel) (s : State) : Host.Outcome State Fault Refusal :=
  request (.writePanel panel record)
    (writeGate (onRecord panel fun (q : PanelId) p =>
      match checkPanel record with
      | .error row => (p, .range row)
      | .ok c =>
        (p.writePanel q c, { status := okIf (c != p.cfg.panels[q]), data := u8 q.val }))) s

/-- An accepted WRITE CALL (R159, R152). -/
def Part.writeCall (s : Part) (l : CallId) (c : CallConfig) : Part :=
  let old := s.cfg.calls[l]
  let restart := old.inUse != c.inUse || old.activeLow != c.activeLow
  let newCount := old.callSamples != c.callSamples
  let s := { s with cfg := { s.cfg with calls := s.cfg.calls.set l c } }
  s.setDebounce (.call l) ((s.lin.call[l]).afterWrite restart newCount)

/-- WRITE CALL (R159). -/
def execWriteCall (call : Byte) (record : RawCall) (s : State) : Host.Outcome State Fault Refusal :=
  request (.writeCall call record)
    (writeGate (onRecord call fun (l : CallId) p =>
      match checkCall record with
      | .error row => (p, .range row)
      | .ok c =>
        (p.writeCall l c, { status := okIf (c != p.cfg.calls[l]), data := u8 l.val }))) s

/-- An accepted WRITE METER (R163, R95, R152): a change of any field begins a partial interval, and a boundary
of the old interval_min that is still to be taken is none under the new one, unless it falls there too (R94;
log entry 11). -/
def Part.writeMeter (s : Part) (c : MeterConfig) : Part :=
  let old := s.cfg.meter
  let restart := old.inUse != c.inUse
  let newCount := old.meterSamples != c.meterSamples
  let s := { s with cfg := { s.cfg with meter := c } }
  let s := s.setDebounce .meter (s.lin.meter.afterWrite restart newCount)
  if old != c then { s.beginPartial with ncc := s.ncc.keepBoundary c.intervalMin } else s

/-- WRITE METER (R163). -/
def execWriteMeter (record : RawMeter) (s : State) : Host.Outcome State Fault Refusal :=
  request (.writeMeter record)
    (writeGate fun p =>
      match checkMeter record with
      | .error row => (p, .range row)
      | .ok c => (p.writeMeter c, { status := okIf (c != p.cfg.meter) })) s

/-- An accepted WRITE LINK (R133): a change of a station's recovery clears its good_run and recover_armed. -/
def Part.writeLink (s : Part) (c : LinkConfig) : Part :=
  let stations := tabulate fun k =>
    let r := s.station k
    if (s.cfg.link.stations[k]).recovery != (c.stations[k]).recovery then
      { r with goodRun := 0, recoverArmed := false }
    else r
  { s with
    cfg := { s.cfg with link := c }
    flm := { s.flm with stations := stations } }

/-- WRITE LINK (R133). -/
def execWriteLink (record : RawLink) (s : State) : Host.Outcome State Fault Refusal :=
  request (.writeLink record)
    (writeGate fun p =>
      match checkLink record with
      | .error row => (p, .range row)
      | .ok c => (p.writeLink c, { status := okIf (c != p.cfg.link) })) s

/-- WRITE PORT (R168): the record is held at once; its settings take effect at the end of the result. -/
def execWritePort (address speed parity : Byte) (s : State) : Host.Outcome State Fault Refusal :=
  request (.writePort address speed parity)
    (writeGate fun p =>
      match checkPort address speed parity with
      | .error row => (p, .range row)
      | .ok c =>
        if c = p.cfg.port then (p, { status := .noChange })
        else ({ p with cfg := { p.cfg with port := c } }, { status := .ok, after := .takePort })) s

/-- READ CONFIG's answer for a kind with a number below n (R183). -/
def readRecord {n : Nat} (number : Byte) (s : Part) (data : Fin n → List Byte) : Part × Answer :=
  match below n number with
  | some i => (s, { status := .ok, data := data i })
  | none => (s, .range 2)

/-- READ CONFIG (R12, R165, R183). -/
def execReadConfig (kind number : Byte) (s : State) : Host.Outcome State Fault Refusal :=
  request (.readConfig kind number)
    (fun p =>
      match kind.toNat with
      | 0 => readRecord number p p.loadConfigData
      | 1 => readRecord number p p.groupConfigData
      | 2 => readRecord number p p.zoneConfigData
      | 3 => readRecord number p p.panelConfigData
      | 4 => readRecord number p p.callConfigData
      | 5 => readRecord number p fun _ : Fin 1 => p.meterConfigData
      | 6 => readRecord number p fun _ : Fin 1 => p.linkConfigData
      | 7 => readRecord number p fun _ : Fin 1 => p.cfg.port.bytes
      | _ => (p, .range 1)) s

end Sys2Proof.Machine
end

