-- ==== Sys2Proof/Machine/Holds.lean ====
section
/-! DEFINITION. PLACE HOLD, RENEW HOLD, RELEASE HOLD, READ HOLD and LIST HOLDS (R53 to R65, R75, R76, R178,
R179). -/

namespace Sys2Proof.Machine

/-- The supervisor's answer to a placement outcome (R60, R56, R178). -/
def Part.placementAnswer (s : Part) : Placement → Answer
  | .wrongMode => { status := .wrongMode }
  | .noTarget => .range 3
  | .full => { status := .full }
  | .conflict => { status := .conflict }
  | .renewed h clamped => { status := .renewed, data := s.placedData h true clamped }
  | .placed h clamped =>
    { status := if clamped then .clamped else .ok, data := s.placedData h false clamped }

/-- The handling of a placement request is closed where a hold was placed or renewed; a refused placement
changes nothing (R53). -/
def Part.afterPlacement (s : Part) (r : Part × Placement) : Part :=
  match r.2 with
  | .placed _ _ | .renewed _ _ => s.finish r.1
  | .wrongMode | .noTarget | .full | .conflict => s

/-- PLACE HOLD (R53, R178). -/
def execPlaceHold (kind targetKind target : Byte) (duration : Half) (reason : Byte) (s : State) :
    Host.Outcome State Fault Refusal :=
  request (.placeHold kind targetKind target duration reason)
    (fun p =>
      if p.mode = .setup then (p, { status := .wrongMode })
      else
        match checkTarget kind targetKind target with
        | .error row => (p, .range row)
        | .ok (k, t) =>
          let r := p.place k t .supervisor duration.toNat reason.toNat
          let p' := p.afterPlacement r
          (p', p'.placementAnswer r.2)) s

/-- RENEW HOLD (R64, R179). -/
def execRenewHold (id duration : Half) (s : State) : Host.Outcome State Fault Refusal :=
  request (.renewHold id duration)
    (fun p =>
      if p.mode = .setup then (p, { status := .wrongMode })
      else
        match p.hold? id.toNat with
        | none => (p, { status := .notFound })
        | some h =>
          if h.owner != .supervisor then (p, { status := .notOwner })
          else
            let e := expiryFor h.kind duration.toNat p.minute
            let h' := { h with expiry := e.1, renewals := min 255 (h.renewals + 1) }
            (p.updateHold h',
              { status := if e.2 then .clamped else .ok, data := p.renewedData h' })) s

/-- RELEASE HOLD (R65, R179). The result gives the id and the cause, RELEASED or FORCED. -/
def execReleaseHold (id : Half) (force : Byte) (s : State) : Host.Outcome State Fault Refusal :=
  request (.releaseHold id force)
    (fun p =>
      match yesNo force with
      | none => (p, .range 2)
      | some f =>
        if p.mode = .setup then (p, { status := .wrongMode })
        else
          match p.hold? id.toNat with
          | none => (p, { status := .notFound })
          | some h =>
            if h.owner = .supervisor || f then
              (p.finish (p.retire h),
                { status := .ok, data := u16 h.id ++ flag (h.owner != .supervisor) })
            else (p, { status := .notOwner })) s

/-- READ HOLD (R75). -/
def execReadHold (id : Half) (s : State) : Host.Outcome State Fault Refusal :=
  request (.readHold id)
    (fun p =>
      match p.hold? id.toNat with
      | some h => (p, { status := .ok, data := p.holdBytes h })
      | none => (p, { status := .notFound })) s

/-- LIST HOLDS (R76). -/
def execListHolds (start : Byte) (s : State) : Host.Outcome State Fault Refusal :=
  request (.listHolds start)
    (fun p =>
      if 47 < start.toNat then (p, .range 1)
      else (p, { status := .ok, data := p.holdListData start.toNat })) s

end Sys2Proof.Machine
end

