-- ==== Sys2Proof/Machine/LineEvents.lean ====
section
/-! DEFINITION. The events of the direct lines (R151, R154 to R156, R160, R164). A qualified edge is taken
where the line's debounce record shows it due. -/

namespace Sys2Proof.Machine

/-- A line's edge, or its level, is taken where its record is in use and shows it due (R151). -/
def Part.takeLine (s : Part) (line : Line) (due : Debounce → Nat → Bool) (level : Level)
    (then_ : Part → Part) : Part :=
  if s.cfg.lineInUse line && due (s.lin.debounce line) (s.cfg.sampleCount line) then
    then_ (s.setDebounce line (.at_ level))
  else s

/-- A KEEP press is effective in the mode (R154). -/
def Part.keepEffective (s : Part) : Bool :=
  match s.mode with
  | .setup => false
  | .night => s.cfg.active.valid && s.cfg.active.nightPanels
  | .day | .windDown | .wake => true

/-- What the Line Inputs make of a KEEP placement's outcome (R155). -/
def Part.keepOutcome (s : Part) (p : PanelId) : Placement → Part
  | .placed _ _ | .renewed _ _ => (s.setRefusal p none).chooseLamp p
  | .conflict | .full => (s.setRefusal p (some (s.now + Config.refusalSeconds))).chooseLamp p
  | .wrongMode | .noTarget => s

/-- A KEEP press (R154). -/
def Part.keepPressed (s : Part) (p : PanelId) : Part :=
  if s.keepEffective then
    let c := s.cfg.panels[p]
    let r := s.place .keepOn (.zone c.zone) (.panel p) c.keepMin 0
    r.1.keepOutcome p r.2
  else s

/-- KEEP PRESS (R154, R155). -/
def execKeepPress (panel : PanelId) (s : State) : Host.Outcome State Fault Refusal :=
  event
    (fun p => p.takeLine (.key panel .keep) Debounce.risingDue .active
      fun q => p.finish (q.keepPressed panel)) s

/-- CLEAR PRESS (R156). -/
def execClearPress (panel : PanelId) (s : State) : Host.Outcome State Fault Refusal :=
  event
    (fun p => p.takeLine (.key panel .clear) Debounce.risingDue .active
      fun q => p.finish (((q.panelRelease panel).setRefusal panel none).chooseLamp panel)) s

/-- KEY RELEASE (R154, R156): the level changes, and nothing else. -/
def execKeyRelease (panel : PanelId) (key : Key) (s : State) : Host.Outcome State Fault Refusal :=
  event (fun p => p.takeLine (.key panel key) Debounce.fallingDue .inactive id) s

/-- REFUSAL TIMER EXPIRY (R155). -/
def execRefusalTimerExpiry (panel : PanelId) (s : State) : Host.Outcome State Fault Refusal :=
  event
    (fun p =>
      match p.lin.refusal[panel] with
      | some t => if t ≤ p.now then (p.setRefusal panel none).chooseLamp panel else p
      | none => p) s

/-- CALL RISING EDGE (R160, R162). -/
def execCallRisingEdge (line : CallId) (s : State) : Host.Outcome State Fault Refusal :=
  event
    (fun p => p.takeLine (.call line) Debounce.risingDue .active
      fun q => if q.callEffective line then p.finish (q.callRequest line) else q) s

/-- CALL FALLING EDGE (R160): nothing is sent. -/
def execCallFallingEdge (line : CallId) (s : State) : Host.Outcome State Fault Refusal :=
  event (fun p => p.takeLine (.call line) Debounce.fallingDue .inactive id) s

/-- A meter pulse is counted into the interval (R94). -/
def Part.countPulse (s : Part) : Part :=
  { s with dgv :=
    { s.dgv with energy := min Config.counterMax (s.dgv.energy + s.cfg.meter.whPerPulse) } }

/-- METER PULSE (R164). -/
def execMeterPulse (s : State) : Host.Outcome State Fault Refusal :=
  event (fun p => p.takeLine .meter Debounce.risingDue .active Part.countPulse) s

/-- METER FALLING EDGE (R164): nothing is handed over. -/
def execMeterFallingEdge (s : State) : Host.Outcome State Fault Refusal :=
  event (fun p => p.takeLine .meter Debounce.fallingDue .inactive id) s

/-- LEVEL QUALIFIED FROM UNKNOWN (R151): the line takes its sampled level without an edge. -/
def execLevelQualifiedFromUnknown (line : Line) (s : State) : Host.Outcome State Fault Refusal :=
  event (fun p => p.takeLine line Debounce.levelDue (p.lin.debounce line).sampledLevel id) s

/-- The Line Inputs after one sample of every sampled line, the lamps' patterns 5 ms on (R151, R158). -/
def Part.sampleLines (s : Part) (v : LineLevels) : Part :=
  { s with lin :=
    { s.lin with
      keep := tabulate fun p => s.sampled v (.key p .keep)
      clear := tabulate fun p => s.sampled v (.key p .clear)
      call := tabulate fun c => s.sampled v (.call c)
      meter := s.sampled v .meter
      lamps := tabulate fun p => s.lin.lamps[p].advance } }

/-- LINE SAMPLE (R151). -/
def execLineSample (levels : LineLevels) (s : State) : Host.Outcome State Fault Refusal :=
  event (fun p => p.sampleLines levels) s

end Sys2Proof.Machine
end

