-- ==== Sys2Proof/Machine/Link.lean ====
section
/-! DEFINITION. READ STATION, RECOVER STATION, LINK HALT and LINK RUN (R142, R145, R146, R148, R183). -/

namespace Sys2Proof.Machine

/-- READ STATION (R148). -/
def execReadStation (station : Byte) (s : State) : Host.Outcome State Fault Refusal :=
  request (.readStation station)
    (fun p =>
      match below 16 station with
      | some k => (p, { status := .ok, data := p.stationData k })
      | none => (p, .range 1)) s

/-- RECOVER STATION's success data: the station's state and recover_armed (R183). -/
def Part.recoverData (s : Part) (k : StationId) : List Byte :=
  u8 (s.station k).grade.code ++ flag (s.station k).recoverArmed

/-- RECOVER STATION (R142). -/
def execRecoverStation (station : Byte) (s : State) : Host.Outcome State Fault Refusal :=
  request (.recoverStation station)
    (fun p =>
      match below 16 station with
      | none => (p, .range 1)
      | some k =>
        if !p.polled k then (p, { status := .notFound })
        else if (p.station k).grade != .offline then (p, { status := .wrongState })
        else if p.recoversAuto k || (p.station k).recoverArmed then
          (p, { status := .noChange, data := p.recoverData k })
        else
          let p' := p.setStation k { p.station k with recoverArmed := true, goodRun := 0 }
          (p', { status := .ok, data := p'.recoverData k })) s

/-- The link is halted (R145). -/
def Part.haltLink (s : Part) : Part :=
  allStations.foldl Part.haltStation
    { s with flm := { s.flm with link := .halt, toPoll := [], inFlight := none } }

/-- LINK HALT (R145). -/
def execLinkHalt (s : State) : Host.Outcome State Fault Refusal :=
  request .linkHalt
    (fun p =>
      match p.flm.link with
      | .halt => (p, { status := .noChange, data := u8 p.flm.link.code })
      | .run =>
        let p' := p.finish p.haltLink
        (p', { status := .ok, data := u8 p'.flm.link.code })) s

/-- LINK RUN (R146): the link passes to RUN and the first poll cycle begins at once (R134). -/
def execLinkRun (s : State) : Host.Outcome State Fault Refusal :=
  request .linkRun
    (fun p =>
      match p.flm.link with
      | .run => (p, { status := .noChange, data := u8 p.flm.link.code })
      | .halt =>
        let p' := { p with flm := { p.flm with link := .run } }.beginCycle
        (p', { status := .ok, data := u8 p'.flm.link.code })) s

end Sys2Proof.Machine
end

