-- ==== Sys2Proof/Machine/Loads.lean ====
section
/-! DEFINITION. READ LOAD, START LOAD, STOP LOAD, CLEAR FAULT and READ QUEUE (R41 to R44, R102, R180). -/

namespace Sys2Proof.Machine

/-- A load command's rule, after the check of its load number (R180). -/
def onLoad (load : Byte) (rule : LoadId → Part → Part × Answer) (s : Part) : Part × Answer :=
  match below 64 load with
  | some n => rule n s
  | none => (s, .range 1)

/-- READ LOAD (R44): the record as it stands, then changed is cleared. -/
def execReadLoad (load : Byte) (s : State) : Host.Outcome State Fault Refusal :=
  request (.readLoad load)
    (onLoad load fun n p =>
      (p.setLoad n { p.load n with changed := false }, { status := .ok, data := p.loadData n })) s

/-- START LOAD (R43). -/
def execStartLoad (load : Byte) (s : State) : Host.Outcome State Fault Refusal :=
  request (.startLoad load)
    (onLoad load fun n p =>
      match (p.load n).phase with
      | .off =>
        if 0 < p.offCount n then (p, { status := .keptOff })
        else
          let p' := p.finish (p.enqueue n .command)
          (p', { status := .ok, data := p'.startData n })
      | .queued =>
        let p' := p.finish (p.enqueue n .command)
        (p', { status := .noChange, data := p'.startData n })
      | .localRun | .watch | .starting => (p, { status := .noChange, data := p.startData n })
      | .stopping _ | .override | .fault _ | .unreachable | .unused => (p, { status := .wrongState })) s

/-- The first row of Table 2-3, from row 2 on, that refuses a STOP LOAD (R42). -/
def Part.stopRefusal (s : Part) (n : LoadId) : Option Status :=
  let phase := (s.load n).phase
  if s.mode = .setup then some .wrongMode
  else if !phase.running && phase != .queued then some .wrongState
  else if 0 < s.onCount n then some .kept
  else if !s.dependentsAllowStop n || (phase.running && !s.stationOnline n) then some .dependent
  else if phase.running && !s.minRunMet n then some .tooSoon
  else none

/-- STOP LOAD (R42). -/
def execStopLoad (load : Byte) (s : State) : Host.Outcome State Fault Refusal :=
  request (.stopLoad load)
    (onLoad load fun n p =>
      match p.stopRefusal n with
      | some status => (p, { status := status })
      | none =>
        let stopped := if (p.load n).phase = .queued then p.withdraw n .stop else p.enterStopping n
        let p' := p.finish stopped
        (p', { status := .ok, data := p'.stateData n })) s

/-- CLEAR FAULT (R41). -/
def execClearFault (load : Byte) (s : State) : Host.Outcome State Fault Refusal :=
  request (.clearFault load)
    (onLoad load fun n p =>
      match (p.load n).phase with
      | .fault .noStart =>
        let p' := p.finish (p.enterOff n)
        (p', { status := .ok, data := p'.stateData n })
      | .fault .noStop => (p, { status := .wrongState })
      | _ => (p, { status := .noChange, data := p.stateData n })) s

/-- READ QUEUE (R102). -/
def execReadQueue (start : Byte) (s : State) : Host.Outcome State Fault Refusal :=
  request (.readQueue start)
    (fun p =>
      if 63 < start.toNat then (p, .range 1)
      else (p, { status := .ok, data := p.queueData start.toNat })) s

end Sys2Proof.Machine
end

