-- ==== Sys2Proof/Machine/Plans.lean ====
section
/-! DEFINITION. WRITE PLAN, READ PLAN, ARM PLAN, SET CEILING and READ DEMAND (R93, R103, R110, R111, R113). -/

namespace Sys2Proof.Machine

/-- A swap taken in DAY: the plans are exchanged and the next night is recomputed, which may take DAY on to
WIND_DOWN (R112, R115). -/
def Part.swapInDay (s : Part) : Part :=
  match s.ncc.mode with
  | .day _ mark =>
    let r := s.swapPlans.takeNextNight mark
    Part.runMoves 8 r.1 r.2
  | _ => s

/-- The armed flag is set or cleared, and a flag left set in DAY swaps the plans at once (R110, R111);
answers whether it did. -/
def Part.arm (s : Part) (armed : Bool) : Part × Bool :=
  let s := { s with ncc := { s.ncc with armed := armed } }
  if armed && s.mode = .day then (s.swapInDay, true) else (s, false)

/-- The result data of WRITE PLAN and ARM PLAN: the armed flag and the swapped flag (R110, R111). -/
def Part.armData (s : Part) (swapped : Bool) : List Byte := flag s.ncc.armed ++ flag swapped

/-- A plan record in range is written to STAGED with an arm value; an empty slot is never armed (R110). -/
def Part.stagePlan (s : Part) (plan : Plan) (arm : Bool) : Part × Answer :=
  let armed := plan.valid && arm
  let changed := s.cfg.staged != plan || s.ncc.armed != armed
  let r := ({ s with cfg := { s.cfg with staged := plan } }).arm armed
  let s' := s.finish r.1
  (s', { status := okIf changed, data := s'.armData r.2 })

/-- WRITE PLAN (R110). -/
def execWritePlan (arm : Byte) (plan : RawPlan) (s : State) : Host.Outcome State Fault Refusal :=
  request (.writePlan arm plan)
    (saveGate fun p =>
      match yesNo arm with
      | none => (p, .range 0)
      | some a =>
        match checkPlan plan with
        | .error row => (p, .range row)
        | .ok record => p.stagePlan record a) s

/-- READ PLAN (R113). -/
def execReadPlan (slot : Byte) (s : State) : Host.Outcome State Fault Refusal :=
  request (.readPlan slot)
    (fun p =>
      match slot.toNat with
      | 0 => (p, { status := .ok, data := p.planData true })
      | 1 => (p, { status := .ok, data := p.planData false })
      | _ => (p, .range 1)) s

/-- ARM PLAN (R111). -/
def execArmPlan (value : Byte) (s : State) : Host.Outcome State Fault Refusal :=
  request (.armPlan value)
    (fun p =>
      match yesNo value with
      | none => (p, .range 1)
      | some v =>
        if !p.cfg.staged.valid then (p, { status := .notFound })
        else if p.ncc.armed = v then (p, { status := .noChange, data := p.armData false })
        else
          let r := p.arm v
          let p' := p.finish r.1
          (p', { status := .ok, data := p'.armData r.2 })) s

/-- A ceiling as SET CEILING sets it from a value, given the plan's: 0 takes the plan value, a value above
60,000 is clamped (R93). -/
def ceilingFor (value planValue : Nat) : Ceiling :=
  if value = 0 then { value := planValue }
  else { value := min Config.ceilingMax value, source := .override }

/-- SET CEILING's effect and answer (R93). -/
def Part.takeCeilings (s : Part) (i d : Nat) : Part × Answer :=
  let ci := ceilingFor i s.cfg.planCeilings.1
  let cd := ceilingFor d s.cfg.planCeilings.2
  let s' := s.setCeilings ci cd
  let status : Status :=
    if Config.ceilingMax < i || Config.ceilingMax < d then .clamped
    else okIf (s.dgv.ceilingI != ci || s.dgv.ceilingD != cd)
  (s', { status := status, data := s'.ceilingData })

/-- SET CEILING (R93). -/
def execSetCeiling (instantaneous interval : Half) (s : State) : Host.Outcome State Fault Refusal :=
  request (.setCeiling instantaneous interval)
    (fun p => p.takeCeilings instantaneous.toNat interval.toNat) s

/-- READ DEMAND (R103). -/
def execReadDemand (s : State) : Host.Outcome State Fault Refusal :=
  request .readDemand (fun p => (p, { status := .ok, data := p.demandData })) s

end Sys2Proof.Machine
end

