-- ==== Sys2Proof/Machine/PollEvents.lean ====
section
/-! DEFINITION. The events of the field link (R134 to R137, R207). -/

namespace Sys2Proof.Machine

/-- POLL CYCLE START (R134): a cycle begins where the link is in RUN and the previous cycle has ended. -/
def execPollCycleStart (s : State) : Host.Outcome State Fault Refusal :=
  event
    (fun p =>
      if p.flm.link = .run ∧ p.flm.inFlight = none ∧ p.flm.toPoll = [] then p.beginCycle else p) s

/-- The transaction in flight fails, and the next station of the cycle is polled (R136, R137). -/
def Part.failTransaction (s : Part) (t : Transaction) : Part :=
  (s.finish (s.failPoll t.station)).pollNext

/-- POLL REPLY GOOD (R137): the twelve bytes of a reply that is judged good. Bytes that are judged
otherwise are no good reply. -/
def execPollReplyGood (bytes : List Byte) (s : State) : Host.Outcome State Fault Refusal :=
  event
    (fun p =>
      match p.flm.inFlight with
      | some t =>
        match judgeReply t bytes with
        | some v => (p.finish (p.goodReply t.station v)).pollNext
        | none => p
      | none => p) s

/-- The characters of a reply are those of a good one; the field link has no parity (R207). -/
def goodChars (t : Transaction) (chars : List Received) : Bool :=
  !chars.any (byteError .none) && (judgeReply t (chars.map Received.value)).isSome

/-- POLL REPLY BAD (R138): the characters of a reply that is cut short, has a byte error, fails its CRC or
carries the wrong station or tag. -/
def execPollReplyBad (chars : List Received) (s : State) : Host.Outcome State Fault Refusal :=
  event
    (fun p =>
      match p.flm.inFlight with
      | some t => if goodChars t chars then p else p.failTransaction t
      | none => p) s

/-- REPLY TIMEOUT (R136). -/
def execReplyTimeout (s : State) : Host.Outcome State Fault Refusal :=
  event
    (fun p =>
      match p.flm.inFlight with
      | some t => p.failTransaction t
      | none => p) s

/-- REPLY GAP TIMEOUT (R207). -/
def execReplyGapTimeout (s : State) : Host.Outcome State Fault Refusal :=
  event
    (fun p =>
      match p.flm.inFlight with
      | some t => p.failTransaction t
      | none => p) s

end Sys2Proof.Machine
end

