-- ==== Sys2Proof/Machine/PortEvents.lean ====
section
/-! DEFINITION. The events of the supervisory line (R168 to R171, R187). -/

namespace Sys2Proof.Machine

/-- A character arrives on the supervisory line (R169 to R171). -/
def execCharacterReceived (char : Received) (s : State) : Host.Outcome State Fault Refusal :=
  event (fun p => p.receive char) s

/-- A character arrives that shows a discard case of Table 8-2: the frame is discarded without reply and
the receiver enters HUNT (R170). -/
def execFrameDiscard (char : Received) (s : State) : Host.Outcome State Fault Refusal :=
  event
    (fun p =>
      match p.svp.receiver with
      | .receiving buffer =>
        if showsDiscard p.svp.inEffect buffer char then p.setReceiver .hunt else p
      | _ => p) s

/-- A character ends a gap longer than 10 ms inside a frame: the frame is discarded and that character is
examined in HUNT (R170). Outside RECEIVING no gap is measured. -/
def execFrameGapTimeout (char : Received) (s : State) : Host.Outcome State Fault Refusal :=
  event
    (fun p =>
      match p.svp.receiver with
      | .receiving _ => p.examine char
      | _ => p) s

/-- The first byte of a result is sent (R169, R171). -/
def execResultBegin (s : State) : Host.Outcome State Fault Refusal :=
  event
    (fun p =>
      match p.svp.receiver with
      | .served r => p.setReceiver (.answering r)
      | _ => p) s

/-- What the end of a result brings about (R168, R169, R187). -/
def Part.endResult (s : Part) : AfterResult → Part
  | .nothing => s.setReceiver .hunt
  | .takePort => { s with svp := { s.svp with inEffect := s.cfg.port, receiver := .hunt } }
  | .carryOutReset => s.commandReset

/-- The last byte of a result has been sent (R169). -/
def execResultEnd (s : State) : Host.Outcome State Fault Refusal :=
  event
    (fun p =>
      match p.svp.receiver with
      | .answering r => p.endResult r.after
      | _ => p) s

end Sys2Proof.Machine
end

