-- ==== Sys2Proof/Machine/Status.lean ====
section
/-! DEFINITION. IDENTIFY and READ STATUS (R175, R176). -/

namespace Sys2Proof.Machine

/-- IDENTIFY (R175). -/
def execIdentify (s : State) : Host.Outcome State Fault Refusal :=
  request .identify (fun p => (p, { status := .ok, data := p.identityData })) s

/-- READ STATUS (R176). -/
def execReadStatus (s : State) : Host.Outcome State Fault Refusal :=
  request .readStatus (fun p => (p, { status := .ok, data := p.statusData })) s

end Sys2Proof.Machine
end

