-- ==== Sys2Proof/Machine/StoreReset.lean ====
section
/-! DEFINITION. SAVE and RESET, and the three completions of a SAVE at the storage (R185, R187, R197, R198). -/

namespace Sys2Proof.Machine

/-- A SAVE is accepted: the copy is taken, the erasing begins, and the image is BAD (R197, R198). -/
def Part.beginSave (s : Part) : Part :=
  { s with cfs :=
    { s.cfs with storage := {}, phase := .erasing, image := .bad, copy := some s.cfg } }

/-- SAVE (R185, R197). -/
def execSave (s : State) : Host.Outcome State Fault Refusal :=
  request .save
    (saveGate fun p =>
      if p.mode = .setup || p.mode = .day then (p.beginSave, { status := .ok })
      else (p, { status := .wrongMode })) s

/-- RESET (R187): carried out when the last byte of its result has been sent. -/
def execReset (s : State) : Host.Outcome State Fault Refusal :=
  request .reset (saveGate fun p => (p, { status := .ok, after := .carryOutReset })) s

/-- The erase completes, and the save enters WRITING (R198). -/
def execErasingComplete (s : State) : Host.Outcome State Fault Refusal :=
  event
    (fun p =>
      if p.cfs.phase = .erasing then { p with cfs := { p.cfs with phase := .writing } } else p) s

/-- The copy and its sum word have been written, and the save enters CHECKING (R198). -/
def execWritingComplete (s : State) : Host.Outcome State Fault Refusal :=
  event
    (fun p =>
      if p.cfs.phase = .writing then
        { p with cfs := { p.cfs with phase := .checking, storage := .written p.cfs.copy } }
      else p) s

/-- The storage after the read-back of CHECKING: the completion mark stands only where every word and the
mark read back right; where a word differs, the storage does not hold the words that were written (R198;
log entry 16). -/
def Storage.afterCheck (t : Storage) : CheckResult → Storage
  | .agrees => { t with mark := true }
  | .wordDiffers => {}
  | .markWrong => { t with mark := false }

/-- A SAVE ends (R198, R202). -/
def Part.endSave (s : Part) (result : CheckResult) : Part :=
  let success : Bool := result = .agrees
  let s := { s with cfs :=
    { s.cfs with
      storage := s.cfs.storage.afterCheck result
      phase := .idle
      image := if success then .good else .bad
      outcome := if success then .success else .fault
      copy := none } }
  s.raise (.store success false)

/-- The read-back ends the save with success or fault, and STORE is raised (R198). -/
def execCheckingComplete (result : CheckResult) (s : State) : Host.Outcome State Fault Refusal :=
  event (fun p => if p.cfs.phase = .checking then p.endSave result else p) s

end Sys2Proof.Machine
end

