-- ==== Sys2Proof/Machine/Supply.lean ====
section
/-! DEFINITION. The supply and the reset line (R203, R204, R199). -/

namespace Sys2Proof.Machine

/-- The supply falls below 16 V: the part enters the held condition at once (R203). A part already held by
the reset line stays held. `markWritten` is R199's order of two simultaneous events: whether a SAVE in
CHECKING had its completion mark written and read back first. -/
def execSupplyLow (markWritten : Bool) (s : State) : Host.Outcome State Fault Refusal :=
  let p := s.toPart
  let p' := if p.working then p.hold markWritten else p
  .next { s with toPart := { p' with power := { p'.power with supplyLow := true } } }

/-- The supply rises to 17 V or above: the part leaves the held condition as a power-on, unless the reset
line still holds it (R203, R204). A supply that was not low has nothing to rise from. -/
def execPowerOn (s : State) : Host.Outcome State Fault Refusal :=
  let p := s.toPart
  .next { s with toPart :=
    if p.power.supplyLow then { p with power := { p.power with supplyLow := false } }.leaveHold else p }

/-- A low level on the reset line has lasted 1 ms: the part enters the held condition (R204). -/
def execResetLineAssert (markWritten : Bool) (s : State) : Host.Outcome State Fault Refusal :=
  let p := s.toPart
  let p' := if p.working then p.hold markWritten else p
  .next { s with toPart := { p' with power := { p'.power with resetLow := true } } }

/-- The reset line returns high: every block takes its reset line values, unless the supply still holds
the part (R204). A line that was not low has nothing to return from. -/
def execResetLineRelease (s : State) : Host.Outcome State Fault Refusal :=
  let p := s.toPart
  .next { s with toPart :=
    if p.power.resetLow then { p with power := { p.power with resetLow := false } }.leaveHold else p }

end Sys2Proof.Machine
end

