-- ==== Sys2Proof/Machine/TimeEvents.lean ====
section
/-! DEFINITION. The events of the time bases: uptime and clock (R105, R106), hold expiry (R68), the loads'
timers (R23, R28, R33, R37, R38, R89), the mode deadlines (R115, R118, R119, R122, R124) and the demand
interval (R96). A deadline's event does nothing where its deadline has not been reached. -/

namespace Sys2Proof.Machine

/-- The clock advances by one second while it is valid (R106). -/
def Clock.tick (c : Clock) : Clock :=
  if !c.valid then c
  else if c.second < 59 then { c with second := c.second + 1 }
  else { c with second := 0, minute := (c.minute + 1) % Config.weekMinutes }

/-- Uptime and the clock move on by one second, and the boundaries of the new second fall due (R105, R106,
R94). -/
def NightCycle.tick (c : NightCycle) (intervalMin : Nat) : NightCycle :=
  let uptime := min Config.counterMax (c.uptime + 1)
  let clock := c.clock.tick
  { c with
    uptime := uptime
    clock := clock
    minuteDue := uptime != c.uptime && uptime % 60 = 0
    intervalDue := clock.valid && clock.second = 0 && clock.minute % intervalMin = 0 }

/-- An uptime second: D is recomputed, and a scan is started while the queue is not empty (R92, R98). -/
def Part.second (s : Part) : Part :=
  let next := { s with ncc := s.ncc.tick s.cfg.meter.intervalMin }
  let next := if s.dgv.queue.isEmpty then next else next.startScan
  s.recomputeDemand next

/-- UPTIME SECOND (R105). -/
def execUptimeSecond (s : State) : Host.Outcome State Fault Refusal := event Part.second s

/-- In NIGHT the lead and wake_begin are computed again (R121, R122). -/
def Part.renewLead (s : Part) : Part :=
  match s.ncc.mode with
  | .night target _ _ =>
    let r := s.takeLead target
    Part.runMoves 8 r.1 r.2
  | _ => s

/-- The asserted, effective call lines send their placement requests (R160). -/
def Part.renewCalls (s : Part) : Part := s.callsAsking.foldl Part.callRequest s

/-- The events of an uptime minute boundary: the lead, the call lines and the lamps (R105, R122, R160,
R157). The manual does not order the lead against the call lines; where both are to be taken, the choice
is free. -/
def Part.minuteBoundary (s : Part) : Part :=
  let s := { s with ncc := { s.ncc with minuteDue := false } }
  let both := s.mode = .night && !s.callsAsking.isEmpty
  let s :=
    if !both then s.renewLead.renewCalls
    else if Config.freeChoice s.freeCount % 2 = 0 then s.nextChoice.renewLead.renewCalls
    else s.nextChoice.renewCalls.renewLead
  s.chooseLamps

/-- UPTIME MINUTE BOUNDARY (R105). -/
def execUptimeMinuteBoundary (s : State) : Host.Outcome State Fault Refusal :=
  event (fun p => if p.ncc.minuteDue then p.finish p.minuteBoundary else p) s

/-- The live holds whose expiry has been reached, in ascending id (R68). -/
def Part.expiring (s : Part) : List Hold :=
  s.holds.filter fun h => match h.expiry with | some e => decide (e ≤ s.minute) | none => false

/-- HOLD EXPIRY (R68). -/
def execHoldExpiry (s : State) : Host.Outcome State Fault Refusal :=
  event
    (fun p =>
      if 0 < p.now ∧ p.now % 60 = 0 then p.finish (p.expiring.foldl Part.expire p) else p) s

/-- IDLE EXPIRY (R28): at its second the check of R29 is taken. -/
def execIdleExpiry (load : LoadId) (s : State) : Host.Outcome State Fault Refusal :=
  event
    (fun p =>
      if p.now = (p.load load).lastActivity + (p.config load).idleMin * 60 ∧ p.idleStopDue load then
        p.finish (p.enterStopping load)
      else p) s

/-- The stop deadline of a load has been reached (R31). -/
def Part.stopDeadlinePassed (s : Part) (n : LoadId) : Bool :=
  match (s.load n).phase with
  | .stopping began => decide (began + (s.config n).stopTimeoutS ≤ s.now)
  | _ => false

/-- STOP DEADLINE (R33): a load still STOPPING at its deadline fails with NO_STOP, whatever its feedback reads;
one whose feedback is off is still STOPPING only because its station has not answered, and R33's last paragraph
raises NO_STOP for it too. -/
def execStopDeadline (load : LoadId) (s : State) : Host.Outcome State Fault Refusal :=
  event (fun p => if p.stopDeadlinePassed load then p.finish (p.failStop load) else p) s

/-- START DEADLINE (R38). -/
def execStartDeadline (load : LoadId) (s : State) : Host.Outcome State Fault Refusal :=
  event
    (fun p =>
      if (p.load load).phase = .starting ∧ p.startDeadlinePassed load ∧ !(p.load load).feedback then
        p.finish (p.failStart load)
      else p) s

/-- INRUSH WINDOW END (R37). -/
def execInrushWindowEnd (load : LoadId) (s : State) : Host.Outcome State Fault Refusal :=
  event
    (fun p =>
      if (p.load load).phase = .starting ∧ (p.load load).feedback ∧ !p.inWindow load then
        p.finish (p.completeStart load)
      else p) s

/-- ACTIVITY WINDOW EXPIRY (R23). -/
def execActivityWindowExpiry (load : LoadId) (s : State) : Host.Outcome State Fault Refusal :=
  event
    (fun p =>
      match (p.load load).activityWindow with
      | some w =>
        if w + Config.activityWindow ≤ p.now then
          p.setLoad load { p.load load with activityCount := 0, activityWindow := none }
        else p
      | none => p) s

/-- START HISTORY AGE OUT (R89). -/
def execStartHistoryAgeOut (load : LoadId) (s : State) : Host.Outcome State Fault Refusal :=
  event
    (fun p =>
      p.setLoad load
        { p.load load with
          startHistory := (p.load load).startHistory.filter fun a => p.now - a < Config.historySeconds }) s

/-- CANCELLED MARK PASSED (R115). -/
def execCancelledMarkPassed (s : State) : Host.Outcome State Fault Refusal :=
  event
    (fun p =>
      match p.ncc.mode with
      | .day next (some mark) => if mark < p.now then p.setMode (.day next none) else p
      | _ => p) s

/-- WARN START REACHED (R118). -/
def execWarnStartReached (s : State) : Host.Outcome State Fault Refusal :=
  event
    (fun p =>
      match p.ncc.mode with
      | .day (some next) _ =>
        if next.warnStart ≤ p.now then
          p.finish (p.changeMode
            (if p.cfg.active.warningMin = 0 then .night else .windDown next.nightStart true))
        else p
      | _ => p) s

/-- WARNING DEADLINE (R119). -/
def execWarningDeadline (s : State) : Host.Outcome State Fault Refusal :=
  event
    (fun p =>
      match p.ncc.mode with
      | .windDown deadline _ => if deadline ≤ p.now then p.finish (p.changeMode .night) else p
      | _ => p) s

/-- WAKE BEGIN (R122). -/
def execWakeBegin (s : State) : Host.Outcome State Fault Refusal :=
  event
    (fun p =>
      match p.ncc.mode with
      | .night _ (some b) _ => if b ≤ p.now then p.finish (p.changeMode p.wakeMove) else p
      | _ => p) s

/-- GRACE DEADLINE (R124). -/
def execGraceDeadline (s : State) : Host.Outcome State Fault Refusal :=
  event
    (fun p =>
      match p.ncc.mode with
      | .wake (some g) => if g ≤ p.now then p.finish (p.changeMode (.day p.wakeWork none)) else p
      | _ => p) s

/-- A demand interval closes at a boundary (R95, R96). -/
def Part.closeInterval (s : Part) : Part :=
  let s := { s with ncc := { s.ncc with intervalDue := false } }
  if !s.cfg.meter.inUse then s.beginPartial
  else if s.dgv.isPartial then { s with dgv := { s.dgv with energy := 0, isPartial := false } }
  else
    let kw := intervalKw s.dgv.energy s.intervalLength
    let s := { s with dgv := { s.dgv with energy := 0, isPartial := false, lastIntervalKw := some kw } }
    if 0 < s.dgv.ceilingD.value && s.dgv.ceilingD.value < kw then s.raise (.demand kw) else s

/-- INTERVAL BOUNDARY (R96). -/
def execIntervalBoundary (s : State) : Host.Outcome State Fault Refusal :=
  event (fun p => if p.ncc.intervalDue then p.closeInterval else p) s

/-- ADMISSION SCAN (R98, R99): a scan that has been started is taken. -/
def execAdmissionScan (s : State) : Host.Outcome State Fault Refusal :=
  event (fun p => if p.dgv.scanDue then p.finish p.scan else p) s

end Sys2Proof.Machine
end

