-- ==== Sys2Proof/Machine/Dispatch.lean ====
section
/-! DEFINITION. The dispatch: one arm per row of the table of operations and events, each one direct call of
that command's meaning. -/

namespace Sys2Proof.Machine

def exec (i : Instr) (s : State) : Host.Outcome State Fault Refusal :=
  match i with
  | .identify => Sys2Proof.Machine.execIdentify s
  | .readStatus => Sys2Proof.Machine.execReadStatus s
  | .setClock minute second => Sys2Proof.Machine.execSetClock minute second s
  | .readClock => Sys2Proof.Machine.execReadClock s
  | .setMode mode => Sys2Proof.Machine.execSetMode mode s
  | .writePlan arm plan => Sys2Proof.Machine.execWritePlan arm plan s
  | .readPlan slot => Sys2Proof.Machine.execReadPlan slot s
  | .armPlan value => Sys2Proof.Machine.execArmPlan value s
  | .setCeiling instantaneous interval => Sys2Proof.Machine.execSetCeiling instantaneous interval s
  | .readDemand => Sys2Proof.Machine.execReadDemand s
  | .placeHold kind targetKind target duration reason => Sys2Proof.Machine.execPlaceHold kind targetKind target duration reason s
  | .renewHold id duration => Sys2Proof.Machine.execRenewHold id duration s
  | .releaseHold id force => Sys2Proof.Machine.execReleaseHold id force s
  | .readHold id => Sys2Proof.Machine.execReadHold id s
  | .listHolds start => Sys2Proof.Machine.execListHolds start s
  | .readLoad load => Sys2Proof.Machine.execReadLoad load s
  | .startLoad load => Sys2Proof.Machine.execStartLoad load s
  | .stopLoad load => Sys2Proof.Machine.execStopLoad load s
  | .clearFault load => Sys2Proof.Machine.execClearFault load s
  | .readQueue start => Sys2Proof.Machine.execReadQueue start s
  | .writeLoadConfig load record => Sys2Proof.Machine.execWriteLoadConfig load record s
  | .writeGroup group record => Sys2Proof.Machine.execWriteGroup group record s
  | .writeZone zone tag => Sys2Proof.Machine.execWriteZone zone tag s
  | .writePanel panel record => Sys2Proof.Machine.execWritePanel panel record s
  | .writeCall call record => Sys2Proof.Machine.execWriteCall call record s
  | .writeMeter record => Sys2Proof.Machine.execWriteMeter record s
  | .writeLink record => Sys2Proof.Machine.execWriteLink record s
  | .writePort address speed parity => Sys2Proof.Machine.execWritePort address speed parity s
  | .readConfig kind number => Sys2Proof.Machine.execReadConfig kind number s
  | .readStation station => Sys2Proof.Machine.execReadStation station s
  | .recoverStation station => Sys2Proof.Machine.execRecoverStation station s
  | .linkHalt => Sys2Proof.Machine.execLinkHalt s
  | .linkRun => Sys2Proof.Machine.execLinkRun s
  | .readAttention => Sys2Proof.Machine.execReadAttention s
  | .ackAttention causes => Sys2Proof.Machine.execAckAttention causes s
  | .setAttentionEnable causes => Sys2Proof.Machine.execSetAttentionEnable causes s
  | .save => Sys2Proof.Machine.execSave s
  | .reset => Sys2Proof.Machine.execReset s
  | .frameDiscard char => Sys2Proof.Machine.execFrameDiscard char s
  | .frameGapTimeout char => Sys2Proof.Machine.execFrameGapTimeout char s
  | .resultBegin => Sys2Proof.Machine.execResultBegin s
  | .resultEnd => Sys2Proof.Machine.execResultEnd s
  | .powerOn => Sys2Proof.Machine.execPowerOn s
  | .supplyLow markWritten => Sys2Proof.Machine.execSupplyLow markWritten s
  | .resetLineAssert markWritten => Sys2Proof.Machine.execResetLineAssert markWritten s
  | .resetLineRelease => Sys2Proof.Machine.execResetLineRelease s
  | .uptimeSecond => Sys2Proof.Machine.execUptimeSecond s
  | .uptimeMinuteBoundary => Sys2Proof.Machine.execUptimeMinuteBoundary s
  | .holdExpiry => Sys2Proof.Machine.execHoldExpiry s
  | .idleExpiry load => Sys2Proof.Machine.execIdleExpiry load s
  | .stopDeadline load => Sys2Proof.Machine.execStopDeadline load s
  | .startDeadline load => Sys2Proof.Machine.execStartDeadline load s
  | .inrushWindowEnd load => Sys2Proof.Machine.execInrushWindowEnd load s
  | .activityWindowExpiry load => Sys2Proof.Machine.execActivityWindowExpiry load s
  | .startHistoryAgeOut load => Sys2Proof.Machine.execStartHistoryAgeOut load s
  | .cancelledMarkPassed => Sys2Proof.Machine.execCancelledMarkPassed s
  | .warnStartReached => Sys2Proof.Machine.execWarnStartReached s
  | .warningDeadline => Sys2Proof.Machine.execWarningDeadline s
  | .wakeBegin => Sys2Proof.Machine.execWakeBegin s
  | .graceDeadline => Sys2Proof.Machine.execGraceDeadline s
  | .intervalBoundary => Sys2Proof.Machine.execIntervalBoundary s
  | .admissionScan => Sys2Proof.Machine.execAdmissionScan s
  | .pollCycleStart => Sys2Proof.Machine.execPollCycleStart s
  | .pollReplyGood bytes => Sys2Proof.Machine.execPollReplyGood bytes s
  | .pollReplyBad chars => Sys2Proof.Machine.execPollReplyBad chars s
  | .replyTimeout => Sys2Proof.Machine.execReplyTimeout s
  | .replyGapTimeout => Sys2Proof.Machine.execReplyGapTimeout s
  | .keepPress panel => Sys2Proof.Machine.execKeepPress panel s
  | .clearPress panel => Sys2Proof.Machine.execClearPress panel s
  | .keyRelease panel key => Sys2Proof.Machine.execKeyRelease panel key s
  | .refusalTimerExpiry panel => Sys2Proof.Machine.execRefusalTimerExpiry panel s
  | .callRisingEdge line => Sys2Proof.Machine.execCallRisingEdge line s
  | .callFallingEdge line => Sys2Proof.Machine.execCallFallingEdge line s
  | .meterPulse => Sys2Proof.Machine.execMeterPulse s
  | .meterFallingEdge => Sys2Proof.Machine.execMeterFallingEdge s
  | .levelQualifiedFromUnknown line => Sys2Proof.Machine.execLevelQualifiedFromUnknown line s
  | .erasingComplete => Sys2Proof.Machine.execErasingComplete s
  | .writingComplete => Sys2Proof.Machine.execWritingComplete s
  | .checkingComplete result => Sys2Proof.Machine.execCheckingComplete result s
  | .lineSample levels => Sys2Proof.Machine.execLineSample levels s
  | .characterReceived char => Sys2Proof.Machine.execCharacterReceived char s

end Sys2Proof.Machine
end

