-- ==== Sys2Proof/Machine/Step.lean ====
section
/-! DEFINITION. One step of the block: the command at the front of the queue is taken and run on the state
whose queue is the rest; on an empty queue the block idles. And the host's question: a command put at the
front of the queue. -/

namespace Sys2Proof.Machine

/-- The state whose queue of waiting commands is the one given. -/
def State.withPending (s : State) (q : List Instr) : State := { s with pending := q }

/-- One step (R104: events are handled one at a time, each whole before the next). An empty queue idles. -/
def step (s : State) : Host.Outcome State Fault Refusal :=
  match s.pending with
  | [] => .next s
  | c :: rest => exec c (s.withPending rest)

/-- The state with the command a word spells put at the front of its queue; unchanged where the word spells
none, which is every word, as the table gives its rows no bits. -/
def State.withFetchWord (s : State) (nbits w : Nat) : State :=
  match decodeTableWord nbits w with
  | some c => s.withPending (c :: s.pending)
  | none => s

end Sys2Proof.Machine
end

