-- ==== Sys2Proof/Safety.lean ====
section
/-! DEFINITION. What a sound state of the part is, in the terms the statements use: the records in range, the
Hold Table, the Load Table with the Start Queue, the stations, and the storage; and the vocabulary of the
statements about frames. -/

namespace Sys2Proof.Machine

/-! ## Outcomes in the words of the statements -/

/-- The machine with another part and the same queue. -/
def State.withPart (s : State) (p : Part) : State := { s with toPart := p }

/-- The machine after a request has been served: the part the rule left, its answer in the receiver (R172). -/
def State.answered (s : State) (c : Instr) (p : Part) (a : Answer) : State := s.withPart (p.answer c a)

/-- No SAVE is in progress and the mode is SETUP: a configuration write is taken (R10). -/
def Part.writable (s : Part) : Prop := s.saving = false ∧ s.mode = .setup

/-- No poll cycle is under way: no transaction is in flight and no station is left to poll (R134). -/
def FieldLink.betweenCycles (f : FieldLink) : Prop := f.inFlight = none ∧ f.toPoll = []

/-- The bytes are a good reply to the poll, bringing these readings (R136, R207): the twelve of Table 10-12, with the
station and the tag of the poll, the bits and edge counts of the four channels, bits 4 to 7 and the trailer of any
value, and the CRC of the bytes from the station to the last edge count. -/
def Transaction.answeredBy (x : Transaction) (bytes : List Byte) (v : Vector Reading 4) : Prop :=
  ∃ (feedback level trailer : Byte) (edges : Vector Byte 4),
    let covered : List Byte :=
      [BitVec.ofNat 8 x.station.val, x.tag, feedback, level, edges[0], edges[1], edges[2], edges[3]]
    bytes = 0x3C :: covered ++ crcBytes covered ++ [trailer] ∧
    ∀ c : Fin 4, v[c] =
      { feedback := feedback.getLsbD c.val, level := level.getLsbD c.val, edges := (edges[c]).toNat }

/-- From s, in which a transaction was in flight that has ended, the cycle has gone on to t: the first station still
to come and still in the polled set is polled, with its tag, and with its permits as its loads then stand, or as a
probe where it is OFFLINE; with none to come the cycle has ended (R132, R134 to R136). -/
def Part.cycleGoesOn (s t : Part) : Prop :=
  let toCome := s.flm.toPoll.dropWhile fun j => !s.polled j
  (toCome = [] → t.flm.toPoll = [] ∧ t.flm.inFlight = none) ∧
  ∀ j rest, toCome = j :: rest →
    let probe : Bool := (t.station j).grade = .offline
    t.flm.toPoll = rest ∧
    t.flm.inFlight = some
      { station := j, tag := (s.station j).pollTag, permitValid := !probe
        permits := if probe then 0 else t.permits j, timeoutMs := s.cfg.link.replyTimeoutMs } ∧
    (t.station j).pollTag = (s.station j).pollTag + 1 ∧
    (probe = true → (t.station j).probeCount = 7)

/-- What a good reply's edge count or level bit makes of a load's activity record, r before it and u after it, `last`
saying of a second that it is the load's last activity: the present second at an activity event, and otherwise what
`kept` gives (R23, R24). -/
def LoadRecord.hearsActivity (r u : LoadRecord) (c : LoadConfig) (v : Reading) (now kept : Nat) (last : Nat → Prop) :
    Prop :=
  match c.activityMode with
  | .pulse =>
    let sum := min 255 (r.activityCount + v.edges)
    if r.activityWindow = none ∧ v.edges = 0 then
      u.activityCount = r.activityCount ∧ u.activityWindow = none ∧ last kept
    else if c.activityThreshold ≤ sum then u.activityCount = 0 ∧ u.activityWindow = none ∧ last now
    else u.activityCount = sum ∧ u.activityWindow = some (r.activityWindow.getD now) ∧ last kept
  | .level =>
    let high := if v.level then min 255 (r.activityCount + 1) else 0
    u.activityCount = high ∧ u.activityWindow = r.activityWindow ∧
      last (if c.activityThreshold ≤ high then now else kept)

/-- WAKE has work left, so its end test does not fire (R124). Every reachable state has this between events. -/
abbrev Part.wakeSettled (s : Part) : Prop := s.mode = .wake → s.wakeWork = true

/-- From s to t the plant's own run alone has gone on: power, field link, store, uptime, clock, the records other
than the plan slots, the debounce records and refusal timers, the port settings in effect and the last reset
record are the same. -/
structure Part.SameOutside (s t : Part) : Prop where
  power : t.power = s.power
  flm : t.flm = s.flm
  cfs : t.cfs = s.cfs
  uptime : t.ncc.uptime = s.ncc.uptime
  clock : t.ncc.clock = s.ncc.clock
  records : t.cfg = { s.cfg with active := t.cfg.active, staged := t.cfg.staged }
  lines : t.lin = { s.lin with lamps := t.lin.lamps }
  port : t.svp = { s.svp with receiver := t.svp.receiver }

/-- The Governor after an event that changes no load, no need and no ceiling: D is computed again, and a fall of it
below D as last computed starts a scan (R92, R98). -/
def Part.demandTaken (s : Part) : Governor :=
  { s.dgv with demand := s.demandNow, scanDue := s.dgv.scanDue || decide (s.demandNow < s.dgv.demand) }

/-- The origin of a request kept, or of an entry held, once a HOLD request has come to it too (R35, R80). -/
def Origin.withHold : Origin → Origin
  | .wake | .pull _ => .hold
  | o => o

/-- The load is in the queue with origin HOLD. -/
def Part.queuedByHold (t : Part) (n : LoadId) : Prop :=
  (t.load n).phase = .queued ∧ ∃ e, t.entry? n = some e ∧ e.origin = .hold

/-- START_FAILED is pending (Table 9-1). -/
def Part.startFailedRaised (t : Part) : Prop := t.atl.pending.getLsbD 3 = true

/-- The receiver holds this result, waiting to be sent (R172). -/
def Part.replies (s : Part) (code : Byte) (status : Status) (data : List Byte) : Prop :=
  s.svp.receiver = .served { code := code, status := status, data := data }

/-- The machine with a row of bytes waiting on the supervisory line, each sent in the character format in effect, and
nothing else (R167). -/
def State.hearing (s : State) (bytes : List Byte) : State :=
  s.withPending (bytes.map fun b => .characterReceived (sentAs s.svp.inEffect.parity b))

/-! ## Entries to a mode in the words of the statements (chapter 5) -/

/-- The cause MODE is pending with this detail (R116). -/
def Part.modeRaised (t : Part) (m : Mode) (late : Bool) : Prop :=
  t.atl.pending.getLsbD 5 = true ∧ t.atl.details[5] = some (.mode m late)

/-- The records after an entry to DAY: an armed STAGED plan is swapped in (R112, R125). -/
def Part.dayPlans (s : Part) : Settings :=
  if s.ncc.armed then { s.cfg with active := s.cfg.staged, staged := s.cfg.active } else s.cfg

/-- The next night that an entry to DAY computes for a cancelled-night mark, from the plan then ACTIVE (R115,
R125). -/
def Part.dayNight (s : Part) (mark : Option Nat) : Option NextNight :=
  Part.nextNight { s with cfg := s.dayPlans } mark

/-- The warning of that night has not begun, so an entry to DAY stays in DAY (R115). -/
abbrev Part.dayStays (s : Part) (mark : Option Nat) : Prop :=
  ∀ night, s.dayNight mark = some night → s.now < night.warnStart

/-- From s the part has come to DAY and stays there: the next night is computed, the LATE flag and the mark are
those of the entry, an armed plan is swapped in with its ceilings and PLAN, and MODE is raised (R112, R125). -/
structure Part.EntersDay (s t : Part) (late : Bool) (mark : Option Nat) : Prop where
  mode : t.ncc.mode = .day (s.dayNight mark) mark
  lateFlag : t.ncc.late = late
  armed : t.ncc.armed = false
  plans : t.cfg = s.dayPlans
  raised : t.modeRaised .day late
  swapped : s.ncc.armed = true →
    t.dgv.ceilingI.value = (if s.cfg.staged.valid then s.cfg.staged.ceilingKw else 60000) ∧
    t.dgv.ceilingD.value = (if s.cfg.staged.valid then s.cfg.staged.intervalCeilingKw else 0) ∧
    t.atl.pending.getLsbD 6 = true ∧ t.atl.details[6] = some (.plan s.cfg.staged.planNo)

/-- From s the part has come to DAY inside the warning of a night, and so on to WIND_DOWN with that night_start
as its deadline, an armed plan swapped in on the way (R112, R115, R118). -/
structure Part.EntersWarning (s t : Part) (nightStart : Nat) : Prop where
  mode : t.ncc.mode = .windDown nightStart true
  armed : t.ncc.armed = false
  plans : t.cfg = s.dayPlans
  raised : t.modeRaised .windDown false

/-- No load that runs can be stopped at an entry to NIGHT: none has been idle for its idle time, which is at least a
minute, and none has a stop pending (R29, R34). -/
abbrev Part.quiet (s : Part) : Prop :=
  ∀ n : LoadId, (s.load n).phase.running = true →
    1 ≤ (s.config n).idleMin ∧ s.now < (s.load n).lastActivity + 60 * (s.config n).idleMin ∧
    (s.load n).stopPending = false

/-- The wake_begin that an entry to NIGHT computes lies ahead, so NIGHT is not left at once (R122). -/
abbrev Part.nightStays (s : Part) : Prop :=
  ∀ b, wakeBeginFor s.wakeTarget s.leadSeconds = some b → s.now < b

/-- From s the part has come to NIGHT and stays there: the wake target is R120's and wake_begin R122's for the
lead held, which is the lead of s where no load is stopped at the entry; where some are, it is not above the lead
of s and not below that of t, as R120 lets the lead be taken before or after the stops. Loads that ran are in
WATCH, or stopped from the present second, and MODE is raised (R116, R120 to R122). -/
structure Part.EntersNight (s t : Part) : Prop where
  mode : ∃ lead, t.ncc.mode = .night s.wakeTarget (wakeBeginFor s.wakeTarget lead) lead ∧
    t.leadSeconds ≤ lead ∧ lead ≤ s.leadSeconds ∧ (s.quiet → lead = s.leadSeconds)
  raised : t.modeRaised .night false
  running : ∀ n : LoadId, (s.load n).phase.running = true →
    (t.load n).phase = .watch ∨ (t.load n).phase = .stopping s.now
  records : t.cfg = s.cfg

/-- The wake sweep asks for the load, and it needs nothing else: in use, OFF, not kept off, without needs, its
priority in range (R123). -/
abbrev Part.sweeps (s : Part) (n : LoadId) : Prop :=
  s.inUse n = true ∧ (s.load n).phase = .off ∧ s.offCount n = 0 ∧ (s.config n).needs = [] ∧
  (s.config n).wakePriority ≤ 7

/-- The wake sweep asks for no load (R123). -/
abbrev Part.sweepsNone (s : Part) : Prop :=
  ∀ n : LoadId, s.inUse n = true → s.offCount n = 0 →
    (s.load n).phase ≠ .off ∧ (s.load n).phase.isStopping = false

/-- From s the part has come to WAKE and stays there, with this grace deadline and the load queued, MODE raised
(R116, R123). -/
structure Part.EntersWake (s t : Part) (grace : Option Nat) (n : LoadId) : Prop where
  mode : t.ncc.mode = .wake grace
  raised : t.modeRaised .wake false
  swept : n ∈ t.dgv.queue.map Entry.load
  records : t.cfg = s.cfg

/-! ## What a placement asks for (R61 to R63) -/

/-- From s to t a placement of the supervisor's has been reported, for the loads and the group that it newly covers.
Under KEEP_ON an OFF load is QUEUED with origin HOLD, or withdrawn where it has needs; an entry and a kept request
rise to HOLD; a load in another state is asked for nothing; and a group's floor asks for its first OFF member, until
it is met. Under KEEP_OFF a running load is STOPPING, or has its stop pending; a QUEUED one is withdrawn; and so is a
QUEUED one with a need on a covered load that does not serve it (R34, R35, R61 to R63, R80, R83, R84). -/
structure Part.FollowsPlacement (s t : Part) (k : HoldKind) (x : Target) : Prop where
  off : k = .keepOn → (∀ g, x ≠ .group g) → ∀ n : LoadId, s.covers x n = true → s.onCount n = 0 →
    (s.load n).phase = .off →
    t.queuedByHold n ∨ ((s.config n).needs ≠ [] ∧ (t.load n).phase = .off ∧ t.startFailedRaised)
  queued : k = .keepOn → ∀ n, x = .load n → s.onCount n = 0 → (s.load n).phase = .queued →
    ∀ e, s.entry? n = some e → t.entry? n = some { e with origin := e.origin.withHold }
  stopping : k = .keepOn → ∀ n, x = .load n → s.onCount n = 0 → (s.load n).phase.isStopping = true →
    (t.load n).heldEnqueue = some (((s.load n).heldEnqueue.map Origin.withHold).getD .hold)
  other : k = .keepOn → ∀ n, x = .load n → s.mode ≠ .wake →
    0 < s.onCount n ∨ ((s.load n).phase ≠ .off ∧ (s.load n).phase ≠ .queued) → t.dgv.queue = s.dgv.queue
  floor : k = .keepOn → ∀ g, x = .group g → s.groupOnCount g = 0 → s.floorCount g < (s.group g).required →
    ∀ j ∈ s.members g, (s.load j).phase = .off → s.offCount j = 0 → (s.config j).needs = [] →
    (∀ m ∈ s.members g, m < j → (s.load m).phase ≠ .off) → t.queuedByHold j
  met : k = .keepOn → ∀ g, x = .group g → s.mode ≠ .wake →
    0 < s.groupOnCount g ∨ (s.group g).required ≤ s.floorCount g → t.dgv.queue = s.dgv.queue
  stopped : k = .keepOff → ∀ n : LoadId, s.covers x n = true → s.offCount n = 0 →
    (s.load n).phase.running = true →
    ((t.load n).phase = .stopping s.now ∨ ((t.load n).phase.running = true ∧ (t.load n).stopPending = true)) ∧
    (x = .load n → s.stopConditions n = true → (t.load n).phase = .stopping s.now) ∧
    (s.stationOnline n = false → (t.load n).phase.running = true ∧ (t.load n).stopPending = true)
  withdrawn : k = .keepOff → ∀ n : LoadId, s.covers x n = true → s.offCount n = 0 →
    (s.load n).phase = .queued → (t.load n).phase = .off ∧ n ∉ t.dgv.queue.map Entry.load ∧ t.startFailedRaised
  needLost : k = .keepOff → ∀ n : LoadId, s.covers x n = true → s.offCount n = 0 → s.serving n = false →
    ∀ d : LoadId, (s.load d).phase = .queued → .load n ∈ (s.config d).needs →
    (t.load d).phase = .off ∧ t.startFailedRaised

/-! ## What a retirement brings about (R70 to R72) -/

/-- The entry stands for a request of a hold, and the load's group, if any, is not held on (R86). -/
def Part.onHoldAlone (s : Part) (n : LoadId) (e : Entry) : Prop :=
  s.entry? n = some e ∧ (e.origin = .hold ∨ e.origin = .call) ∧
  ∀ g, s.groupOf n = some g → s.groupOnCount g = 0

/-- The hold is the last that asks for the load or for the floor of its group, in the way that gives the entry its
backing (R70, R71, R86). -/
def Part.lastBacking (s : Part) (h : Hold) (n : LoadId) (e : Entry) : Prop :=
  (s.covers h.target n = true ∧ s.onCount n = 1 ∧ s.onHoldAlone n e) ∨
  (∃ g, h.target = .group g ∧ s.memberOf n g = true ∧ s.groupOnCount g = 1 ∧ s.onCount n = 0 ∧
    s.entry? n = some e ∧ (e.origin = .hold ∨ e.origin = .call))

/-- From s to t the retirement of this hold has been reported. A KEEP_OFF that was the last on a load clears its
pending stop, so the load runs on, and the floor of a held group of that load is asked for again. A KEEP_ON that was
the last backing of an entry of origin HOLD or CALL leaves the entry as a PULL where a queued or STARTING load wants
it, and withdraws it without a cause otherwise; and a WATCH load whose idle stop it alone forbade is STOPPING (R30,
R62 item 4, R70 to R72, R83, R86). -/
structure Part.FollowsRetirement (s t : Part) (h : Hold) : Prop where
  cleared : h.kind = .keepOff → ∀ n : LoadId, s.covers h.target n = true → s.offCount n = 1 →
    (t.load n).stopPending = false ∧
    (s.mode ≠ .night → (s.load n).phase.running = true → (t.load n).phase.running = true)
  floor : h.kind = .keepOff → ∀ n g, h.target = .load n → s.offCount n = 1 → s.groupOf n = some g →
    0 < s.groupOnCount g → s.dgv.queue = [] → s.floorCount g < (s.group g).required →
    ∀ j ∈ s.members g, (s.load j).phase = .off → j = n ∨ s.offCount j = 0 → (s.config j).needs = [] →
    (∀ m ∈ s.members g, m < j → (s.load m).phase ≠ .off) →
    (t.load j).phase = .queued ∧ ∃ e, t.entry? j = some e ∧ (e.origin = .hold ∨ e.origin = .call)
  pulled : h.kind = .keepOn → ∀ n e, h.target = .load n → s.lastBacking h n e →
    ∀ k, s.firstWanting n = some k → t.entry? n = some { e with origin := .pull k }
  withdrawn : h.kind = .keepOn → ∀ n e, s.lastBacking h n e → s.firstWanting n = none →
    (t.load n).phase = .off ∧ n ∉ t.dgv.queue.map Entry.load ∧
    t.atl.pending.getLsbD 3 = s.atl.pending.getLsbD 3
  checked : h.kind = .keepOn → ∀ n : LoadId,
    (h.target = .load n ∧ s.onCount n = 1) ∨
      (∃ g, h.target = .group g ∧ s.groupOnCount g = 1 ∧ s.memberOf n g = true ∧
        ∀ m, s.memberOf m g = true → m ≠ n → (s.load m).phase.running = false) →
    Part.idleStopDue { s with holds := s.holds.filter fun y => y.id ≠ h.id } n = true →
    (t.load n).phase = .stopping s.now

/-! ## The clock in range (R106) -/

/-- The plant clock reads a minute of the week and a second of the minute (R106). -/
abbrev Part.ClockOk (s : Part) : Prop := s.ncc.clock.minute ≤ 10079 ∧ s.ncc.clock.second ≤ 59

/-! ## Records in range (Tables 1-1, 1-2, 5-1, 6-2, 7-1, 7-3, 7-4, 8-1) -/

/-- A tag of lo to 8 printable characters (R2). -/
abbrev tagOk (lo : Nat) (t : List Byte) : Prop :=
  lo ≤ t.length ∧ t.length ≤ 8 ∧ ∀ b ∈ t, 0x20 ≤ b.toNat ∧ b.toNat ≤ 0x7E

/-- A load record is in range, or is that of a slot not in use (Table 1-1). -/
abbrev LoadConfig.ok (c : LoadConfig) : Prop :=
  c = {} ∨
  (c.inUse = true ∧ tagOk 1 c.tag ∧ c.needs.length ≤ 3 ∧ c.needs.Nodup ∧ c.wakePriority ≤ 7 ∧
    c.runKw ≤ 2000 ∧ c.runKw ≤ c.inrushKw ∧ c.inrushKw ≤ 8000 ∧
    (1 ≤ c.accelS ∧ c.accelS ≤ 120) ∧ (5 ≤ c.startTimeoutS ∧ c.startTimeoutS ≤ 600) ∧
    (5 ≤ c.stopTimeoutS ∧ c.stopTimeoutS ≤ 900) ∧ c.minRunS ≤ 3600 ∧ c.minOffS ≤ 3600 ∧
    (1 ≤ c.startsPerHour ∧ c.startsPerHour ≤ 8) ∧ (1 ≤ c.idleMin ∧ c.idleMin ≤ 240) ∧
    (1 ≤ c.activityThreshold ∧ c.activityThreshold ≤ 255) ∧
    (1 ≤ c.feedbackFilter ∧ c.feedbackFilter ≤ 8))

/-- A group record is in range (Table 1-2). -/
abbrev GroupConfig.ok (c : GroupConfig) : Prop :=
  c = {} ∨ (c.inUse = true ∧ tagOk 1 c.tag ∧ 1 ≤ c.required ∧ c.required ≤ 64)

/-- A plan record is in range, its span long enough for its warning (Table 5-1, R109). -/
abbrev Plan.ok (p : Plan) : Prop :=
  p = {} ∨
  (p.valid = true ∧ p.planNo ≤ 255 ∧ tagOk 1 p.tag ∧ p.windDownTime ≤ 1439 ∧ p.warningMin ≤ 60 ∧
    p.wakeTime ≤ 1439 ∧ p.wakeGraceMin ≤ 120 ∧ p.baseLeadS ≤ 3600 ∧
    (1 ≤ p.ceilingKw ∧ p.ceilingKw ≤ 60000) ∧ p.intervalCeilingKw ≤ 60000 ∧
    p.warningMin + 30 ≤ planSpan p.windDownTime p.wakeTime)

/-- The link record is in range (Table 6-2). -/
abbrev LinkConfig.ok (c : LinkConfig) : Prop :=
  (100 ≤ c.pollPeriodMs ∧ c.pollPeriodMs ≤ 1000) ∧ (5 ≤ c.replyTimeoutMs ∧ c.replyTimeoutMs ≤ 50)

/-- A panel record is in range (Table 7-1). -/
abbrev PanelConfig.ok (c : PanelConfig) : Prop :=
  c = {} ∨
  (c.inUse = true ∧ (15 ≤ c.keepMin ∧ c.keepMin ≤ 900) ∧ (2 ≤ c.keySamples ∧ c.keySamples ≤ 32))

/-- A call record is in range (Table 7-3). -/
abbrev CallConfig.ok (c : CallConfig) : Prop :=
  c = {} ∨
  (c.inUse = true ∧ (5 ≤ c.callMin ∧ c.callMin ≤ 240) ∧ (20 ≤ c.callSamples ∧ c.callSamples ≤ 400))

/-- The meter record is in range (Table 7-4). -/
abbrev MeterConfig.ok (c : MeterConfig) : Prop :=
  c = {} ∨
  (c.inUse = true ∧ (1 ≤ c.whPerPulse ∧ c.whPerPulse ≤ 1000) ∧
    (c.intervalMin = 15 ∨ c.intervalMin = 30) ∧ (2 ≤ c.meterSamples ∧ c.meterSamples ≤ 8))

/-- The port record is in range (Table 8-1). -/
abbrev PortConfig.ok (c : PortConfig) : Prop := 1 ≤ c.address ∧ c.address ≤ 31

/-- Every record of a set of settings is in range. -/
abbrev Settings.ok (c : Settings) : Prop :=
  (∀ n : LoadId, c.loads[n].ok) ∧ (∀ g : GroupId, c.groups[g].ok) ∧ (∀ z : ZoneId, tagOk 0 c.zones[z]) ∧
  c.active.ok ∧ c.staged.ok ∧ c.link.ok ∧ (∀ p : PanelId, c.panels[p].ok) ∧
  (∀ l : CallId, c.calls[l].ok) ∧ c.meter.ok ∧ c.port.ok

/-- Every record the part holds, has in effect, has copied for a SAVE or has stored is in range (R2, R196). -/
abbrev Part.RecordsOk (s : Part) : Prop :=
  s.cfg.ok ∧ s.svp.inEffect.ok ∧ (∀ c ∈ s.cfs.copy.toList, Settings.ok c) ∧
  ∀ c ∈ s.cfs.storage.contents.toList, Settings.ok c

/-! ## The Hold Table (R49, R50, R53, R58, R59, R73) -/

/-- A target GROUP. -/
def Target.isGroup : Target → Bool
  | .group _ => true
  | .load _ | .zone _ => false

/-- The Hold Table is sound: at most 48 holds in ascending id, every id and the next id from 1 to 65535,
the next id not live, no two holds alike in owner, kind and target, only KEEP_ON on a group, and no hold in
SETUP (R49, R50, R53, R56, R73). -/
abbrev Part.HoldsOk (s : Part) : Prop :=
  s.holds.length ≤ Config.maxHolds ∧
  s.holds.Pairwise (fun a b => a.id < b.id) ∧
  (∀ h ∈ s.holds, 1 ≤ h.id ∧ h.id ≤ 65535) ∧
  (1 ≤ s.nextId ∧ s.nextId ≤ 65535) ∧
  (∀ h ∈ s.holds, h.id ≠ s.nextId) ∧
  s.holds.Pairwise (fun a b => ¬(a.owner = b.owner ∧ a.kind = b.kind ∧ a.target = b.target)) ∧
  (∀ h ∈ s.holds, h.target.isGroup = true → h.kind = .keepOn) ∧
  (∀ h ∈ s.holds, h.renewals ≤ 255) ∧
  (s.mode = .setup → s.holds = [])

/-- No live KEEP_ON is contradicted by the live KEEP_OFF holds: no load its closure needs is kept off, and
every group its closure needs keeps its required count of members that are not kept off (R58, R59). -/
abbrev Part.HoldsAgree (s : Part) : Prop :=
  (∀ h ∈ s.holds, h.kind = .keepOn → s.keepOnConflict h.target = false) ∧ (s.mode = .setup → s.holds = [])

/-! ## The Load Table, the Start Queue and the stations -/

/-- The loads of the queue, in order. -/
def Part.queuedLoads (s : Part) : List LoadId := s.dgv.queue.map Entry.load

/-- One load record is sound in its part: UNUSED exactly where the slot is not in use; QUEUED exactly where
the queue has its entry; UNREACHABLE exactly where its station is OFFLINE; a pending stop only while it runs,
a held request only in STOPPING or FAULT(NO_STOP), a starting origin and a start only in STARTING; LOCAL only
in SETUP and DAY, WATCH only in the other modes, and in SETUP no other state, no pending stop and no held
request (R20, R27, R34, R35, R45, R78, R101, R116). -/
abbrev Part.LoadOk (s : Part) (n : LoadId) : Prop :=
  ((s.load n).phase = .unused ↔ s.inUse n = false) ∧
  ((s.load n).phase = .queued ↔ n ∈ s.queuedLoads) ∧
  (s.inUse n = true → ((s.load n).phase = .unreachable ↔ (s.station (stationOf n)).grade = .offline)) ∧
  ((s.load n).stopPending = true → (s.load n).phase.running = true) ∧
  ((s.load n).heldEnqueue.isSome = true →
    (s.load n).phase.isStopping = true ∨ (s.load n).phase = .fault .noStop) ∧
  (s.dgv.startingOrigin[n].isSome = true ↔ (s.load n).phase = .starting) ∧
  ((s.load n).phase = .starting → (s.load n).startedAt.isSome = true) ∧
  ((s.load n).phase.running = true → (s.load n).phase = runningPhase s.mode) ∧
  (s.mode = .setup →
    ((s.load n).phase = .unused ∨ (s.load n).phase = .localRun ∨ (s.load n).phase = .unreachable) ∧
    (s.load n).stopPending = false ∧ (s.load n).heldEnqueue = none)

/-- The Load Table and the Start Queue are sound: every record is, no load has two entries, and the keys
never fall from head to tail (R78, R79). -/
abbrev Part.LoadsOk (s : Part) : Prop :=
  (∀ n : LoadId, s.LoadOk n) ∧ s.queuedLoads.Nodup ∧ s.dgv.queue.Pairwise fun a b => a.key ≤ b.key

/-- A station record is sound: its error counter and grade agree (R138 to R141), good_run, recover_armed and
forced_auto stand only while OFFLINE, and the counters keep their ranges (Table 6-1). -/
abbrev Station.ok (r : Station) : Prop :=
  r.err ≤ Config.errMax ∧
  (r.grade = .offline ↔ r.err = Config.errMax) ∧
  (r.grade = .online → r.err < Config.errSuspect) ∧
  (r.grade = .suspect → Config.errClear ≤ r.err) ∧
  r.goodRun < Config.recoverRun ∧
  (r.grade ≠ .offline → r.goodRun = 0 ∧ r.recoverArmed = false ∧ r.forcedAuto = false) ∧
  r.probeCount ≤ Config.probeGap ∧ r.missed ≤ 65535

/-- Every station record is sound; a station outside the polled set reads ONLINE with error counter 0, and no
transaction is in flight with one (R132); in HALT no poll is in flight or to come, and every polled station is
OFFLINE (R145). -/
abbrev Part.StationsOk (s : Part) : Prop :=
  (∀ k : StationId, (s.station k).ok) ∧
  (∀ k : StationId, s.polled k = false → (s.station k).grade = .online ∧ (s.station k).err = 0) ∧
  (∀ t ∈ s.flm.inFlight.toList, s.polled t.station = true) ∧
  (s.flm.link = .halt → s.flm.inFlight = none ∧ s.flm.toPoll = [] ∧
    ∀ k : StationId, s.polled k = true → (s.station k).grade = .offline)

/-- The Load Table with the Start Queue and the stations are sound together, and SETUP holds no hold (R73). -/
abbrev Part.PlantOk (s : Part) : Prop := s.LoadsOk ∧ s.StationsOk ∧ (s.mode = .setup → s.holds = [])

/-! ## The storage (R196 to R202) -/

/-- The Configuration Store is sound: a copy stands exactly while a SAVE is in progress; the image reads GOOD
only where the storage holds an image with a good check word; while a SAVE is in progress the image is BAD and
the completion mark absent; in CHECKING the storage holds the copy and its sum word; and no SAVE is in progress
while the part is held. -/
abbrev Part.StoreOk (s : Part) : Prop :=
  (s.cfs.phase = .idle ↔ s.cfs.copy.isNone = true) ∧
  (s.cfs.image = .good → s.cfs.storage.image?.isSome = true) ∧
  (s.cfs.phase ≠ .idle → s.cfs.image = .bad ∧ s.cfs.storage.mark = false) ∧
  (s.cfs.phase = .checking → s.cfs.storage.contents = s.cfs.copy ∧ s.cfs.storage.sumRight = true) ∧
  (s.working = false → s.cfs.phase = .idle)

end Sys2Proof.Machine

/-! ## Which commands may change what -/

namespace Sys2Proof

/-- The rows at which a reset of the part may be carried out: the end of the result of a RESET command, and
the end of the held condition (R16, R17, R187, R203, R204). -/
def Instr.mayReset : Instr → Bool
  | .resultEnd | .powerOn | .resetLineRelease => true
  | _ => false

/-- The eight configuration writes (R10). -/
def Instr.isConfigWrite : Instr → Bool
  | .writeLoadConfig _ _ | .writeGroup _ _ | .writeZone _ _ | .writePanel _ _ | .writeCall _ _
  | .writeMeter _ | .writeLink _ | .writePort _ _ _ => true
  | _ => false

/-- The supervisory commands: the 38 rows that are requests (Table 10-7). -/
def Instr.isRequest (c : Instr) : Bool := (commandCode c).isSome

/-- The rows that act on the part while it is held (R203, R204). -/
def Instr.actsWhileHeld : Instr → Bool
  | .powerOn | .supplyLow _ | .resetLineAssert _ | .resetLineRelease => true
  | _ => false

/-- The rows that may place, renew or retire holds (R53, R64 to R73). -/
def Instr.mayChangeHolds : Instr → Bool
  | .placeHold _ _ _ _ _ | .renewHold _ _ | .releaseHold _ _ | .setMode _ | .holdExpiry | .keepPress _
  | .clearPress _ | .callRisingEdge _ | .uptimeMinuteBoundary => true
  | c => c.mayReset

/-- The rows that may write the Configuration Store's state (R197 to R200, R203). -/
def Instr.mayChangeStore : Instr → Bool
  | .save | .erasingComplete | .writingComplete | .checkingComplete _ | .supplyLow _ | .resetLineAssert _ => true
  | c => c.mayReset

end Sys2Proof
end

