-- ==== Sys2Proof/WellFormed.lean ====
section
/-! DEFINITION. Which commands a frame can carry: the counts of their variable-length fields fit a byte, and
the body fits the 250 bytes of a frame (R205, R206). -/

namespace Sys2Proof

/-- The counts of the variable-length fields fit their count bytes (R206). -/
def Instr.countsFit : Instr → Bool
  | .writePlan _ p => p.tag.length ≤ 255
  | .writeLoadConfig _ r => r.tag.length ≤ 255 && r.needs.length ≤ 255
  | .writeGroup _ r => r.tag.length ≤ 255
  | .writeZone _ t => t.length ≤ 255
  | _ => true

/-- The body of a request fits a frame: at most 250 bytes (R205). Events have no body. -/
def Instr.bodyFits (i : Instr) : Bool :=
  match encodeRequest i with
  | some body => body.length ≤ 250
  | none => true

/-- A reply has the twelve bytes of its frame, or fewer where it is cut short (R207). -/
def Instr.replyFits : Instr → Bool
  | .pollReplyGood bytes => bytes.length = 12
  | .pollReplyBad chars => chars.length ≤ 12
  | _ => true

/-- A command the part's connections can carry. -/
def Instr.wellFormed (i : Instr) : Bool := i.countsFit && i.bodyFits && i.replyFits

end Sys2Proof
end

