-- ==== Sys2Proof/Certificates/Slice0/Obligations.lean ====
section
/-! DEFINITION. The statements about the model that the provers are asked for, in the order of
OBLIGATIONS.json: the machine and its port, configuration, clock, modes and plans, holds, loads, the field
link, attention and store, the time bases, the lines, and what every step keeps. -/

open Sys2Proof Sys2Proof.Machine

/-! ## The machine and its port -/

/-- A step takes the command at the front of the queue and runs it on the machine with the rest; and every
command answers a next state, from every state, leaving the waiting commands as they are. On an empty queue the
block idles, which is the model's choice (log entry 1). -/
def Obligations.StepRunsFrontCommand : Prop :=
  (∀ (s : State) (c : Instr) (rest : List Instr),
    s.pending = c :: rest → step s = exec c (s.withPending rest)) ∧
  (∀ s : State, s.pending = [] → step s = .next s) ∧
  ∀ (c : Instr) (s : State), ∃ t, exec c s = .next t ∧ t.pending = s.pending

/-- While held, the part takes no event and no request, its attention line and its supervisory driver are released,
so that it sends nothing there, and its lamps are off; only the supply and the reset line act on it (R203, R204). -/
def Obligations.HeldPartTakesNothing : Prop :=
  ∀ s : State, s.working = false →
    (∀ c : Instr, c.actsWhileHeld = false → exec c s = .next s) ∧
    s.attentionLine = false ∧ s.supervisoryDriver = false ∧ s.resultDrive? = none ∧
    ∀ p : PanelId, s.lampOutput p = false

/-- A body spells a request exactly when that request, its counts fitting a byte, is written as that body
(R173, Table 10-7). -/
def Obligations.RequestBodiesRoundTrip : Prop :=
  ∀ (c : Instr) (body : List Byte),
    decodeRequest body = some c ↔ c.countsFit = true ∧ encodeRequest c = some body

/-- A frame sent clean to a part that hunts. At the part's address and with its CRC it is accepted with its last
character: its request is to be served, or, where its body spells none, the part answers INVALID with the code alone.
With another address, or with two last bytes that are not its CRC, it is discarded at its last character and changes
nothing (R169, R170, R173, R205, Table 8-2). The CRC of a run of bytes is that of Table 10-4, its high byte first: from
FFFFh the register is shifted up for each bit, the most significant first, and 1021h is added modulo 2 where the bit
that left its top differs from the data bit (R205). That an accepted request is held until its own row comes, and that
one which spells no command has its INVALID ready at its acceptance, is the model's choice (log entry 5). -/
def Obligations.CleanFrames : Prop :=
  (∀ bytes : List Byte,
    let enter (register : Nat) (bit : Bool) : Nat :=
      let shifted := register * 2 % 65536
      if decide (32768 ≤ register) = bit then shifted else shifted ^^^ 0x1021
    let register := (bytes.flatMap fun b => (List.range 8).map fun i => b.getLsbD (7 - i)).foldl enter 0xFFFF
    crcBytes bytes = [BitVec.ofNat 8 (register / 256), BitVec.ofNat 8 register]) ∧
  ∀ (s : State) (address c1 c0 : Byte) (body : List Byte),
    s.working = true → s.svp.receiver = .hunt → 1 ≤ body.length → body.length ≤ 250 →
    let covered := address :: BitVec.ofNat 8 body.length :: body
    let heard := Host.Core.run Sys2Proof.core (body.length + 5) (s.hearing (0xA5 :: covered ++ [c1, c0]))
    let own : Prop := address.toNat = s.svp.inEffect.address ∧ [c1, c0] = crcBytes covered
    (own → ∀ c, decodeRequest body = some c →
      heard = .next ((s.withPart (s.setReceiver (.toServe c))).withPending [])) ∧
    (own → decodeRequest body = none →
      heard = .next ((s.withPart
        (s.setReceiver (.served { code := body.headD 0, status := .invalid }))).withPending [])) ∧
    (¬own → heard = .next (s.withPending []))

/-- In RECEIVING, a character in error, a length byte of 0 or above 250, and a second CRC byte that shows a
wrong CRC or another address discard the frame; a gap discards it and its character is examined in HUNT
(R170, Table 8-2). A character is in error, in the format in effect, where its stop bit is missing, or where under
EVEN its parity bit does not make the number of ones even (R167). That the rows FRAME DISCARD and FRAME GAP TIMEOUT
carry the character that shows their case, and that CHARACTER RECEIVED with such a character discards the frame as well,
is inferred (log entry 5); that a character is the levels of ten bit times is the model's choice (log entry 24). -/
def Obligations.DiscardCases : Prop :=
  ∀ (s : State) (buffer : List Byte) (ch : Received),
    s.working = true → s.svp.receiver = .receiving buffer →
    let odd : Bool := ((List.range 8).countP fun i => ch.value.getLsbD i) % 2 = 1
    let inError : Prop := match s.svp.inEffect.parity with
      | .none => ch.ninth = false
      | .even => ch.ninth ≠ odd ∨ ch.tenth = false
    ((inError ∨
      (∃ address, buffer = [address] ∧ (ch.value.toNat = 0 ∨ 250 < ch.value.toNat)) ∨
      (∃ (address length c1 : Byte) (body : List Byte),
        buffer = address :: length :: body ++ [c1] ∧ body.length = length.toNat ∧
        ([c1, ch.value] ≠ crcBytes (address :: length :: body) ∨
          address.toNat ≠ s.svp.inEffect.address))) →
      exec (.frameDiscard ch) s = .next (s.withPart (s.setReceiver .hunt)) ∧
      exec (.characterReceived ch) s = .next (s.withPart (s.setReceiver .hunt))) ∧
    (ch.value = 0xA5 → ¬inError →
      exec (.frameGapTimeout ch) s = .next (s.withPart (s.setReceiver (.receiving [])))) ∧
    (ch.value ≠ 0xA5 ∨ inError →
      exec (.frameGapTimeout ch) s = .next (s.withPart (s.setReceiver .hunt)))

/-- The first byte of a result passes SERVING on to ANSWERING, its last byte ANSWERING on to HUNT, where a new port
record takes effect; and while a request is served or a result sent, every character and every further request is lost
(R168, R169, R171). The result served or sent is framed at the address in effect, its body the command code, the status
by its code of Table 8-3, and the data (R174). In ANSWERING, from its first byte to its last, the part drives the line
with that frame at the speed in effect, each character a start bit, the eight data bits, least significant first, the
parity bit that makes the ones even where parity is EVEN, and a stop bit; at all other times, SERVING among them, its
driver is off and nothing is sent (R167, R171, R172, R205). -/
def Obligations.ResultsAndLostRequests : Prop :=
  ([Status.ok, .renewed, .noChange, .clamped].map Status.code = [0x00, 0x01, 0x02, 0x03] ∧
    [Status.invalid, .range, .wrongMode, .busy, .full, .conflict, .notFound, .notOwner, .kept, .keptOff, .dependent,
      .tooSoon, .wrongState, .config].map Status.code =
      [0x10, 0x11, 0x12, 0x13, 0x14, 0x15, 0x16, 0x17, 0x18, 0x19, 0x1A, 0x1B, 0x1C, 0x1D]) ∧
  ∀ (s : State) (r : Result), s.working = true →
    (s.svp.receiver = .served r →
      exec .resultBegin s = .next (s.withPart (s.setReceiver (.answering r)))) ∧
    (s.svp.receiver = .answering r → r.after = .nothing →
      exec .resultEnd s = .next (s.withPart (s.setReceiver .hunt))) ∧
    (s.svp.receiver = .answering r → r.after = .takePort →
      exec .resultEnd s = .next (s.withPart
        { s.toPart with svp := { s.svp with inEffect := s.cfg.port, receiver := .hunt } })) ∧
    (s.svp.receiver = .served r ∨ s.svp.receiver = .answering r →
      (∀ c : Instr, c.isRequest = true → exec c s = .next s) ∧
      (∀ ch : Received, exec (.characterReceived ch) s = .next s ∧ exec (.frameDiscard ch) s = .next s ∧
        exec (.frameGapTimeout ch) s = .next s) ∧
      let port := s.svp.inEffect
      let body := r.code :: r.status.code :: r.data
      let covered := BitVec.ofNat 8 port.address :: BitVec.ofNat 8 body.length :: body
      let bits (b : Byte) : List Bool := (List.range 8).map fun i => b.getLsbD i
      let parity (b : Byte) : List Bool := match port.parity with
        | .none => []
        | .even => [decide ((bits b).count true % 2 = 1)]
      s.resultFrame? = some (0xA5 :: covered ++ crcBytes covered) ∧
      (s.svp.receiver = .answering r → s.supervisoryDriver = true ∧ s.resultDrive? = some
        { baud := match port.speed with
            | .b9600 => 9600 | .b19200 => 19200 | .b38400 => 38400 | .b57600 => 57600 | .b115200 => 115200
          characters := (0xA5 :: covered ++ crcBytes covered).map
            fun b => false :: bits b ++ parity b ++ [true] })) ∧
    ((∀ q, s.svp.receiver ≠ .answering q) → s.supervisoryDriver = false ∧ s.resultDrive? = none) ∧
    (s.svp.receiver = .hunt ∨ (∃ buffer, s.svp.receiver = .receiving buffer) ∨
        (∃ c, s.svp.receiver = .toServe c) → s.resultFrame? = none)

/-- During a SAVE the eight configuration writes, WRITE PLAN, SAVE and RESET are answered BUSY and change
nothing; otherwise, outside SETUP, the eight writes are answered WRONG_MODE and change nothing (R10, R173). In SETUP a
write is answered RANGE and changes nothing with field 0 where its record number names no record, with field 1 where
its in_use byte is neither yes nor no, and with its first row out of range where the record is in use, or has no in_use
row (R3, R5, R6, R133, R153, R159, R163, R168, R182). -/
def Obligations.ConfigurationGates : Prop :=
  (∀ (c : Instr) (s : State), s.canServe c = true →
    (c.isConfigWrite = true ∨ (∃ a p, c = .writePlan a p) ∨ c = .save ∨ c = .reset →
      s.saving = true → exec c s = .next (s.answered c s.toPart { status := .busy })) ∧
    (c.isConfigWrite = true → s.saving = false → s.mode ≠ .setup →
      exec c s = .next (s.answered c s.toPart { status := .wrongMode }))) ∧
  ∀ s : State, s.writable →
    let refused (c : Instr) (row : Byte) : Prop :=
      s.canServe c = true → exec c s = .next (s.answered c s.toPart { status := .range, data := [row] })
    let firstBad (c : Instr) (rows : List (Byte × Bool)) : Prop :=
      ∀ row, (rows.find? fun x => !x.2) = some row → refused c row.1
    let record (c : Instr) (inUse : Byte) (rows : List (Byte × Bool)) : Prop :=
      (1 < inUse.toNat → refused c 1) ∧ (inUse = 1 → firstBad c rows)
    let numbered (c : Instr) (number : Byte) (last : Nat) (rest : Prop) : Prop :=
      (last < number.toNat → refused c 0) ∧ (number.toNat ≤ last → rest)
    let tagged (lo : Nat) (tag : List Byte) : Bool :=
      lo ≤ tag.length ∧ tag.length ≤ 8 ∧ ∀ b ∈ tag, 0x20 ≤ b.toNat ∧ b.toNat ≤ 0x7E
    (∀ (number : Byte) (r : RawLoad), let c : Instr := .writeLoadConfig number r
      numbered c number 63 (record c r.inUse
        [(2, tagged 1 r.tag), (3, r.zone.toNat < 8), (4, r.group = 0xFF ∨ r.group.toNat < 8),
          (5, r.needs.length ≤ 3 ∧ r.needs.Nodup ∧
            ∀ i ∈ r.needs, (i.1 = 0 ∧ i.2.toNat < 64) ∨ (i.1 = 1 ∧ i.2.toNat < 8)),
          (6, r.nightExempt.toNat ≤ 1), (7, r.wakePriority.toNat ≤ 7), (8, r.runKw.toNat ≤ 2000),
          (9, r.runKw.toNat ≤ r.inrushKw.toNat ∧ r.inrushKw.toNat ≤ 8000),
          (10, 1 ≤ r.accelS.toNat ∧ r.accelS.toNat ≤ 120),
          (11, 5 ≤ r.startTimeoutS.toNat ∧ r.startTimeoutS.toNat ≤ 600),
          (12, 5 ≤ r.stopTimeoutS.toNat ∧ r.stopTimeoutS.toNat ≤ 900), (13, r.minRunS.toNat ≤ 3600),
          (14, r.minOffS.toNat ≤ 3600), (15, 1 ≤ r.startsPerHour.toNat ∧ r.startsPerHour.toNat ≤ 8),
          (16, 1 ≤ r.idleMin.toNat ∧ r.idleMin.toNat ≤ 240), (17, r.activityMode.toNat ≤ 1),
          (18, 1 ≤ r.activityThreshold.toNat),
          (19, 1 ≤ r.feedbackFilter.toNat ∧ r.feedbackFilter.toNat ≤ 8)])) ∧
    (∀ (number : Byte) (r : RawGroup), let c : Instr := .writeGroup number r
      numbered c number 7 (record c r.inUse
        [(2, tagged 1 r.tag), (3, 1 ≤ r.required.toNat ∧ r.required.toNat ≤ 64)])) ∧
    (∀ (number : Byte) (tag : List Byte), let c : Instr := .writeZone number tag
      numbered c number 7 (firstBad c [(1, tagged 0 tag)])) ∧
    (∀ (number : Byte) (r : RawPanel), let c : Instr := .writePanel number r
      numbered c number 7 (record c r.inUse
        [(2, r.zone.toNat < 8), (3, 15 ≤ r.keepMin.toNat ∧ r.keepMin.toNat ≤ 900),
          (4, 2 ≤ r.keySamples.toNat ∧ r.keySamples.toNat ≤ 32)])) ∧
    (∀ (number : Byte) (r : RawCall), let c : Instr := .writeCall number r
      numbered c number 3 (record c r.inUse
        [(2, r.group.toNat < 8), (3, 5 ≤ r.callMin.toNat ∧ r.callMin.toNat ≤ 240), (4, r.activeLow.toNat ≤ 1),
          (5, 20 ≤ r.callSamples.toNat ∧ r.callSamples.toNat ≤ 400)])) ∧
    (∀ r : RawMeter, record (.writeMeter r) r.inUse
      [(2, 1 ≤ r.whPerPulse.toNat ∧ r.whPerPulse.toNat ≤ 1000), (3, r.intervalMin = 15 ∨ r.intervalMin = 30),
        (4, 2 ≤ r.meterSamples.toNat ∧ r.meterSamples.toNat ≤ 8)]) ∧
    (∀ r : RawLink, firstBad (.writeLink r)
      ((1, 100 ≤ r.pollPeriodMs.toNat ∧ r.pollPeriodMs.toNat ≤ 1000) ::
        (2, 5 ≤ r.replyTimeoutMs.toNat ∧ r.replyTimeoutMs.toNat ≤ 50) ::
        allStations.flatMap fun k =>
          [(BitVec.ofNat 8 (3 + 2 * k.val), decide ((r.stations[k]).1.toNat ≤ 1)),
            (BitVec.ofNat 8 (4 + 2 * k.val), decide ((r.stations[k]).2.toNat ≤ 1))])) ∧
    ∀ address speed parity : Byte, firstBad (.writePort address speed parity)
      [(1, 1 ≤ address.toNat ∧ address.toNat ≤ 31), (2, speed.toNat ≤ 4), (3, parity.toNat ≤ 1)]

/-! ## Configuration (chapters 1, 6 and 7) -/

/-- A load record in use passes its check exactly when each of its rows is in the range of Table 1-1, and the
record held then carries every row as sent: the group where its code is not FFh, the needs item by item, the flag
and the mode by their codes, and the numbers. A record not in use is the default whole, and any other in_use byte
is refused at row 1 (R2, R3). -/
def Obligations.LoadRecordRanges : Prop :=
  ∀ r : RawLoad,
    (r.inUse = 1 →
      ((∃ c, checkLoad r = .ok c) ↔
        (1 ≤ r.tag.length ∧ r.tag.length ≤ 8 ∧ ∀ b ∈ r.tag, 0x20 ≤ b.toNat ∧ b.toNat ≤ 0x7E) ∧
        r.zone.toNat < 8 ∧ (r.group = 0xFF ∨ r.group.toNat < 8) ∧
        (r.needs.length ≤ 3 ∧ r.needs.Nodup ∧
          ∀ i ∈ r.needs, (i.1 = 0 ∧ i.2.toNat < 64) ∨ (i.1 = 1 ∧ i.2.toNat < 8)) ∧
        r.nightExempt.toNat ≤ 1 ∧ r.wakePriority.toNat ≤ 7 ∧ r.runKw.toNat ≤ 2000 ∧
        (r.runKw.toNat ≤ r.inrushKw.toNat ∧ r.inrushKw.toNat ≤ 8000) ∧
        (1 ≤ r.accelS.toNat ∧ r.accelS.toNat ≤ 120) ∧
        (5 ≤ r.startTimeoutS.toNat ∧ r.startTimeoutS.toNat ≤ 600) ∧
        (5 ≤ r.stopTimeoutS.toNat ∧ r.stopTimeoutS.toNat ≤ 900) ∧
        r.minRunS.toNat ≤ 3600 ∧ r.minOffS.toNat ≤ 3600 ∧
        (1 ≤ r.startsPerHour.toNat ∧ r.startsPerHour.toNat ≤ 8) ∧
        (1 ≤ r.idleMin.toNat ∧ r.idleMin.toNat ≤ 240) ∧ r.activityMode.toNat ≤ 1 ∧
        1 ≤ r.activityThreshold.toNat ∧ (1 ≤ r.feedbackFilter.toNat ∧ r.feedbackFilter.toNat ≤ 8)) ∧
      ∀ c, checkLoad r = .ok c →
        c.inUse = true ∧ c.tag = r.tag ∧ c.zone.val = r.zone.toNat ∧
        c.wakePriority = r.wakePriority.toNat ∧ c.runKw = r.runKw.toNat ∧ c.inrushKw = r.inrushKw.toNat ∧
        c.accelS = r.accelS.toNat ∧ c.startTimeoutS = r.startTimeoutS.toNat ∧
        c.stopTimeoutS = r.stopTimeoutS.toNat ∧ c.minRunS = r.minRunS.toNat ∧
        c.minOffS = r.minOffS.toNat ∧ c.startsPerHour = r.startsPerHour.toNat ∧
        c.idleMin = r.idleMin.toNat ∧ c.activityThreshold = r.activityThreshold.toNat ∧
        c.feedbackFilter = r.feedbackFilter.toNat ∧
        (c.group.map fun g => g.val) = (if r.group = 0xFF then none else some r.group.toNat) ∧
        (c.needs.map fun need => match need with
          | .load j => ((0 : Byte), j.val)
          | .group g => (1, g.val)) = (r.needs.map fun item => (item.1, item.2.toNat)) ∧
        c.nightExempt = decide (r.nightExempt = 1) ∧
        c.activityMode = (if r.activityMode = 1 then .level else .pulse)) ∧
    (r.inUse = 0 → checkLoad r = .ok {}) ∧
    (1 < r.inUse.toNat → checkLoad r = .error 1)

/-- A plan whose rows are all in the ranges of Table 5-1 is accepted exactly when its span, wind_down_time less
wake_time modulo a day, is at least warning_min plus 30 minutes, and is otherwise refused with field 14; no
other plan is accepted or refused so. The plan held then carries every row as sent: the number, the tag, the seven
days, the minutes, the lead and the ceilings, and the two flags by their codes. A plan that is not valid is the empty
slot whole, and any other valid byte is refused at row 1 (R109, R110). -/
def Obligations.PlanRecordSpan : Prop :=
  ∀ r : RawPlan, (r.valid = 0 → checkPlan r = .ok {}) ∧ (1 < r.valid.toNat → checkPlan r = .error 1) ∧
   (r.valid = 1 →
    let rows : Prop :=
      (1 ≤ r.tag.length ∧ r.tag.length ≤ 8 ∧ ∀ b ∈ r.tag, 0x20 ≤ b.toNat ∧ b.toNat ≤ 0x7E) ∧
      r.workDays.toNat < 128 ∧ r.windDownTime.toNat ≤ 1439 ∧ r.warningMin.toNat ≤ 60 ∧
      r.wakeTime.toNat ≤ 1439 ∧ r.wakeGraceMin.toNat ≤ 120 ∧ r.baseLeadS.toNat ≤ 3600 ∧
      (1 ≤ r.ceilingKw.toNat ∧ r.ceilingKw.toNat ≤ 60000) ∧ r.intervalCeilingKw.toNat ≤ 60000 ∧
      r.nightPanels.toNat ≤ 1 ∧ r.nightCalls.toNat ≤ 1
    let long : Prop :=
      (r.warningMin.toNat : Int) + 30 ≤ ((r.windDownTime.toNat : Int) - r.wakeTime.toNat) % 1440
    ((∃ p, checkPlan r = .ok p) ↔ rows ∧ long) ∧ (checkPlan r = .error 14 ↔ rows ∧ ¬long) ∧
    ∀ p, checkPlan r = .ok p →
      p.valid = true ∧ p.planNo = r.planNo.toNat ∧ p.tag = r.tag ∧ p.workDays.toNat = r.workDays.toNat ∧
      p.windDownTime = r.windDownTime.toNat ∧ p.warningMin = r.warningMin.toNat ∧
      p.wakeTime = r.wakeTime.toNat ∧ p.wakeGraceMin = r.wakeGraceMin.toNat ∧
      p.baseLeadS = r.baseLeadS.toNat ∧ p.ceilingKw = r.ceilingKw.toNat ∧
      p.intervalCeilingKw = r.intervalCeilingKw.toNat ∧
      p.nightPanels = decide (r.nightPanels = 1) ∧ p.nightCalls = decide (r.nightCalls = 1))

/-- A WRITE LOAD CONFIG in range, in SETUP and outside a SAVE: an equal record is answered NO_CHANGE; otherwise
the record is held, the slot's live state starts afresh where in_use changes, the accumulator is cleared where
the activity mode changes, a station entering the polled set takes its power-on record, or its HALT record, and
one leaving it its power-on record; other loads keep their records and other stations their grades (R4, R47,
R132). -/
def Obligations.WriteLoadConfig : Prop :=
  ∀ (s : State) (number : Byte) (r : RawLoad) (n : LoadId) (c : LoadConfig),
    s.canServe (.writeLoadConfig number r) = true → s.writable →
    number.toNat = n.val → checkLoad r = .ok c →
    (c = s.config n →
      exec (.writeLoadConfig number r) s =
        .next (s.answered (.writeLoadConfig number r) s.toPart { status := .noChange, data := [number] })) ∧
    (c ≠ s.config n → ∃ t : State,
      exec (.writeLoadConfig number r) s = .next t ∧
      t.replies 0x40 .ok [number] ∧
      t.cfg = { s.cfg with loads := s.cfg.loads.set n c } ∧
      (∀ k, k ≠ n → t.load k = s.load k) ∧
      (c.inUse = false → s.inUse n = true → t.load n = {}) ∧
      (c.inUse = true → s.inUse n = false →
        t.load n = { phase := if (t.station (stationOf n)).grade = .offline then .unreachable else .localRun }) ∧
      (c.inUse = s.inUse n → c.activityMode ≠ (s.config n).activityMode →
        t.load n = { s.load n with activityCount := 0, activityWindow := none } ∧ t.flm = s.flm) ∧
      (c.inUse = s.inUse n → c.activityMode = (s.config n).activityMode →
        t.load n = s.load n ∧ t.flm = s.flm) ∧
      (s.polled (stationOf n) = true → t.polled (stationOf n) = false → t.station (stationOf n) = {}) ∧
      (s.polled (stationOf n) = false → t.polled (stationOf n) = true →
        t.station (stationOf n) =
          if s.flm.link = .halt then { grade := .offline, err := 255, forcedAuto := true } else {}) ∧
      (∀ k, k ≠ stationOf n → (t.station k).grade = (s.station k).grade ∧ (t.station k).err = (s.station k).err) ∧
      t.holds = s.holds ∧ t.nextId = s.nextId ∧ t.ncc = s.ncc ∧ t.lin = s.lin ∧ t.cfs = s.cfs ∧
      t.power = s.power ∧ t.svp.inEffect = s.svp.inEffect ∧ t.dgv.queue = s.dgv.queue)

/-- WRITE GROUP, WRITE ZONE, WRITE PORT and WRITE LINK in range, in SETUP and outside a SAVE, replace their
record, answered NO_CHANGE where it was held already; the settings of a new port record wait for the end of the
result; under a new link record each station whose recovery changes loses its good_run and its recover_armed;
and nothing else changes. A group, port or link record passes its check exactly when its rows are in range, and is
then held with every row as sent; a group not in use is the default whole (R5, R6, R133, R168). -/
def Obligations.WriteGroupZonePortLink : Prop :=
  (∀ r : RawGroup, (r.inUse = 0 → checkGroup r = .ok {}) ∧ (1 < r.inUse.toNat → checkGroup r = .error 1) ∧
    (r.inUse = 1 →
      ((∃ c, checkGroup r = .ok c) ↔
        (1 ≤ r.tag.length ∧ r.tag.length ≤ 8 ∧ ∀ b ∈ r.tag, 0x20 ≤ b.toNat ∧ b.toNat ≤ 0x7E) ∧
        1 ≤ r.required.toNat ∧ r.required.toNat ≤ 64) ∧
      ∀ c, checkGroup r = .ok c → c.inUse = true ∧ c.tag = r.tag ∧ c.required = r.required.toNat)) ∧
  (∀ address speed parity : Byte,
    ((∃ c, checkPort address speed parity = .ok c) ↔
      (1 ≤ address.toNat ∧ address.toNat ≤ 31) ∧ speed.toNat ≤ 4 ∧ parity.toNat ≤ 1) ∧
    ∀ c, checkPort address speed parity = .ok c → c.address = address.toNat ∧
      [Speed.b9600, .b19200, .b38400, .b57600, .b115200][speed.toNat]? = some c.speed ∧
      c.parity = if parity = 1 then .even else .none) ∧
  (∀ r : RawLink,
    ((∃ c, checkLink r = .ok c) ↔
      (100 ≤ r.pollPeriodMs.toNat ∧ r.pollPeriodMs.toNat ≤ 1000) ∧
      (5 ≤ r.replyTimeoutMs.toNat ∧ r.replyTimeoutMs.toNat ≤ 50) ∧
      ∀ k : StationId, (r.stations[k]).1.toNat ≤ 1 ∧ (r.stations[k]).2.toNat ≤ 1) ∧
    ∀ c, checkLink r = .ok c →
      c.pollPeriodMs = r.pollPeriodMs.toNat ∧ c.replyTimeoutMs = r.replyTimeoutMs.toNat ∧
      ∀ k : StationId, c.stations[k] =
        { recovery := if (r.stations[k]).1 = 1 then .manual else .auto
          silenceCountsIdle := decide ((r.stations[k]).2 = 1) }) ∧
  ∀ s : State, s.writable →
    (∀ (number : Byte) (r : RawGroup) (g : GroupId) (c : GroupConfig),
      s.canServe (.writeGroup number r) = true → number.toNat = g.val → checkGroup r = .ok c →
      exec (.writeGroup number r) s = .next (s.answered (.writeGroup number r)
        { s.toPart with cfg := { s.cfg with groups := s.cfg.groups.set g c } }
        { status := if c = s.group g then .noChange else .ok, data := [number] })) ∧
    (∀ (number : Byte) (tag : List Byte) (z : ZoneId),
      s.canServe (.writeZone number tag) = true → number.toNat = z.val →
      tag.length ≤ 8 → (∀ b ∈ tag, 0x20 ≤ b.toNat ∧ b.toNat ≤ 0x7E) →
      exec (.writeZone number tag) s = .next (s.answered (.writeZone number tag)
        { s.toPart with cfg := { s.cfg with zones := s.cfg.zones.set z tag } }
        { status := if tag = s.cfg.zones[z] then .noChange else .ok, data := [number] })) ∧
    (∀ (address speed parity : Byte) (c : PortConfig),
      s.canServe (.writePort address speed parity) = true → checkPort address speed parity = .ok c →
      exec (.writePort address speed parity) s =
        if c = s.cfg.port then
          .next (s.answered (.writePort address speed parity) s.toPart { status := .noChange })
        else
          .next (s.answered (.writePort address speed parity) { s.toPart with cfg := { s.cfg with port := c } }
            { status := .ok, after := .takePort })) ∧
    ∀ (r : RawLink) (c : LinkConfig), s.canServe (.writeLink r) = true → checkLink r = .ok c →
      ∃ t : State, exec (.writeLink r) s = .next t ∧
        t.replies 0x46 (if c = s.cfg.link then .noChange else .ok) [] ∧
        t.cfg = { s.cfg with link := c } ∧
        (∀ k : StationId, t.station k =
          if (s.cfg.link.stations[k]).recovery = (c.stations[k]).recovery then s.station k
          else { s.station k with goodRun := 0, recoverArmed := false }) ∧
        t.flm.link = s.flm.link ∧ t.flm.toPoll = s.flm.toPoll ∧ t.flm.inFlight = s.flm.inFlight ∧
        t.loads = s.loads ∧ t.holds = s.holds ∧ t.nextId = s.nextId ∧ t.dgv = s.dgv ∧ t.ncc = s.ncc ∧
        t.lin = s.lin ∧ t.atl = s.atl ∧ t.cfs = s.cfs ∧ t.power = s.power

/-- WRITE PANEL, WRITE CALL and WRITE METER in range, in SETUP and outside a SAVE: the record is replaced; a
line whose record comes into or goes out of use, and a call line whose active level changes, starts afresh at
unknown; a changed sample count sets the run count to 0; any other line keeps its record; a panel coming into
or going out of use has its refusal timer cleared and its lamp chosen again; any change of the meter record
begins a partial interval (R95, R152, R153, R159, R163). A boundary of the present second that is still to be taken
stays due only where it is one under the interval_min written (R94); that a boundary waits for its row is the
model's choice (log entry 11). A record in use passes its check exactly when its rows are in range, and is then held
with every row as sent; one not in use is the default whole. -/
def Obligations.WritePanelCallMeter : Prop :=
  (∀ r : RawPanel, (r.inUse = 0 → checkPanel r = .ok {}) ∧ (1 < r.inUse.toNat → checkPanel r = .error 1) ∧
    (r.inUse = 1 →
      ((∃ c, checkPanel r = .ok c) ↔ r.zone.toNat < 8 ∧ (15 ≤ r.keepMin.toNat ∧ r.keepMin.toNat ≤ 900) ∧
        2 ≤ r.keySamples.toNat ∧ r.keySamples.toNat ≤ 32) ∧
      ∀ c, checkPanel r = .ok c → c.inUse = true ∧ c.zone.val = r.zone.toNat ∧ c.keepMin = r.keepMin.toNat ∧
        c.keySamples = r.keySamples.toNat)) ∧
  (∀ r : RawCall, (r.inUse = 0 → checkCall r = .ok {}) ∧ (1 < r.inUse.toNat → checkCall r = .error 1) ∧
    (r.inUse = 1 →
      ((∃ c, checkCall r = .ok c) ↔ r.group.toNat < 8 ∧ (5 ≤ r.callMin.toNat ∧ r.callMin.toNat ≤ 240) ∧
        r.activeLow.toNat ≤ 1 ∧ 20 ≤ r.callSamples.toNat ∧ r.callSamples.toNat ≤ 400) ∧
      ∀ c, checkCall r = .ok c → c.inUse = true ∧ c.group.val = r.group.toNat ∧ c.callMin = r.callMin.toNat ∧
        c.activeLow = decide (r.activeLow = 1) ∧ c.callSamples = r.callSamples.toNat)) ∧
  (∀ r : RawMeter, (r.inUse = 0 → checkMeter r = .ok {}) ∧ (1 < r.inUse.toNat → checkMeter r = .error 1) ∧
    (r.inUse = 1 →
      ((∃ c, checkMeter r = .ok c) ↔ (1 ≤ r.whPerPulse.toNat ∧ r.whPerPulse.toNat ≤ 1000) ∧
        (r.intervalMin = 15 ∨ r.intervalMin = 30) ∧ 2 ≤ r.meterSamples.toNat ∧ r.meterSamples.toNat ≤ 8) ∧
      ∀ c, checkMeter r = .ok c → c.inUse = true ∧ c.whPerPulse = r.whPerPulse.toNat ∧
        c.intervalMin = r.intervalMin.toNat ∧ c.meterSamples = r.meterSamples.toNat)) ∧
  ∀ s : State, s.writable →
    (∀ (number : Byte) (r : RawPanel) (p : PanelId) (c : PanelConfig),
      s.canServe (.writePanel number r) = true → number.toNat = p.val → checkPanel r = .ok c →
      let old := s.cfg.panels[p]
      ∃ t : State, exec (.writePanel number r) s = .next t ∧
        t.replies 0x43 (if c = old then .noChange else .ok) [number] ∧
        t.cfg = { s.cfg with panels := s.cfg.panels.set p c } ∧
        (∀ key : Key, t.lin.debounce (.key p key) =
          if c.inUse ≠ old.inUse then {}
          else if c.keySamples ≠ old.keySamples then { s.lin.debounce (.key p key) with run := 0 }
          else s.lin.debounce (.key p key)) ∧
        (∀ (q : PanelId) (key : Key), q ≠ p → t.lin.debounce (.key q key) = s.lin.debounce (.key q key)) ∧
        t.lin.call = s.lin.call ∧ t.lin.meter = s.lin.meter ∧
        (c.inUse ≠ old.inUse → t.lin.refusal[p] = none ∧ (t.lin.lamps[p]).pattern = t.lampPattern p) ∧
        (c.inUse = old.inUse → t.lin.refusal = s.lin.refusal ∧ t.lin.lamps = s.lin.lamps) ∧
        t.loads = s.loads ∧ t.holds = s.holds ∧ t.dgv = s.dgv ∧ t.ncc = s.ncc ∧ t.flm = s.flm ∧
        t.atl = s.atl ∧ t.cfs = s.cfs) ∧
    (∀ (number : Byte) (r : RawCall) (l : CallId) (c : CallConfig),
      s.canServe (.writeCall number r) = true → number.toNat = l.val → checkCall r = .ok c →
      let old := s.cfg.calls[l]
      let d := s.lin.call[l]
      let d' : Debounce :=
        if c.inUse ≠ old.inUse ∨ c.activeLow ≠ old.activeLow then {}
        else if c.callSamples ≠ old.callSamples then { d with run := 0 } else d
      exec (.writeCall number r) s = .next (s.answered (.writeCall number r)
        { s.toPart with
          cfg := { s.cfg with calls := s.cfg.calls.set l c }
          lin := { s.lin with call := s.lin.call.set l d' } }
        { status := if c = old then .noChange else .ok, data := [number] })) ∧
    (∀ (r : RawMeter) (c : MeterConfig),
      s.canServe (.writeMeter r) = true → checkMeter r = .ok c →
      let old := s.cfg.meter
      let d := s.lin.meter
      let d' : Debounce :=
        if c.inUse ≠ old.inUse then {} else if c.meterSamples ≠ old.meterSamples then { d with run := 0 } else d
      exec (.writeMeter r) s = .next (s.answered (.writeMeter r)
        { s.toPart with
          cfg := { s.cfg with meter := c }
          lin := { s.lin with meter := d' }
          dgv := if c = old then s.dgv else { s.dgv with energy := 0, isPartial := true }
          ncc := if c = old then s.ncc else { s.ncc with
            intervalDue := s.ncc.intervalDue && decide (s.ncc.clock.minute % c.intervalMin = 0) } }
        { status := if c = old then .noChange else .ok }))

open Classical in
/-- The plant validation walks the configuration in five passes and reports the first failure: the needs of each
in-use load in order, unknown before self; the groups with fewer members than required; the loads on a cycle of the
need graph; the loads from which a path of more than four edges starts; the calls that name a group not in use, and
the panels whose zone has no in-use load. Its CONFIG data are the kind, the index and the reason by their codes. The
need graph joins an in-use load to each in-use load it needs, by itself or as a member of a group; the depth of an
in-use load is the length of its longest path, and none while there is a cycle (R7, R9, R14, R15). That a slot not in
use has no depth is the model's choice (log entry 13). -/
def Obligations.PlantValidation : Prop :=
  ∀ s : Part,
    let used (n : LoadId) : Prop := (s.cfg.loads[n]).inUse = true
    let usedGroup (g : GroupId) : Prop := (s.cfg.groups[g]).inUse = true
    let member (g : GroupId) (n : LoadId) : Prop := used n ∧ usedGroup g ∧ (s.cfg.loads[n]).group = some g
    let edge (k j : LoadId) : Prop := used k ∧ used j ∧
      (.load j ∈ (s.cfg.loads[k]).needs ∨ ∃ g, .group g ∈ (s.cfg.loads[k]).needs ∧ member g j)
    let path (edges : Nat) (j : LoadId) : Prop :=
      ∃ p : Nat → LoadId, p 0 = j ∧ ∀ i < edges, edge (p i) (p (i + 1))
    let cyclic (j : LoadId) : Prop := Relation.TransGen edge j j
    let needFails (n : LoadId) : Need → Option FailureReason
      | .load j => if ¬used j then some .needUnknown else if j = n then some .needSelf else none
      | .group g =>
        if ¬usedGroup g then some .needUnknown
        else if (s.cfg.loads[n]).group = some g then some .needSelf else none
    let loadFailure (r : FailureReason) (n : LoadId) : Failure := ⟨.load, n.val, r⟩
    let needs : List Failure := (List.finRange 64).flatMap fun n =>
      if used n then ((s.cfg.loads[n]).needs.filterMap (needFails n)).map (loadFailure · n) else []
    let groups : List Failure := ((List.finRange 8).filter fun g => usedGroup g ∧
      (Finset.univ.filter (member g)).card < (s.cfg.groups[g]).required).map fun g => ⟨.group, g.val, .groupShort⟩
    let cycles : List Failure := ((List.finRange 64).filter fun n => cyclic n).map (loadFailure .cycle)
    let depths : List Failure := ((List.finRange 64).filter fun n => path 5 n).map (loadFailure .tooDeep)
    let calls : List Failure := ((List.finRange 4).filter fun l => (s.cfg.calls[l]).inUse = true ∧
      ¬usedGroup (s.cfg.calls[l]).group).map fun l => ⟨.call, l.val, .callUnknown⟩
    let panels : List Failure := ((List.finRange 8).filter fun p => (s.cfg.panels[p]).inUse = true ∧
      ∀ n, used n → (s.cfg.loads[n]).zone ≠ (s.cfg.panels[p]).zone).map fun p => ⟨.panel, p.val, .panelEmpty⟩
    s.validate = (needs ++ groups ++ cycles ++ depths ++ calls ++ panels).head? ∧
    (∀ (kind : FailureKind) (index : Nat) (reason : FailureReason),
      ∃ k r : Nat, [FailureKind.load, .group, .call, .panel][k]? = some kind ∧
        [FailureReason.needUnknown, .needSelf, .groupShort, .cycle, .tooDeep, .callUnknown, .panelEmpty][r]? =
          some reason ∧
        (⟨kind, index, reason⟩ : Failure).bytes = [BitVec.ofNat 8 k, BitVec.ofNat 8 index, BitVec.ofNat 8 (r + 1)]) ∧
    (∀ j, ¬used j ∨ (∃ n, cyclic n) → s.depth j = none) ∧
    ∀ j, used j → (∀ n, ¬cyclic n) → ∃ d, s.depth j = some d ∧ path d j ∧ ¬path (d + 1) j

/-! ## Reads -/

/-- The reads answer their data and change nothing but the receiver, and READ LOAD clears the changed mark of the
load it reads; a number, an index, a slot or a kind out of range is answered RANGE with its field, field 2 for a
number out of its READ CONFIG kind's range, and an id no live hold has NOT_FOUND (R12, R44, R75, R76, R102, R103,
R108, R113, R148, R175, R176, R183, R192). The data are written out in the order their rules and Tables 10-8 to
10-10 give, numbers high byte first, an optional field with its presence byte, and every code that of Table 10-6
(R129, R165, R206). That IDENTIFY gives the build number two bytes and each capacity one, and the layouts of the
data where the manual leaves them open, are the model's choice (log entry 13), and the build number itself is free
(log entry 2). -/
def Obligations.Reads : Prop :=
  (([Mode.setup, .day, .windDown, .night, .wake].map Mode.code = List.range 5) ∧
    ([LoadPhase.unused, .localRun, .watch, .stopping 0, .off, .queued, .starting, .override, .fault .noStart,
      .fault .noStop, .unreachable].map fun p => (p.code, p.faultCode)) =
      [(0, 0), (1, 0), (2, 0), (3, 0), (4, 0), (5, 0), (6, 0), (7, 0), (8, 1), (8, 2), (9, 0)] ∧
    (∀ began, (LoadPhase.stopping began).code = 3 ∧ (LoadPhase.stopping began).faultCode = 0) ∧
    ([Origin.wake, .hold, .call, .command, .pull 0].map Origin.code = List.range 5) ∧
    ([Wait.none, .needs, .minOff, .budget, .link, .demand].map Wait.code = List.range 6) ∧
    ([Grade.online, .suspect, .offline].map Grade.code = List.range 3) ∧
    ([Level.inactive, .active, .unknown].map Level.code = List.range 3) ∧
    ([Pattern.off, .steady, .slow, .fast, .wink].map Pattern.code = List.range 5) ∧
    ([Speed.b9600, .b19200, .b38400, .b57600, .b115200].map Speed.code = List.range 5) ∧
    ([SavePhase.idle, .erasing, .writing, .checking].map SavePhase.code = List.range 4) ∧
    ([SaveOutcome.none, .success, .fault].map SaveOutcome.code = List.range 3) ∧
    ([WithdrawCause.keepOff, .stop, .override, .unreachable, .needLost, .oversize].map WithdrawCause.code =
      List.range 6)) ∧
  ∀ s : State,
    let rows (c : LoadConfig) : List Byte :=
      flag c.inUse ++ text c.tag ++ u8 c.zone.val ++ u8 (match c.group with | some g => g.val | none => 0xFF) ++
      u8 c.needs.length ++ (c.needs.flatMap fun need => match need with
        | .load j => u8 0 ++ u8 j.val
        | .group g => u8 1 ++ u8 g.val) ++
      flag c.nightExempt ++ u8 c.wakePriority ++ u16 c.runKw ++ u16 c.inrushKw ++ u8 c.accelS ++
      u16 c.startTimeoutS ++ u16 c.stopTimeoutS ++ u16 c.minRunS ++ u16 c.minOffS ++ u8 c.startsPerHour ++
      u8 c.idleMin ++ flag (decide (c.activityMode = .level)) ++ u8 c.activityThreshold ++ u8 c.feedbackFilter
    let planRows (c : Plan) : List Byte :=
      flag c.valid ++ u8 c.planNo ++ text c.tag ++ u8 c.workDays.toNat ++ u16 c.windDownTime ++ u8 c.warningMin ++
      u16 c.wakeTime ++ u8 c.wakeGraceMin ++ u16 c.baseLeadS ++ u16 c.ceilingKw ++ u16 c.intervalCeilingKw ++
      flag c.nightPanels ++ flag c.nightCalls
    let stationRows (c : StationConfig) : List Byte :=
      flag (decide (c.recovery = .manual)) ++ flag c.silenceCountsIdle
    let portRows (c : PortConfig) : List Byte :=
      u8 c.address ++ u8 c.speed.code ++ flag (decide (c.parity = .even))
    let left (deadline : Option Nat) : List Byte := opt 4 u32 (deadline.map fun d => d - s.now)
    let origin (o : Option Origin) : List Byte := match o with
      | none => u8 0xFF ++ u8 0xFF
      | some (.pull p) => u8 4 ++ u8 p.val
      | some o => u8 o.code ++ u8 0xFF
    let count (p : LoadPhase → Bool) : List Byte := u8 (allLoads.countP fun n => p (s.load n).phase)
    let grades (g : Grade) : List Byte :=
      u8 (allStations.countP fun k => s.polled k && decide ((s.station k).grade = g))
    let ceilings : List Byte :=
      u16 s.dgv.ceilingI.value ++ flag (decide (s.dgv.ceilingI.source = .override)) ++
      u16 s.dgv.ceilingD.value ++ flag (decide (s.dgv.ceilingD.source = .override))
    let held (h : Hold) : List Byte :=
      u16 h.id ++ flag (decide (h.kind = .keepOff)) ++
      (match h.target with
        | .load n => u8 0 ++ u8 n.val
        | .zone z => u8 1 ++ u8 z.val
        | .group g => u8 2 ++ u8 g.val) ++
      (match h.owner with
        | .supervisor => u8 0 ++ u8 0
        | .panel p => u8 1 ++ u8 p.val
        | .call l => u8 2 ++ u8 l.val) ++
      opt 4 u32 h.expiry ++ u32 h.placedAt ++ u8 h.renewals ++ u8 h.reason ++ flag (s.holdSatisfied h) ++
      opt 2 u16 (h.expiry.map fun e => e - s.now / 60)
    let queued (i : Nat) : List Byte := match s.dgv.queue[i]? with
      | some e => u8 i ++ u8 e.load.val ++ origin (some e.origin) ++ u8 e.key ++ u32 e.seq.toNat ++ u8 e.wait.code
      | none => []
    let detail (d : Option Detail) : List Byte := match d with
      | some (.loadFault n) => u8 n.val ++ [0, 0, 0]
      | some (.station k) => u8 k.val ++ [0, 0, 0]
      | some (.demand kw) => u32 kw
      | some (.startFailed n c) => [0] ++ u8 n.val ++ u8 c.code ++ [0]
      | some (.callRefused g isFull) => [1] ++ u8 g.val ++ [if isFull then 0x11 else 0x10, 0]
      | some (.holdRetired id) => u16 id ++ [0, 0]
      | some (.mode m late) => u8 m.code ++ flag late ++ [0, 0]
      | some (.plan no) => u8 no ++ [0, 0, 0]
      | some (.store success fromLoad) => [if success then 1 else 2] ++ flag fromLoad ++ [0, 0]
      | none => [0, 0, 0, 0]
    let clockBytes : List Byte := flag s.ncc.clock.valid ++ u16 s.ncc.clock.minute
    let night : List Byte :=
      u8 s.mode.code ++ flag s.ncc.late ++ clockBytes ++ u8 s.ncc.clock.second ++ u32 s.now ++ flag s.scheduled ++
      u8 s.cfg.active.planNo ++ text s.cfg.active.tag ++ flag s.cfg.staged.valid ++ flag s.ncc.armed ++
      (match s.ncc.mode with
        | .day next mark =>
          left (next.map NextNight.warnStart) ++ left (next.map NextNight.nightStart) ++ flag mark.isSome
        | _ => left none ++ left none ++ flag false) ++
      (match s.ncc.mode with
        | .windDown deadline scheduled => left (some deadline) ++ flag scheduled
        | _ => left none ++ flag false) ++
      (match s.ncc.mode with
        | .night target wakeBegin lead =>
          opt 2 u16 (target.map WakeTarget.minute) ++ u16 lead ++ left wakeBegin
        | _ => opt 2 u16 none ++ u16 0 ++ left none) ++
      (match s.ncc.mode with
        | .wake grace =>
          left grace ++ u8 (s.dgv.queue.countP fun e => e.origin = .wake) ++
          u8 (allLoads.countP fun n =>
            decide ((s.load n).phase = .starting) && decide (s.dgv.startingOrigin[n] = some .wake))
        | _ => left none ++ u8 0 ++ u8 0)
    let changed : List Byte := (List.range 8).flatMap fun i =>
      u8 (((allLoads.drop (8 * i)).take 8).foldr (fun n v => 2 * v + (s.load n).changed.toNat) 0)
    let status : List Byte :=
      night ++ u8 (allLoads.countP s.inUse) ++ count (· = .localRun) ++ count (· = .watch) ++
      count LoadPhase.isStopping ++ count (· = .off) ++ count (· = .queued) ++ count (· = .starting) ++
      count (· = .override) ++ count (· = .fault .noStart) ++ count (· = .fault .noStop) ++
      count (· = .unreachable) ++ changed ++
      u8 s.holds.length ++ u8 (s.holds.countP fun h => h.kind = .keepOn) ++
      u8 (s.holds.countP fun h => h.kind = .keepOff) ++
      u8 s.dgv.queue.length ++ count (· = .starting) ++ u32 s.demandNow ++ u16 s.dgv.ceilingI.value ++
      u16 s.dgv.ceilingD.value ++
      flag (decide (s.flm.link = .halt)) ++ grades .online ++ grades .suspect ++ grades .offline ++
      [s.atl.pending &&& s.cfg.enable] ++
      flag (decide (s.cfs.phase ≠ .idle)) ++ u8 s.cfs.phase.code ++ flag (decide (s.cfs.image = .bad)) ++
      u8 s.cfs.outcome.code ++ flag (decide (s.svp.lastReset = .command)) ++ u32 s.svp.lastResetAt
    let demand : List Byte :=
      u32 s.demandNow ++ ceilings ++ flag s.cfg.meter.inUse ++ flag s.dgv.isPartial ++
      u16 (s.cfg.meter.intervalMin * 60) ++
      opt 2 u16 (if s.dgv.isPartial then none
        else some (s.ncc.clock.minute % s.cfg.meter.intervalMin * 60 + s.ncc.clock.second)) ++
      u32 s.dgv.energy ++ opt 4 u32 s.dgv.lastIntervalKw ++ u8 (allLoads.countP s.inWindow) ++
      u8 s.dgv.queue.length
    let highest : Option (Fin 8) := (List.finRange 8).find? fun i => (s.atl.pending &&& s.cfg.enable).getLsbD i
    let attention : List Byte :=
      [s.atl.pending &&& s.cfg.enable, s.atl.pending, s.cfg.enable] ++
      match highest with
        | some i => u8 i.val ++ detail s.atl.details[i]
        | none => [0xFF, 0, 0, 0, 0]
    let stationBytes (k : StationId) : List Byte :=
      let r := s.station k
      let c := s.cfg.link.stations[k]
      flag (s.polled k) ++ u8 r.grade.code ++ u8 r.err ++ u8 r.goodRun ++ flag r.recoverArmed ++ flag r.forcedAuto ++
      u16 r.missed ++ stationRows c ++ flag (decide (c.recovery = .manual ∧ r.forcedAuto = false)) ++
      opt 4 u32 r.lastGood ++ opt 4 u32 (r.lastGood.map fun g => s.now - g) ++
      opt 12 (fun v : Vector Reading 4 => (List.finRange 4).flatMap fun c =>
        flag v[c].feedback ++ flag v[c].level ++ u8 v[c].edges) r.lastReply ++
      flag (decide (s.flm.link = .halt))
    let loadBytes (n : LoadId) : List Byte :=
      let r := s.load n
      u8 n.val ++ u8 r.phase.code ++ u8 r.phase.faultCode ++ flag r.feedback ++ u32 r.lastActivity ++
      opt 4 u32 r.startedAt ++ opt 4 u32 r.stoppedAt ++ u8 r.startHistory.length ++ flag r.stopPending ++
      origin r.heldEnqueue ++ flag r.changed ++ origin ((s.entry? n).map Entry.origin) ++
      (match s.entry? n with | some e => u8 e.wait.code | none => u8 0xFF)
    let panelBytes (p : PanelId) : List Byte :=
      let c := s.cfg.panels[p]
      let h := s.holds.find? fun h => h.owner = .panel p && h.kind = .keepOn && h.target = .zone c.zone
      flag c.inUse ++ u8 c.zone.val ++ u16 c.keepMin ++ u8 c.keySamples ++ u8 (s.lin.keep[p]).level.code ++
      u8 (s.lin.clear[p]).level.code ++ u8 (s.lin.lamps[p]).pattern.code ++ left s.lin.refusal[p] ++
      opt 2 u16 (h.map Hold.id) ++ opt 2 u16 (h.bind fun h => h.expiry.map fun e => e - s.now / 60)
    let callBytes (l : CallId) : List Byte :=
      let c := s.cfg.calls[l]
      flag c.inUse ++ u8 c.group.val ++ u8 c.callMin ++ flag c.activeLow ++ u16 c.callSamples ++
      u8 (s.lin.call[l]).level.code ++
      flag (c.inUse && s.cfg.active.valid && s.cfg.active.nightCalls &&
        decide (s.mode = .windDown ∨ s.mode = .night ∨ s.mode = .wake))
    let meterBytes : List Byte :=
      let c := s.cfg.meter
      flag c.inUse ++ u16 c.whPerPulse ++ u8 c.intervalMin ++ u8 c.meterSamples ++ u8 s.lin.meter.level.code
    let linkBytes : List Byte :=
      u16 s.cfg.link.pollPeriodMs ++ u8 s.cfg.link.replyTimeoutMs ++
      (allStations.flatMap fun k => stationRows s.cfg.link.stations[k]) ++ flag (decide (s.flm.link = .halt))
    let groupBytes (g : GroupId) : List Byte :=
      let members := allLoads.filter fun n => s.memberOf n g
      flag (s.group g).inUse ++ text (s.group g).tag ++ u8 (s.group g).required ++ u8 members.length ++
      u8 members.length ++ members.flatMap fun n => u8 n.val
    let dependents (n : LoadId) : Nat :=
      allLoads.countP fun k => s.inUse k && decide (.load n ∈ (s.config k).needs)
    let ok (c : Instr) (data : List Byte) : Prop :=
      exec c s = .next (s.answered c s.toPart { status := .ok, data := data })
    let range (c : Instr) (field : Byte) : Prop :=
      exec c s = .next (s.answered c s.toPart { status := .range, data := [field] })
    (s.canServe .identify = true → ∃ build : Nat, 1 ≤ build ∧ build ≤ 65535 ∧
      ok .identify ([8, 0x47, 0x4C, 0x46, 0x2D, 0x36, 0x34, 0x30, 0x38] ++ u16 build ++
        [64, 8, 8, 48, 16, 8, 4] ++ portRows s.svp.inEffect ++ u32 s.now)) ∧
    (s.canServe .readStatus = true → ok .readStatus status) ∧
    (s.canServe .readClock = true → ok .readClock (clockBytes ++ u8 (s.ncc.clock.minute / 1440) ++
      u16 (s.ncc.clock.minute % 1440) ++ u8 s.ncc.clock.second ++ u32 s.now)) ∧
    (s.canServe .readDemand = true → ok .readDemand demand) ∧
    (s.canServe .readAttention = true → ok .readAttention attention) ∧
    (∀ slot : Byte, s.canServe (.readPlan slot) = true →
      (slot = 0 → ok (.readPlan slot) (planRows s.cfg.active ++ flag s.ncc.armed ++ [1] ++ flag s.scheduled)) ∧
      (slot = 1 → ok (.readPlan slot) (planRows s.cfg.staged ++ flag s.ncc.armed ++ [0, 0])) ∧
      (1 < slot.toNat → range (.readPlan slot) 1)) ∧
    (∀ id : Half, s.canServe (.readHold id) = true →
      (∀ h, s.hold? id.toNat = some h → ok (.readHold id) (held h)) ∧
      (s.hold? id.toNat = none →
        exec (.readHold id) s = .next (s.answered (.readHold id) s.toPart { status := .notFound }))) ∧
    (∀ start : Byte, s.canServe (.listHolds start) = true →
      (start.toNat ≤ 47 → ok (.listHolds start)
        (u8 s.holds.length ++ [start] ++ ((s.holds.drop start.toNat).take 6).flatMap held)) ∧
      (47 < start.toNat → range (.listHolds start) 1)) ∧
    (∀ start : Byte, s.canServe (.readQueue start) = true →
      (start.toNat ≤ 63 → ok (.readQueue start)
        (u8 s.dgv.queue.length ++ [start] ++ (List.range 12).flatMap fun i => queued (start.toNat + i))) ∧
      (63 < start.toNat → range (.readQueue start) 1)) ∧
    (∀ station : Byte, s.canServe (.readStation station) = true →
      (∀ k : StationId, station.toNat = k.val → ok (.readStation station) (stationBytes k)) ∧
      (15 < station.toNat → range (.readStation station) 1)) ∧
    (∀ number : Byte, s.canServe (.readLoad number) = true →
      (∀ n : LoadId, number.toNat = n.val →
        exec (.readLoad number) s = .next (s.answered (.readLoad number)
          (s.setLoad n { s.load n with changed := false }) { status := .ok, data := loadBytes n })) ∧
      (63 < number.toNat → range (.readLoad number) 1)) ∧
    ∀ kind number : Byte, s.canServe (.readConfig kind number) = true →
      (∀ n : LoadId, kind = 0 → number.toNat = n.val → ok (.readConfig kind number)
        (rows (s.config n) ++ opt 1 u8 (s.depth n) ++ u8 (dependents n))) ∧
      (∀ g : GroupId, kind = 1 → number.toNat = g.val → ok (.readConfig kind number) (groupBytes g)) ∧
      (∀ z : ZoneId, kind = 2 → number.toNat = z.val → ok (.readConfig kind number)
        (text s.cfg.zones[z] ++ u8 (allLoads.countP fun n => s.inUse n && decide ((s.config n).zone = z)))) ∧
      (∀ p : PanelId, kind = 3 → number.toNat = p.val → ok (.readConfig kind number) (panelBytes p)) ∧
      (∀ l : CallId, kind = 4 → number.toNat = l.val → ok (.readConfig kind number) (callBytes l)) ∧
      (kind = 5 → number = 0 → ok (.readConfig kind number) meterBytes) ∧
      (kind = 6 → number = 0 → ok (.readConfig kind number) linkBytes) ∧
      (kind = 7 → number = 0 → ok (.readConfig kind number) (portRows s.cfg.port)) ∧
      (7 < kind.toNat → range (.readConfig kind number) 1) ∧
      ((kind = 0 ∧ 63 < number.toNat) ∨ ((kind = 1 ∨ kind = 2 ∨ kind = 3) ∧ 7 < number.toNat) ∨
        (kind = 4 ∧ 3 < number.toNat) ∨ ((kind = 5 ∨ kind = 6 ∨ kind = 7) ∧ 0 < number.toNat) →
        range (.readConfig kind number) 2)

/-! ## Clock, modes and plans (chapter 5) -/

/-- SET CLOCK refuses a minute or a second out of range. Otherwise the clock is valid at the value sent, a partial
interval begins, the cancelled-night mark goes, uptime and the holds stay, and the mode is moved as Table 5-4 gives
from the part u after these steps. In SETUP, and with no schedule in force, it stays. In class DAY, DAY computes its
next night, WIND_DOWN enters DAY without a mark, and NIGHT enters WAKE; in class WIND_DOWN, DAY and WIND_DOWN are in
WIND_DOWN to the classified night_start; in class NIGHT, DAY and WIND_DOWN enter NIGHT; NIGHT in the last two classes
stays with its target and lead computed again. A WAKE held or entered has the grace deadline of the latest
night_start's wake target, and one already past passes to DAY at once, LATE where wake work is left (R95, R107, R108,
R127, R128). That the boundary due in the old reading is dropped is the model's choice (log entry 11). -/
def Obligations.SetClock : Prop :=
  ∀ (s : State) (minute : Half) (second : Byte), s.canServe (.setClock minute second) = true →
    (10080 ≤ minute.toNat → exec (.setClock minute second) s =
      .next (s.answered (.setClock minute second) s.toPart { status := .range, data := [1] })) ∧
    (minute.toNat < 10080 → 60 ≤ second.toNat → exec (.setClock minute second) s =
      .next (s.answered (.setClock minute second) s.toPart { status := .range, data := [2] })) ∧
    (minute.toNat < 10080 → second.toNat < 60 →
      let u : Part := { s.toPart with
        ncc := { s.ncc with
          clock := { valid := true, minute := minute.toNat, second := second.toNat }
          intervalDue := false
          mode := match s.ncc.mode with | .day next _ => .day next none | m => m }
        dgv := { s.dgv with energy := 0, isPartial := true } }
      ∃ t : State, exec (.setClock minute second) s = .next t ∧
      t.replies 0x03 .ok (u8 t.mode.code) ∧
      t.ncc.clock = { valid := true, minute := minute.toNat, second := second.toNat } ∧
      t.ncc.uptime = s.ncc.uptime ∧ t.dgv.energy = 0 ∧ t.dgv.isPartial = true ∧
      t.holds = s.holds ∧ t.nextId = s.nextId ∧ t.flm = s.flm ∧ t.cfs = s.cfs ∧ t.power = s.power ∧
      (s.mode = .setup → t.ncc.mode = .setup) ∧
      (u.scheduled = false →
        (s.mode = .day → t.ncc.mode = .day none none) ∧
        (s.mode = .windDown ∨ s.mode = .night ∨ (s.mode = .wake ∧ s.wakeSettled) → t.ncc.mode = s.ncc.mode)) ∧
      (u.scheduled = true →
        (s.mode = .day → u.classify = .day → t.ncc.mode = .day (u.nextNight none) none) ∧
        (s.mode = .windDown → u.classify = .day → u.dayStays none → u.EntersDay t.toPart false none) ∧
        (s.mode = .day ∨ s.mode = .windDown → ∀ nightStart, u.classify = .windDown nightStart →
          t.ncc.mode = .windDown nightStart true) ∧
        (s.mode = .day ∨ s.mode = .windDown → ∀ w, u.classify = .night w → u.nightStays → u.EntersNight t.toPart) ∧
        (s.mode = .night → u.classify ≠ .day →
          let target := match u.classify with | .night w => some w | _ => u.wakeTarget
          (∀ b, wakeBeginFor target u.leadSeconds = some b → s.now < b) →
          t.ncc.mode = .night target (wakeBeginFor target u.leadSeconds) u.leadSeconds) ∧
        (∀ latest, u.latestWakeTarget = some latest →
          let grace : Int := latest.2 + 60 * (s.cfg.active.wakeGraceMin : Int)
          (s.mode = .night → u.classify = .day → s.LoadsOk → ∀ n : LoadId, s.sweeps n →
            ((s.now : Int) < grace → u.EntersWake t.toPart (some grace.toNat) n) ∧
            (grace ≤ (s.now : Int) → u.dayStays none → u.EntersDay t.toPart true none)) ∧
          (s.mode = .wake → s.wakeSettled →
            ((s.now : Int) < grace → t.ncc.mode = .wake (some grace.toNat)) ∧
            (grace ≤ (s.now : Int) → u.dayStays none → u.EntersDay t.toPart true none)))))

/-- SET MODE SETUP, taken in DAY, retires every hold, empties the queue, and brings every in-use load that is
not UNREACHABLE to LOCAL with no pending stop and no held request; MODE is raised, and HOLD_RETIRED where a
hold was live; the next id, the clock and the records stay (R27, R73, R88, R116, R126). That the result
gives the absent LATE flag as an optional field of two 00h bytes is the model's choice (log entry 13). -/
def Obligations.SetModeSetup : Prop :=
  ∀ (s : State) (next : Option NextNight) (mark : Option Nat),
    s.canServe (.setMode 0) = true → s.ncc.mode = .day next mark →
    ∃ t : State, exec (.setMode 0) s = .next t ∧ t.replies 0x05 .ok [0, 0, 0] ∧
      t.ncc.mode = .setup ∧ t.holds = [] ∧ t.nextId = s.nextId ∧ t.dgv.queue = [] ∧
      (∀ n : LoadId, t.dgv.startingOrigin[n] = none) ∧
      (∀ n : LoadId, s.inUse n = true →
        (t.load n).phase = (if (s.load n).phase = .unreachable then .unreachable else .localRun) ∧
        (t.load n).stopPending = false ∧ (t.load n).heldEnqueue = none ∧
        (t.load n).feedback = (s.load n).feedback ∧ (t.load n).startHistory = (s.load n).startHistory ∧
        (t.load n).startedAt = (s.load n).startedAt ∧ (t.load n).stoppedAt = (s.load n).stoppedAt) ∧
      t.atl.pending.getLsbD 5 = true ∧ t.atl.details[5] = some (.mode .setup false) ∧
      (s.holds ≠ [] → t.atl.pending.getLsbD 4 = true ∧ t.atl.details[4] = some (.holdRetired 0)) ∧
      t.cfg = s.cfg ∧ t.ncc.clock = s.ncc.clock ∧ t.ncc.uptime = s.ncc.uptime ∧ t.flm = s.flm ∧
      t.cfs = s.cfs ∧ t.power = s.power

/-- SET MODE refuses a byte that names no mode with RANGE, answers NO_CHANGE for the present mode, refuses the
changes Table 5-3 gives as WRONG_MODE, and refuses SETUP to DAY with the plant validation's failure; nothing
changes (R13, R14, R117). -/
def Obligations.SetModeRefusals : Prop :=
  ∀ (s : State) (b : Byte), s.canServe (.setMode b) = true →
    (4 < b.toNat → exec (.setMode b) s =
      .next (s.answered (.setMode b) s.toPart { status := .range, data := [1] })) ∧
    (b.toNat = s.mode.code → exec (.setMode b) s =
      .next (s.answered (.setMode b) s.toPart { status := .noChange, data := s.modeData })) ∧
    ((s.mode = .setup ∧ 2 ≤ b.toNat ∧ b.toNat ≤ 4) ∨ (s.mode = .day ∧ b = 4) ∨
      (s.mode = .windDown ∧ b = 0) ∨ (s.mode = .night ∧ b.toNat ≤ 2) ∨
      (s.mode = .wake ∧ (b = 0 ∨ b = 2 ∨ b = 3)) →
      exec (.setMode b) s = .next (s.answered (.setMode b) s.toPart { status := .wrongMode })) ∧
    (∀ f, s.mode = .setup → b = 1 → s.validate = some f → exec (.setMode b) s =
      .next (s.answered (.setMode b) s.toPart { status := .config, data := f.bytes }))

/-- SET MODE DAY in SETUP with a valid plant enters DAY, not LATE: an armed plan is swapped in, the next night is
computed, absent with no schedule in force, MODE is raised, and holds, stations and clock stay, and, the plant being
sound, so do the loads. Where the warning of that night has begun, DAY passes on to WIND_DOWN to its night_start
(R13, R112, R115, R125). That the result gives the LATE flag as an optional field, with its presence byte, is the
model's choice (log entry 13). -/
def Obligations.SetModeDay : Prop :=
  ∀ s : State, s.canServe (.setMode 1) = true → s.mode = .setup → s.validate = none →
    (s.dayStays none → ∃ t : State, exec (.setMode 1) s = .next t ∧ t.replies 0x05 .ok [1, 1, 0] ∧
      s.EntersDay t.toPart false none ∧ (s.scheduled = false → s.ncc.armed = false → t.ncc.mode = .day none none) ∧
      (s.PlantOk → t.loads = s.loads) ∧ t.holds = s.holds ∧ s.SameOutside t.toPart) ∧
    ∀ night, s.dayNight none = some night → night.warnStart ≤ s.now → s.now < night.nightStart →
      ∃ t : State, exec (.setMode 1) s = .next t ∧ t.replies 0x05 .ok [2, 0, 0] ∧
        s.EntersWarning t.toPart night.nightStart ∧ t.holds = s.holds ∧ s.SameOutside t.toPart

/-- Nights begun, cancelled and ended by SET MODE. WIND_DOWN in DAY holds a deadline warning_min away and moves every
LOCAL load to WATCH, or on to STOPPING where a KEEP_OFF stop was pending; with warning 0 it passes to NIGHT, as NIGHT
does from DAY and WIND_DOWN. DAY or WAKE in WIND_DOWN cancels that night: DAY keeps the deadline as the
cancelled-night mark, and passes on where the warning of a later night has begun. WAKE in NIGHT enters WAKE with the
grace deadline of the wake target held, or with none, and passes to DAY where the sweep finds nothing to start. DAY in
WAKE ends it, not LATE (R26, R115, R117 to R120, R123 to R125). That the results give the LATE flag as an optional
field, with its presence byte, is the model's choice (log entry 13). -/
def Obligations.WindDownByCommand : Prop :=
  ∀ (s : State) (b : Byte), s.canServe (.setMode b) = true →
    let enters (data : List Byte) (P : State → Prop) : Prop :=
      ∃ t : State, exec (.setMode b) s = .next t ∧ t.replies 0x05 .ok data ∧ P t ∧ t.holds = s.holds ∧
        s.SameOutside t.toPart
    let toDay (mark : Option Nat) : Prop :=
      (s.dayStays mark → enters [1, 1, 0] fun t => s.EntersDay t.toPart false mark) ∧
      ∀ night, s.dayNight mark = some night → night.warnStart ≤ s.now → s.now < night.nightStart →
        enters [2, 0, 0] fun t => s.EntersWarning t.toPart night.nightStart
    (s.mode = .day → b = 2 → 0 < s.cfg.active.warningMin →
      enters [2, 0, 0] fun t =>
        t.ncc.mode = .windDown (s.now + 60 * s.cfg.active.warningMin) false ∧ t.cfg = s.cfg ∧
        ∀ n : LoadId, (s.load n).phase = .localRun →
          (t.load n).phase = .watch ∨ ((s.load n).stopPending = true ∧ (t.load n).phase = .stopping s.now)) ∧
    ((b = 3 ∧ (s.mode = .day ∨ s.mode = .windDown)) ∨ (b = 2 ∧ s.mode = .day ∧ s.cfg.active.warningMin = 0) →
      s.nightStays → enters [3, 0, 0] fun t => s.EntersNight t.toPart) ∧
    (b = 1 ∨ b = 4 → ∀ deadline scheduled, s.ncc.mode = .windDown deadline scheduled → toDay (some deadline)) ∧
    (b = 4 → ∀ target wakeBegin lead, s.ncc.mode = .night target wakeBegin lead →
      (s.LoadsOk → ∀ n : LoadId, s.sweeps n → enters [4, 0, 0] fun t =>
        s.EntersWake t.toPart (target.map fun w => w.at_ + 60 * s.cfg.active.wakeGraceMin) n) ∧
      (s.sweepsNone → s.wakeWork = false → toDay none)) ∧
    (b = 1 → s.mode = .wake → toDay none)

/-- WRITE PLAN refuses an arm byte other than yes or no with field 0, a valid byte other than yes or no with field 1,
and a valid record with the field of its first row out of range, the span being field 14. Outside DAY, outside a SAVE
and in range, it replaces STAGED and sets the armed flag, cleared over an empty slot, without a swap; ARM PLAN answers
RANGE, NOT_FOUND and NO_CHANGE without effect, and outside DAY sets or clears the flag. Nothing else changes but D,
which is computed again (R92, R109, R110, R111, Table 5-1). That D as last computed is held is the model's choice (log
entry 11). -/
def Obligations.PlanWritesOutsideDay : Prop :=
  (∀ (s : State) (arm : Byte) (r : RawPlan), s.canServe (.writePlan arm r) = true → s.saving = false →
    let refused (row : Byte) : Prop := exec (.writePlan arm r) s =
      .next (s.answered (.writePlan arm r) s.toPart { status := .range, data := [row] })
    let tagOk : Bool := 1 ≤ r.tag.length ∧ r.tag.length ≤ 8 ∧ ∀ b ∈ r.tag, 0x20 ≤ b.toNat ∧ b.toNat ≤ 0x7E
    let span : Int := ((r.windDownTime.toNat : Int) - r.wakeTime.toNat) % 1440
    let rows : List (Byte × Bool) :=
      [(3, tagOk), (4, r.workDays.toNat < 128), (5, r.windDownTime.toNat ≤ 1439), (6, r.warningMin.toNat ≤ 60),
        (7, r.wakeTime.toNat ≤ 1439), (8, r.wakeGraceMin.toNat ≤ 120), (9, r.baseLeadS.toNat ≤ 3600),
        (10, 1 ≤ r.ceilingKw.toNat ∧ r.ceilingKw.toNat ≤ 60000), (11, r.intervalCeilingKw.toNat ≤ 60000),
        (12, r.nightPanels.toNat ≤ 1), (13, r.nightCalls.toNat ≤ 1), (14, (r.warningMin.toNat : Int) + 30 ≤ span)]
    (1 < arm.toNat → refused 0) ∧
    (arm.toNat ≤ 1 → 1 < r.valid.toNat → refused 1) ∧
    ∀ row, arm.toNat ≤ 1 → r.valid = 1 → (rows.find? fun x => !x.2) = some row → refused row.1) ∧
  ∀ s : State, s.mode ≠ .day → s.wakeSettled →
    (∀ (arm : Byte) (r : RawPlan) (plan : Plan) (a : Bool),
      s.canServe (.writePlan arm r) = true → s.saving = false →
      arm = (if a then 1 else 0) → checkPlan r = .ok plan →
      exec (.writePlan arm r) s = .next (s.answered (.writePlan arm r)
        { s.toPart with
          cfg := { s.cfg with staged := plan }, ncc := { s.ncc with armed := plan.valid && a }, dgv := s.demandTaken }
        { status := if s.cfg.staged = plan ∧ s.ncc.armed = (plan.valid && a) then .noChange else .ok
          data := [if plan.valid && a then 1 else 0, 0] })) ∧
    (∀ value : Byte, s.canServe (.armPlan value) = true →
      (1 < value.toNat → exec (.armPlan value) s =
        .next (s.answered (.armPlan value) s.toPart { status := .range, data := [1] })) ∧
      (value.toNat ≤ 1 → s.cfg.staged.valid = false → exec (.armPlan value) s =
        .next (s.answered (.armPlan value) s.toPart { status := .notFound })) ∧
      (s.cfg.staged.valid = true → value = (if s.ncc.armed then 1 else 0) → exec (.armPlan value) s =
        .next (s.answered (.armPlan value) s.toPart { status := .noChange, data := [value, 0] })) ∧
      (s.cfg.staged.valid = true → value = (if s.ncc.armed then 0 else 1) → exec (.armPlan value) s =
        .next (s.answered (.armPlan value)
          { s.toPart with ncc := { s.ncc with armed := !s.ncc.armed }, dgv := s.demandTaken }
          { status := .ok, data := [value, 0] })))

/-- In DAY a plan that WRITE PLAN or ARM PLAN leaves armed is swapped at once: the slots are exchanged, the armed flag
is clear, both ceilings take the new ACTIVE plan's values with source PLAN, the next night is computed from it, and
PLAN is raised with its number; where the warning of that night has begun, DAY passes on to WIND_DOWN. A WRITE PLAN
that leaves the flag clear, by its arm value or over an empty slot, and an ARM PLAN that clears it, swap nothing; D is
computed again (R92, R93, R110, R111, R112, R115). That D as last computed is held is the model's choice (log entry
11). -/
def Obligations.ArmedPlanSwapsInDay : Prop :=
  ∀ (s : State) (next : Option NextNight) (mark : Option Nat), s.ncc.mode = .day next mark →
    let swapped (c : Instr) (plan : Plan) (code : Byte) (status : Status) : Prop :=
      let u : Part := { s.toPart with cfg := { s.cfg with staged := plan }, ncc := { s.ncc with armed := true } }
      ∃ t : State, exec c s = .next t ∧ t.replies code status [0, 1] ∧
        t.cfg = { s.cfg with active := plan, staged := s.cfg.active } ∧ t.ncc.armed = false ∧
        t.dgv.ceilingI = { value := plan.ceilingKw, source := .plan } ∧
        t.dgv.ceilingD = { value := plan.intervalCeilingKw, source := .plan } ∧
        t.atl.pending.getLsbD 6 = true ∧ t.atl.details[6] = some (.plan plan.planNo) ∧
        (plan.ceilingKw ≠ s.dgv.ceilingI.value ∨ plan.intervalCeilingKw ≠ s.dgv.ceilingD.value →
          t.dgv.scanDue = true) ∧
        (u.dayStays mark → t.ncc.mode = .day (u.dayNight mark) mark ∧ t.ncc.late = s.ncc.late ∧
          t.loads = s.loads ∧ t.dgv.queue = s.dgv.queue) ∧
        (∀ night, u.dayNight mark = some night → night.warnStart ≤ s.now → s.now < night.nightStart →
          t.ncc.mode = .windDown night.nightStart true ∧ t.modeRaised .windDown false) ∧
        t.holds = s.holds ∧ t.nextId = s.nextId ∧ s.SameOutside t.toPart
    (∀ (arm : Byte) (r : RawPlan) (plan : Plan), s.canServe (.writePlan arm r) = true → s.saving = false →
      checkPlan r = .ok plan →
      (arm = 1 → plan.valid = true → swapped (.writePlan arm r) plan 0x10
        (if s.cfg.staged = plan ∧ s.ncc.armed = true then .noChange else .ok)) ∧
      (arm = 0 ∨ (arm = 1 ∧ plan.valid = false) → exec (.writePlan arm r) s = .next (s.answered (.writePlan arm r)
        { s.toPart with
          cfg := { s.cfg with staged := plan }, ncc := { s.ncc with armed := false }, dgv := s.demandTaken }
        { status := if s.cfg.staged = plan ∧ s.ncc.armed = false then .noChange else .ok, data := [0, 0] }))) ∧
    (s.canServe (.armPlan 1) = true → s.cfg.staged.valid = true → s.ncc.armed = false →
      swapped (.armPlan 1) s.cfg.staged 0x12 .ok) ∧
    (s.canServe (.armPlan 0) = true → s.cfg.staged.valid = true → s.ncc.armed = true →
      exec (.armPlan 0) s = .next (s.answered (.armPlan 0)
        { s.toPart with ncc := { s.ncc with armed := false }, dgv := s.demandTaken }
        { status := .ok, data := [0, 0] }))

/-- SET CEILING: 0 takes the plan's value, 1 to 60,000 the value sent, more takes 60,000; the status tells a
clamp before a change; a change of a value starts a scan. SET ATTENTION ENABLE replaces the enable set; pending
flags and details stay. Neither changes anything else (R93, R194). -/
def Obligations.SetCeilingAndEnable : Prop :=
  (∀ (s : State) (i d : Half), s.canServe (.setCeiling i d) = true →
    let plan : Nat × Nat :=
      if s.cfg.active.valid then (s.cfg.active.ceilingKw, s.cfg.active.intervalCeilingKw) else (60000, 0)
    let one (v p : Nat) : Ceiling :=
      if v = 0 then { value := p, source := .plan } else { value := min 60000 v, source := .override }
    let ci := one i.toNat plan.1
    let cd := one d.toNat plan.2
    let moved : Bool := ci.value ≠ s.dgv.ceilingI.value ∨ cd.value ≠ s.dgv.ceilingD.value
    exec (.setCeiling i d) s = .next (s.answered (.setCeiling i d)
      { s.toPart with dgv :=
        { s.dgv with ceilingI := ci, ceilingD := cd, scanDue := s.dgv.scanDue || moved } }
      { status :=
          if 60000 < i.toNat ∨ 60000 < d.toNat then .clamped
          else if ci = s.dgv.ceilingI ∧ cd = s.dgv.ceilingD then .noChange else .ok
        data := u16 ci.value ++ u8 ci.source.code ++ u16 cd.value ++ u8 cd.source.code })) ∧
  ∀ (s : State) (causes : Byte), s.canServe (.setAttentionEnable causes) = true →
    exec (.setAttentionEnable causes) s = .next (s.answered (.setAttentionEnable causes)
      { s.toPart with cfg := { s.cfg with enable := causes } }
      { status := if causes = s.cfg.enable then .noChange else .ok
        data := [causes, s.atl.pending &&& causes] })

/-! ## Holds (chapter 3) -/

/-- A PLACE HOLD that passes every check of Table 3-2 and matches no live hold creates a hold with the next
id, the expiry of R54 and the present uptime minute; the table gains that record alone and the next id is one
no live hold has; and, the Load Table being sound, the loads and the group that it newly covers are asked for what
FollowsPlacement says: enqueues and floor requests under KEEP_ON, stops and withdrawals under KEEP_OFF. Uptime,
records, stations and store stay (R34, R50, R53, R54, R60 to R63, R83, R84). -/
def Obligations.PlaceHoldCreates : Prop :=
  ∀ (s : State) (kind targetKind target : Byte) (duration : Half) (reason : Byte) (k : HoldKind) (x : Target),
    s.canServe (.placeHold kind targetKind target duration reason) = true → s.mode ≠ .setup →
    checkTarget kind targetKind target = .ok (k, x) → s.targetEmpty x = false →
    s.matching k x .supervisor = none → s.holds.length < 48 → s.conflicts k x = false →
    let d := duration.toNat
    let limit := match k with | .keepOn => 900 | .keepOff => 10080
    let clamped : Bool := limit < d ∨ (d = 0 ∧ k = .keepOn)
    let expiry : Option Nat :=
      if d = 0 then (match k with | .keepOn => some (s.minute + 1) | .keepOff => none)
      else some (s.minute + min limit d)
    let h : Hold :=
      { id := s.nextId, kind := k, target := x, owner := .supervisor, expiry := expiry
        placedAt := s.minute, renewals := 0, reason := reason.toNat }
    ∃ t : State, exec (.placeHold kind targetKind target duration reason) s = .next t ∧
      t.replies 0x20 (if clamped then .clamped else .ok)
        (u16 s.nextId ++ opt 4 u32 expiry ++ opt 2 u16 (expiry.map fun e => e - s.minute) ++
          flag false ++ flag clamped) ∧
      t.holds = insertHold h s.holds ∧
      (s.HoldsOk → 1 ≤ t.nextId ∧ t.nextId ≤ 65535 ∧ ∀ h' ∈ t.holds, h'.id ≠ t.nextId) ∧
      (s.LoadsOk → s.FollowsPlacement t.toPart k x) ∧
      s.SameOutside t.toPart

/-- A placement that Table 3-2 refuses changes nothing: in SETUP, for a kind, a target kind or a target number out of
range, for a target that names nothing, with 48 live holds, and where it contradicts live holds, in that order, a match
being renewed before the last two (R53, R55, R178). -/
def Obligations.PlaceHoldRefusals : Prop :=
  ∀ (s : State) (kind targetKind target : Byte) (duration : Half) (reason : Byte),
    let c : Instr := .placeHold kind targetKind target duration reason
    s.canServe c = true →
    (s.mode = .setup → exec c s = .next (s.answered c s.toPart { status := .wrongMode })) ∧
    (s.mode ≠ .setup → 1 < kind.toNat →
      exec c s = .next (s.answered c s.toPart { status := .range, data := [1] })) ∧
    (s.mode ≠ .setup → kind = 1 → targetKind = 2 →
      exec c s = .next (s.answered c s.toPart { status := .range, data := [2] })) ∧
    (s.mode ≠ .setup → kind.toNat ≤ 1 → 2 < targetKind.toNat →
      exec c s = .next (s.answered c s.toPart { status := .range, data := [2] })) ∧
    (s.mode ≠ .setup → kind.toNat ≤ 1 →
      (targetKind = 0 ∧ 63 < target.toNat) ∨ (targetKind = 1 ∧ 7 < target.toNat) ∨
        (targetKind = 2 ∧ kind = 0 ∧ 7 < target.toNat) →
      exec c s = .next (s.answered c s.toPart { status := .range, data := [3] })) ∧
    ∀ (k : HoldKind) (x : Target), s.mode ≠ .setup → checkTarget kind targetKind target = .ok (k, x) →
      (s.targetEmpty x = true →
        exec c s = .next (s.answered c s.toPart { status := .range, data := [3] })) ∧
      (s.targetEmpty x = false → s.matching k x .supervisor = none → 48 ≤ s.holds.length →
        exec c s = .next (s.answered c s.toPart { status := .full })) ∧
      (s.targetEmpty x = false → s.matching k x .supervisor = none → s.holds.length < 48 →
        s.conflicts k x = true → exec c s = .next (s.answered c s.toPart { status := .conflict }))

/-- A renewal, by PLACE HOLD of a live match or by RENEW HOLD of a supervisor hold, gives that one hold a new
expiry and one renewal more, up to 255, and by PLACE HOLD the request's reason. It changes nothing else, but that at
the end of a PLACE HOLD D is computed again. RENEW HOLD refuses SETUP, an id no live hold has and a hold of another
owner (R54, R56, R64, R92). That D as last computed is held is the model's choice (log entry 11). -/
def Obligations.Renewals : Prop :=
  (∀ (s : State) (kind targetKind target : Byte) (duration : Half) (reason : Byte) (k : HoldKind) (x : Target)
      (h : Hold),
    let c : Instr := .placeHold kind targetKind target duration reason
    s.canServe c = true → s.mode ≠ .setup → checkTarget kind targetKind target = .ok (k, x) →
    s.targetEmpty x = false → s.matching k x .supervisor = some h → s.HoldsOk → s.wakeSettled →
    let e := expiryFor k duration.toNat s.minute
    let h' : Hold := { h with expiry := e.1, renewals := min 255 (h.renewals + 1), reason := reason.toNat }
    exec c s = .next (s.answered c
      { s.toPart with
        holds := s.holds.map fun y => if y.id = h.id then h' else y
        dgv := s.demandTaken }
      { status := .renewed, data := s.placedData h' true e.2 })) ∧
  ∀ (s : State) (id duration : Half),
    let c : Instr := .renewHold id duration
    s.canServe c = true →
    (s.mode = .setup → exec c s = .next (s.answered c s.toPart { status := .wrongMode })) ∧
    (s.mode ≠ .setup → s.hold? id.toNat = none →
      exec c s = .next (s.answered c s.toPart { status := .notFound })) ∧
    ∀ h, s.mode ≠ .setup → s.hold? id.toNat = some h →
      (h.owner ≠ .supervisor → exec c s = .next (s.answered c s.toPart { status := .notOwner })) ∧
      (h.owner = .supervisor →
        let e := expiryFor h.kind duration.toNat s.minute
        let h' : Hold := { h with expiry := e.1, renewals := min 255 (h.renewals + 1) }
        exec c s = .next (s.answered c
          { s.toPart with holds := s.holds.map fun y => if y.id = h.id then h' else y }
          { status := if e.2 then .clamped else .ok, data := s.renewedData h' }))

/-- RELEASE HOLD refuses a force byte other than clear or set, SETUP, an id no live hold has, and a hold of
another owner without force; otherwise that hold is gone, answered RELEASED or FORCED, no attention cause
HOLD_RETIRED is raised, and every other hold stays; and, the tables being sound, what the hold asked for alone is given
up as FollowsRetirement says: the pending stop of a load no longer kept off, the entry of a load no longer kept on, the
idle stop it forbade, and the floor asked for again (R30, R62, R65, R67, R70 to R72, R86, R179). -/
def Obligations.ReleaseHold : Prop :=
  ∀ (s : State) (id : Half) (force : Byte),
    let c : Instr := .releaseHold id force
    s.canServe c = true →
    (1 < force.toNat → exec c s = .next (s.answered c s.toPart { status := .range, data := [2] })) ∧
    (force.toNat ≤ 1 → s.mode = .setup →
      exec c s = .next (s.answered c s.toPart { status := .wrongMode })) ∧
    (force.toNat ≤ 1 → s.mode ≠ .setup → s.hold? id.toNat = none →
      exec c s = .next (s.answered c s.toPart { status := .notFound })) ∧
    ∀ h, force.toNat ≤ 1 → s.mode ≠ .setup → s.hold? id.toNat = some h →
      (h.owner ≠ .supervisor → force = 0 →
        exec c s = .next (s.answered c s.toPart { status := .notOwner })) ∧
      (h.owner = .supervisor ∨ force = 1 → ∃ t : State,
        exec c s = .next t ∧
        t.replies 0x22 .ok (u16 h.id ++ [if h.owner = .supervisor then 0 else 1]) ∧
        t.holds = (s.holds.filter fun y => y.id ≠ h.id) ∧ t.nextId = s.nextId ∧
        t.atl.pending.getLsbD 4 = s.atl.pending.getLsbD 4 ∧ t.atl.details[4] = s.atl.details[4] ∧
        (s.HoldsOk → s.LoadsOk → s.ClockOk → s.FollowsRetirement t.toPart h) ∧
        s.SameOutside t.toPart)

/-- Every step keeps the Hold Table sound: at most 48 holds, ids ascending and in range, the next id free, no
two holds alike, groups held on only, and none in SETUP (R49, R50, R53, R56, R73). -/
def Obligations.HoldTableStaysSound : Prop :=
  ∀ s t : State, s.HoldsOk → step s = .next t → t.HoldsOk

/-- Every step keeps the live holds free of contradiction: what a KEEP_ON needs is never kept off below its
required counts (R58, R59). -/
def Obligations.HoldsNeverContradict : Prop :=
  ∀ s t : State, s.HoldsOk → s.HoldsAgree → step s = .next t → t.HoldsAgree

/-! ## Loads (chapters 2 and 4) -/

/-- START LOAD. An OFF load that is not kept off and has no needs is QUEUED at the back of its key with origin
COMMAND, and a scan is started. One whose only need is on an OFF load that can be started, or on a group that such a
load would bring to its required count, pulls that load: it is QUEUED right before, with origin PULL and its
puller's key. One with a need that cannot be met, on a load UNUSED, in FAULT, UNREACHABLE, or kept off and not
serving, is back in OFF at once with START_FAILED, and a WATCH load that it needs directly, in no group, is STOPPING
where its idle stop is due, the entry that came and went being a change of its dependent's state (R29, R30). A
QUEUED load keeps its entry, an origin WAKE or PULL becoming COMMAND, and is answered NO_CHANGE, as are a LOCAL,
WATCH or STARTING one. A kept off load is answered KEPT_OFF, one in another state WRONG_STATE and a number above 63
RANGE, without effect (R43, R79 to R82, R85). That the result of the load back in OFF gives its origin as FFh is the
model's choice (log entry 13), and so is that the checks are taken at the close of the command (log entry 12). -/
def Obligations.StartLoad : Prop :=
  ∀ (s : State) (b : Byte), s.canServe (.startLoad b) = true →
    (63 < b.toNat → exec (.startLoad b) s =
      .next (s.answered (.startLoad b) s.toPart { status := .range, data := [1] })) ∧
    ∀ n : LoadId, b.toNat = n.val →
      let own : Entry := { load := n, origin := .command, key := (s.config n).wakePriority, seq := s.dgv.nextSeq }
      let front := s.dgv.queue.takeWhile fun x => x.key ≤ own.key
      let back := s.dgv.queue.dropWhile fun x => x.key ≤ own.key
      let startable (j : LoadId) : Prop :=
        s.inUse j = true ∧ (s.load j).phase = .off ∧ s.offCount j = 0 ∧ (s.config j).needs = [] ∧
        j ∉ s.queuedLoads
      ((s.load n).phase = .off → s.offCount n = 0 → (s.config n).needs = [] → s.mode ≠ .setup →
        n ∉ s.queuedLoads → s.wakeSettled →
        ∃ t : State, exec (.startLoad b) s = .next t ∧ t.replies 0x31 .ok [b, 5, 3] ∧
          t.dgv.queue = front ++ own :: back ∧
          t.dgv.nextSeq = s.dgv.nextSeq + 1 ∧ t.dgv.scanDue = true ∧
          t.load n = { s.load n with phase := .queued, changed := true } ∧
          t.holds = s.holds ∧ t.ncc = s.ncc ∧ t.cfg = s.cfg ∧ s.SameOutside t.toPart) ∧
      ((s.load n).phase = .off → s.offCount n = 0 → s.mode ≠ .setup → n ∉ s.queuedLoads → s.wakeSettled →
        ∀ j : LoadId, j ≠ n → startable j →
        (s.config n).needs = [.load j] ∨
          (∃ g, (s.config n).needs = [.group g] ∧ s.memberOf n g = false ∧ s.memberOf j g = true ∧
            (s.members g).countP s.up + 1 = (s.group g).required ∧
            ∀ k ∈ s.members g, (s.load k).phase ≠ .queued ∧ (s.load k).phase ≠ .starting ∧
              (k < j → (s.load k).phase ≠ .off)) →
        ∃ t : State, exec (.startLoad b) s = .next t ∧ t.replies 0x31 .ok [b, 5, 3] ∧
          t.dgv.queue =
            front ++ { load := j, origin := .pull n, key := own.key, seq := own.seq + 1 } :: own :: back ∧
          t.dgv.nextSeq = s.dgv.nextSeq + 2 ∧ t.dgv.scanDue = true ∧
          t.load n = { s.load n with phase := .queued, changed := true } ∧
          t.load j = { s.load j with phase := .queued, changed := true } ∧
          t.holds = s.holds ∧ t.ncc = s.ncc ∧ t.cfg = s.cfg ∧ s.SameOutside t.toPart) ∧
      ((s.load n).phase = .off → s.offCount n = 0 → s.mode ≠ .setup → s.ClockOk →
        ∀ j : LoadId, .load j ∈ (s.config n).needs →
        (s.load j).phase = .unused ∨ (s.load j).phase.isFault = true ∨ (s.load j).phase = .unreachable ∨
          (0 < s.offCount j ∧ ((s.load j).phase.running = false ∨ (s.load j).feedback = false)) →
        ∃ t : State, exec (.startLoad b) s = .next t ∧ t.replies 0x31 .ok [b, 4, 0xFF] ∧
          (t.load n).phase = .off ∧ n ∉ t.queuedLoads ∧ t.atl.pending.getLsbD 3 = true ∧
          t.atl.details[3] = some (.startFailed n .needLost) ∧
          (s.LoadsOk → ∀ x : LoadId, .load x ∈ (s.config n).needs → s.groupOf x = none → s.idleStopDue x = true →
            (t.load x).phase = .stopping s.now) ∧
          t.holds = s.holds ∧ s.SameOutside t.toPart) ∧
      ((s.load n).phase = .queued → s.mode ≠ .setup → s.ClockOk → ∀ e, s.entry? n = some e →
        let origin := match e.origin with | .wake | .pull _ => .command | o => o
        ∃ t : State, exec (.startLoad b) s = .next t ∧ t.replies 0x31 .noChange [b, 5, BitVec.ofNat 8 origin.code] ∧
          t.dgv.queue = (s.dgv.queue.map fun x => if x.load = n then { x with origin := origin } else x) ∧
          (s.mode ≠ .wake → t.loads = s.loads ∧ t.ncc = s.ncc ∧ t.cfg = s.cfg) ∧
          t.holds = s.holds ∧ s.SameOutside t.toPart) ∧
      ((s.load n).phase = .off → 0 < s.offCount n → exec (.startLoad b) s =
        .next (s.answered (.startLoad b) s.toPart { status := .keptOff })) ∧
      ((s.load n).phase = .localRun ∨ (s.load n).phase = .watch ∨ (s.load n).phase = .starting →
        exec (.startLoad b) s =
          .next (s.answered (.startLoad b) s.toPart { status := .noChange, data := s.startData n })) ∧
      ((s.load n).phase.isStopping = true ∨ (s.load n).phase = .override ∨ (s.load n).phase.isFault = true ∨
        (s.load n).phase = .unreachable ∨ (s.load n).phase = .unused →
        exec (.startLoad b) s = .next (s.answered (.startLoad b) s.toPart { status := .wrongState }))

/-- STOP LOAD, the rows of Table 2-3 in order: a number above 63, SETUP, a state other than LOCAL, WATCH and
QUEUED, a load kept on, one a dependent or its group's floor needs, one on a station not ONLINE, and one whose
min_run_s has not elapsed are refused without effect; otherwise a running load enters STOPPING, and a QUEUED one is
withdrawn to OFF with START_FAILED, which ends a WAKE that has no work left (R31, R42, R85, R124). -/
def Obligations.StopLoad : Prop :=
  ∀ (s : State) (b : Byte), s.canServe (.stopLoad b) = true →
    let refused (a : Answer) : Prop := exec (.stopLoad b) s = .next (s.answered (.stopLoad b) s.toPart a)
    (63 < b.toNat → refused { status := .range, data := [1] }) ∧
    ∀ n : LoadId, b.toNat = n.val →
      let running : Bool := (s.load n).phase = .localRun ∨ (s.load n).phase = .watch
      (s.mode = .setup → refused { status := .wrongMode }) ∧
      (s.mode ≠ .setup → running = false → (s.load n).phase ≠ .queued → refused { status := .wrongState }) ∧
      (s.mode ≠ .setup → running = true ∨ (s.load n).phase = .queued →
        (0 < s.onCount n → refused { status := .kept }) ∧
        (s.onCount n = 0 →
          (s.dependentsAllowStop n = false ∨ (running = true ∧ s.stationOnline n = false) →
            refused { status := .dependent }) ∧
          (s.dependentsAllowStop n = true →
            (running = true → s.stationOnline n = true → s.minRunMet n = false →
              refused { status := .tooSoon }) ∧
            (running = true → s.stationOnline n = true → s.minRunMet n = true → n ∉ s.queuedLoads → ∃ t : State,
              exec (.stopLoad b) s = .next t ∧ t.replies 0x32 .ok [b, 3] ∧
              (t.load n).phase = .stopping s.now ∧ (t.load n).stopPending = false ∧
              (t.load n).changed = true ∧ t.holds = s.holds ∧ s.SameOutside t.toPart) ∧
            ((s.load n).phase = .queued → s.mode ≠ .wake ∨ s.ClockOk → ∃ t : State,
              exec (.stopLoad b) s = .next t ∧ t.replies 0x32 .ok [b, 4] ∧ t.wakeSettled ∧
              (t.load n).phase = .off ∧ n ∉ t.queuedLoads ∧
              t.atl.pending.getLsbD 3 = true ∧ t.atl.details[3] = some (.startFailed n .stop) ∧
              t.holds = s.holds ∧ s.SameOutside t.toPart))))

/-- CLEAR FAULT takes a load in FAULT(NO_START) to OFF, from where it may at once be queued again, and sets its
stopped_at; FAULT(NO_STOP) is answered WRONG_STATE and any other state NO_CHANGE, without effect (R32, R41). -/
def Obligations.ClearFault : Prop :=
  ∀ (s : State) (b : Byte), s.canServe (.clearFault b) = true →
    (63 < b.toNat → exec (.clearFault b) s =
      .next (s.answered (.clearFault b) s.toPart { status := .range, data := [1] })) ∧
    ∀ n : LoadId, b.toNat = n.val →
      ((s.load n).phase = .fault .noStart → ∃ t : State,
        exec (.clearFault b) s = .next t ∧ t.replies 0x33 .ok (b :: u8 (t.load n).phase.code) ∧
        ((t.load n).phase = .off ∨ (t.load n).phase = .queued) ∧
        (t.load n).stoppedAt = some s.now ∧ (t.load n).changed = true ∧ t.holds = s.holds ∧
        s.SameOutside t.toPart) ∧
      ((s.load n).phase = .fault .noStop → exec (.clearFault b) s =
        .next (s.answered (.clearFault b) s.toPart { status := .wrongState })) ∧
      ((s.load n).phase.isFault = false → exec (.clearFault b) s =
        .next (s.answered (.clearFault b) s.toPart { status := .noChange, data := s.stateData n }))

/-- Every step keeps the Load Table, the Start Queue and the stations sound together (R20, R27, R45, R78, R79,
R101, R132, R138 to R141, R145). -/
def Obligations.PlantStaysSound : Prop :=
  ∀ s t : State, s.PlantOk → step s = .next t → t.PlantOk

/-- D is the sum of what the 64 loads contribute (R92). A load in its inrush window contributes its running demand and the falling rest of its inrush, rounded up:
inrush_kw at the first second, never more a second later, and from the window's end the running demand while
up and nothing otherwise. A load with no started_at has no window (R91). -/
def Obligations.InrushContribution : Prop :=
  (∀ s : Part, s.demandNow = Finset.univ.sum fun n : LoadId => s.contribution n) ∧
  (∀ (s : Part) (n : LoadId) (a : Nat), (s.load n).startedAt = some a →
    (s.now - a < (s.config n).accelS →
      s.contribution n = (s.config n).runKw +
        (((s.config n).inrushKw - (s.config n).runKw) * ((s.config n).accelS - (s.now - a)) +
          ((s.config n).accelS - 1)) / (s.config n).accelS) ∧
    ((s.config n).accelS ≤ s.now - a →
      s.contribution n = if s.up n then (s.config n).runKw else 0)) ∧
  (∀ (s : Part) (n : LoadId), (s.load n).startedAt = none →
    s.contribution n = if s.up n then (s.config n).runKw else 0) ∧
  ∀ (c : LoadConfig) (t : Nat), c.runKw ≤ c.inrushKw → 0 < c.accelS →
    windowDemand c 0 = c.inrushKw ∧
    windowDemand c (t + 1) ≤ windowDemand c t ∧ c.runKw ≤ windowDemand c t

/-- A scan that is due walks the queue from its head and passes over every entry that waits, with the wait of the
first of its load's own conditions: NEEDS, MIN_OFF, BUDGET or LINK. The first ready entry is withdrawn OVERSIZE where
its inrush exceeds the ceiling; is admitted where both tests pass: the entry leaves the queue, and the load is STARTING
from the present second, its origin kept and one start more in its history; and otherwise waits DEMAND, and the scan
ends with the entries behind it as they were. The instantaneous test is that D and the load's inrush_kw together do not
exceed C_i. The interval test is passed where the meter is not in use, C_d is 0, the clock is invalid or the interval
is partial, and otherwise where P, (36 E + 10 (D + run_kw) (L - t)) / (10 L) rounded up, does not exceed C_d (R37, R89,
R90, R94, R97, R99 to R101). That t is 0 in the second of a boundary still to be taken is the model's choice (log entry
25). -/
def Obligations.ScanAdmitsReadyHead : Prop :=
  ∀ (s : State) (front : List Entry) (e : Entry) (rest : List Entry),
    s.working = true → s.dgv.scanDue = true → s.dgv.queue = front ++ e :: rest →
    let wait (n : LoadId) : Wait :=
      if s.needsSatisfied n = false then .needs
      else if s.inMinOff n = true then .minOff
      else if (s.config n).startsPerHour ≤ (s.load n).startHistory.length then .budget
      else if s.stationOnline n = false then .link else .none
    let inrush := (s.config e.load).inrushKw
    let l := s.cfg.meter.intervalMin * 60
    let t := s.ncc.clock.minute % s.cfg.meter.intervalMin * 60 + s.ncc.clock.second
    let p := (36 * s.dgv.energy + 10 * (s.demandNow + (s.config e.load).runKw) * (l - t) + (10 * l - 1)) / (10 * l)
    let intervalTest : Prop :=
      s.cfg.meter.inUse = true → 0 < s.dgv.ceilingD.value → s.ncc.clock.valid = true → s.dgv.isPartial = false →
        p ≤ s.dgv.ceilingD.value
    (∀ x ∈ front, wait x.load ≠ .none) →
    (wait e.load = .none → s.demandNow + inrush ≤ s.dgv.ceilingI.value → intervalTest →
      ∃ t : State, exec .admissionScan s = .next t ∧
        (t.load e.load).phase = .starting ∧ (t.load e.load).startedAt = some s.now ∧
        (t.load e.load).startHistory = (s.load e.load).startHistory ++ [s.now] ∧
        t.dgv.startingOrigin[e.load] = some e.origin ∧ e.load ∉ t.queuedLoads ∧
        t.holds = s.holds ∧ s.SameOutside t.toPart) ∧
    (s.LoadsOk → wait e.load = .none → s.dgv.ceilingI.value < inrush → s.ClockOk →
      ∃ t : State, exec .admissionScan s = .next t ∧
        (t.load e.load).phase = .off ∧ e.load ∉ t.queuedLoads ∧ t.atl.pending.getLsbD 3 = true ∧
        (rest = [] → t.atl.details[3] = some (.startFailed e.load .oversize)) ∧
        t.holds = s.holds ∧ s.SameOutside t.toPart) ∧
    (s.LoadsOk → s.wakeSettled → wait e.load = .none → inrush ≤ s.dgv.ceilingI.value →
      s.dgv.ceilingI.value < s.demandNow + inrush ∨ ¬intervalTest →
      ∃ t : State, exec .admissionScan s = .next t ∧
        t.dgv.queue = (front.map fun x => { x with wait := wait x.load }) ++ { e with wait := .demand } :: rest ∧
        t.loads = s.loads ∧ t.ncc = s.ncc ∧ t.atl = s.atl ∧ t.cfg = s.cfg ∧ t.holds = s.holds ∧
        s.SameOutside t.toPart) ∧
    (s.LoadsOk → wait e.load ≠ .none → (∀ p, e.origin ≠ .pull p) →
      ∃ t : State, exec .admissionScan s = .next t ∧ t.entry? e.load = some { e with wait := wait e.load } ∧
        (t.load e.load).phase = .queued ∧ t.holds = s.holds ∧ s.SameOutside t.toPart)

/-- Whatever a scan admits was queued, ready and within its starts per hour; and once it has admitted a load
the estimated demand does not exceed the instantaneous ceiling (R90, R92, R99, R100). -/
def Obligations.ScanAdmitsWithinCeiling : Prop :=
  ∀ s t : State, exec .admissionScan s = .next t →
    (∀ n : LoadId, (s.load n).phase ≠ .starting → (t.load n).phase = .starting →
      n ∈ s.queuedLoads ∧ s.needsSatisfied n = true ∧ s.inMinOff n = false ∧
      (s.load n).startHistory.length < (s.config n).startsPerHour ∧ s.stationOnline n = true) ∧
    ((∀ n : LoadId, (s.config n).runKw ≤ (s.config n).inrushKw) →
      (∃ n : LoadId, (s.load n).phase ≠ .starting ∧ (t.load n).phase = .starting) →
      t.demandNow ≤ s.dgv.ceilingI.value)

/-! ## Field link (chapter 6) -/

/-- RECOVER STATION refuses a number above 15, a station outside the polled set and one not OFFLINE, answers
NO_CHANGE where recovery is automatic or armed already, and otherwise arms the station with good_run 0;
nothing else changes (R142). -/
def Obligations.RecoverStation : Prop :=
  ∀ (s : State) (b : Byte), s.canServe (.recoverStation b) = true →
    let refused (a : Answer) : Prop :=
      exec (.recoverStation b) s = .next (s.answered (.recoverStation b) s.toPart a)
    (15 < b.toNat → refused { status := .range, data := [1] }) ∧
    ∀ k : StationId, b.toNat = k.val →
      (s.polled k = false → refused { status := .notFound }) ∧
      (s.polled k = true → (s.station k).grade ≠ .offline → refused { status := .wrongState }) ∧
      (s.polled k = true → (s.station k).grade = .offline →
        ((s.cfg.link.stations[k]).recovery = .auto ∨ (s.station k).forcedAuto = true ∨
            (s.station k).recoverArmed = true →
          refused { status := .noChange, data := [2, if (s.station k).recoverArmed then 1 else 0] }) ∧
        ((s.cfg.link.stations[k]).recovery = .manual → (s.station k).forcedAuto = false →
            (s.station k).recoverArmed = false →
          exec (.recoverStation b) s = .next (s.answered (.recoverStation b)
            (s.setStation k { s.station k with recoverArmed := true, goodRun := 0 })
            { status := .ok, data := [2, 1] })))

/-- LINK HALT in RUN voids the transaction, takes every polled station OFFLINE with automatic recovery, raising
STATION for each that was not OFFLINE, and, the plant being sound, leaves every in-use load UNREACHABLE and the queue
empty; the holds stay. In HALT it is answered NO_CHANGE (R143, R145). That the stations are taken in ascending number,
so that the detail left is the highest of them, is the model's choice (log entry 12). -/
def Obligations.LinkHalt : Prop :=
  ∀ s : State, s.canServe .linkHalt = true →
    (s.flm.link = .halt →
      exec .linkHalt s = .next (s.answered .linkHalt s.toPart { status := .noChange, data := [1] })) ∧
    (s.flm.link = .run →
      let newly := allStations.filter fun k => s.polled k && (s.station k).grade != .offline
      ∃ t : State, exec .linkHalt s = .next t ∧ t.replies 0x52 .ok [1] ∧
      t.flm.link = .halt ∧ t.flm.inFlight = none ∧ t.flm.toPoll = [] ∧
      (∀ k : StationId, s.polled k = true →
        t.station k = { s.station k with
          grade := .offline, err := 255, goodRun := 0, probeCount := 0, recoverArmed := false
          forcedAuto := true }) ∧
      (∀ k : StationId, s.polled k = false → t.station k = s.station k) ∧
      (s.PlantOk → (∀ n : LoadId, s.inUse n = true → (t.load n).phase = .unreachable) ∧ t.dgv.queue = []) ∧
      (∀ k, newly.getLast? = some k → t.atl.pending.getLsbD 1 = true ∧ t.atl.details[1] = some (.station k)) ∧
      (newly = [] → t.atl.pending.getLsbD 1 = s.atl.pending.getLsbD 1 ∧ t.atl.details[1] = s.atl.details[1]) ∧
      t.holds = s.holds ∧ t.nextId = s.nextId ∧ t.cfs = s.cfs ∧ t.power = s.power ∧
      t.ncc.uptime = s.ncc.uptime ∧ t.ncc.clock = s.ncc.clock)

/-- A poll cycle begins, at LINK RUN in HALT, which passes to RUN, or at its start event in RUN between cycles: the
polled stations that are not OFFLINE, and the OFFLINE ones whose probe count is 0, are listed in ascending number and
the first is polled with its tag and permits, an OFFLINE one with no permits; the probe counts of the OFFLINE stations
passed over fall by 1, and a probe sets its station's to 7. In RUN a LINK RUN is answered NO_CHANGE (R134, R135, R136,
R146). The poll of a transaction is C3h, the station, the tag, the permit-valid flag, the permits and the CRC of the
four, sent at 57,600 baud, each character a start bit, the eight data bits, least significant first, and a stop bit;
bit c of the permits is that of slot 4s + c: ON in UNUSED, LOCAL, WATCH and STARTING, OFF in the other states but
UNREACHABLE, which has none (R20, R136, R207). That a poll is a transaction's, and not the moment of its sending (log
entries 7 and 24), that the first cycle after a LINK RUN begins inside that command (log entry 7), and that a start
event in HALT or inside a cycle does nothing (log entry 6), is the model's choice. -/
def Obligations.PollCycleBegins : Prop :=
  (∀ x : Transaction,
    let covered : List Byte :=
      [BitVec.ofNat 8 x.station.val, x.tag, if x.permitValid then 1 else 0, x.permits.setWidth 8]
    let poll := 0xC3 :: covered ++ crcBytes covered
    x.pollFrame = poll ∧
    x.drive = { baud := 57600
                characters := poll.map fun b => false :: (List.range 8).map (fun i => b.getLsbD i) ++ [true] }) ∧
  (∀ (s : State) (k : StationId) (c : Fin 4) (n : LoadId), n.val = 4 * k.val + c.val →
    (s.load n).phase ≠ .unreachable →
    ((s.permits k).getLsbD c.val = true ↔
      (s.load n).phase = .unused ∨ (s.load n).phase = .localRun ∨ (s.load n).phase = .watch ∨
        (s.load n).phase = .starting)) ∧
  ∀ s : State,
    let offline (k : StationId) : Bool := (s.station k).grade = .offline
    let listed := allStations.filter fun k => s.polled k && (!offline k || (s.station k).probeCount = 0)
    let passed (k : StationId) : Station :=
      if s.polled k ∧ offline k ∧ 0 < (s.station k).probeCount then
        { s.station k with probeCount := (s.station k).probeCount - 1 }
      else s.station k
    let begun (t : State) : Prop :=
      t.flm.link = .run ∧
      (listed = [] → t.flm.toPoll = [] ∧ t.flm.inFlight = none ∧ ∀ k, t.station k = passed k) ∧
      (∀ k rest, listed = k :: rest →
        t.flm.toPoll = rest ∧
        t.flm.inFlight = some
          { station := k, tag := (s.station k).pollTag, permitValid := !offline k
            permits := if offline k then 0 else s.permits k, timeoutMs := s.cfg.link.replyTimeoutMs } ∧
        t.station k = { passed k with
          pollTag := (s.station k).pollTag + 1
          probeCount := if offline k then 7 else (s.station k).probeCount } ∧
        ∀ j, j ≠ k → t.station j = passed j) ∧
      t.cfg = s.cfg ∧ t.loads = s.loads ∧ t.holds = s.holds ∧ t.dgv = s.dgv ∧ t.ncc = s.ncc ∧
      t.lin = s.lin ∧ t.atl = s.atl ∧ t.cfs = s.cfs
    (s.canServe .linkRun = true → s.flm.link = .halt →
      ∃ t : State, exec .linkRun s = .next t ∧ begun t ∧ t.replies 0x53 .ok [0]) ∧
    (s.working = true → s.flm.link = .run → s.flm.betweenCycles →
      ∃ t : State, exec .pollCycleStart s = .next t ∧ begun t ∧ t.svp = s.svp) ∧
    (s.canServe .linkRun = true → s.flm.link = .run →
      exec .linkRun s = .next (s.answered .linkRun s.toPart { status := .noChange, data := [0] })) ∧
    (s.flm.link = .halt ∨ ¬s.flm.betweenCycles → exec .pollCycleStart s = .next s)

/-- A reply is judged good, with its readings, exactly where its twelve bytes are 3Ch, the station and the tag of the
poll, the bytes of Table 10-12 that spell the readings, their CRC, high byte first, and a trailer; its characters are
those of a good reply where no stop bit is missing besides (R136, R207). With no transaction in flight nothing that
arrives changes anything (R136). A transaction that fails, by a bad reply, a reply timeout or a gap, raises its
station's missed and clears its good_run; an ONLINE or SUSPECT station's error counter rises by 8, and at 96 an ONLINE
station is SUSPECT, at 255 a station is OFFLINE, which makes its in-use loads UNREACHABLE and raises STATION; then the
next station of the cycle is polled, or the cycle has ended (R45, R134 to R139, R143). That an end of a transaction
with none in flight, and a row whose reply is judged the other way, does nothing is inferred (log entry 6). -/
def Obligations.FailedPoll : Prop :=
  (∀ (x : Transaction) (bytes : List Byte) (v : Vector Reading 4),
    judgeReply x bytes = some v ↔ x.answeredBy bytes v) ∧
  (∀ (x : Transaction) (chars : List Received),
    goodChars x chars = true ↔
      (∀ c ∈ chars, c.ninth = true) ∧ ∃ v, x.answeredBy (chars.map Received.value) v) ∧
  (∀ (s : State) (c : Instr), s.flm.inFlight = none →
    c = .replyTimeout ∨ c = .replyGapTimeout ∨ (∃ bytes, c = .pollReplyGood bytes) ∨
      (∃ chars, c = .pollReplyBad chars) → exec c s = .next s) ∧
  (∀ (s : State) (x : Transaction), s.flm.inFlight = some x →
    (∀ bytes, judgeReply x bytes = none → exec (.pollReplyGood bytes) s = .next s) ∧
    ∀ chars, goodChars x chars = true → exec (.pollReplyBad chars) s = .next s) ∧
  ∀ (s : State) (x : Transaction) (c : Instr),
    s.working = true → s.flm.inFlight = some x →
    (c = .replyTimeout ∨ c = .replyGapTimeout ∨ ∃ chars, c = .pollReplyBad chars ∧ goodChars x chars = false) →
    let k := x.station
    let err := min 255 ((s.station k).err + 8)
    ∃ t : State, exec c s = .next t ∧
      (t.station k).missed = min 65535 ((s.station k).missed + 1) ∧ (t.station k).goodRun = 0 ∧
      ((s.station k).grade = .offline →
        (t.station k).grade = .offline ∧ (t.station k).err = (s.station k).err ∧
        (t.station k).forcedAuto = (s.station k).forcedAuto ∧
        (t.station k).recoverArmed = (s.station k).recoverArmed) ∧
      ((s.station k).grade ≠ .offline →
        (t.station k).err = err ∧
        (t.station k).grade =
          (if err = 255 then .offline
            else if 96 ≤ err then .suspect else (s.station k).grade) ∧
        (err = 255 → (t.station k).forcedAuto = false ∧ (t.station k).recoverArmed = false ∧
          t.atl.pending.getLsbD 1 = true ∧ t.atl.details[1] = some (.station k) ∧
          (s.LoadsOk → ∀ n : LoadId, s.inUse n = true → stationOf n = k → (t.load n).phase = .unreachable))) ∧
      s.cycleGoesOn t.toPart ∧
      t.flm.link = s.flm.link ∧ t.holds = s.holds ∧ t.cfs = s.cfs ∧ t.power = s.power ∧
      t.ncc.uptime = s.ncc.uptime ∧ t.ncc.clock = s.ncc.clock

/-- A good reply clears missed and sets last_good and last_reply, and the next station of the cycle is polled, or the
cycle has ended (R134, R136, R137). From a station not OFFLINE it qualifies the feedback and activity of every in-use
load that is not UNREACHABLE, after the silence of any missed polls has advanced last_activity, where silence does not
count as idle and there was a good reply before (R22 to R25). What the feedback it leaves makes of a load: off, a
STOPPING load and one in FAULT(NO_STOP) reach OFF; gone on after its window, a STARTING load runs, its last_activity
the present second, and gone off past its start deadline, it is in FAULT(NO_START); gone on, an OFF or QUEUED load, or
one in FAULT(NO_START), is in OVERRIDE, a queued one withdrawn with START_FAILED; and gone off, a load in OVERRIDE
reaches OFF, from where it may be QUEUED at once (R32, R33, R37, R38, R40). Gone off outside its window, a load that
was up lowers D, which starts a scan, whatever the other channels bring (R92, R98). The reply that brings a SUSPECT
station's counter below 64 makes it ONLINE, raises STATION and starts a scan (R140, R143). From an OFFLINE station that
may recover it raises good_run, and the sixteenth returns the station ONLINE with a scan (R98, R141). Its UNREACHABLE
loads return then, in LOCAL or WATCH by mode with permit ON, changed set, feedback primed from the reply, filter_count
0, last_activity the present second and the activity of the reply qualified; one that a KEEP_OFF covers is STOPPING
from the present second or runs with stop_pending, STOPPING where nothing depends on it and it is in no group, and
pending where a load that runs or is UNREACHABLE needs it (R34, R46). That it clears missed at an OFFLINE station of
MANUAL recovery that is not armed, too, is inferred: R137 and Table 6-1 say so, and R141 names last_good and last_reply
alone (log entry 23). -/
def Obligations.GoodReply : Prop :=
  ∀ (s : State) (x : Transaction) (bytes : List Byte) (v : Vector Reading 4),
    s.working = true → s.flm.inFlight = some x → judgeReply x bytes = some v →
    let k := x.station
    let r := s.station k
    let heard (n : LoadId) : Bool :=
      if v[channelOf n].feedback ≠ (s.load n).feedback ∧
          (s.config n).feedbackFilter ≤ (s.load n).filterCount + 1 then v[channelOf n].feedback
      else (s.load n).feedback
    ∃ t : State, exec (.pollReplyGood bytes) s = .next t ∧
      (t.station k).missed = 0 ∧ (t.station k).lastGood = some s.now ∧ (t.station k).lastReply = some v ∧
      s.cycleGoesOn t.toPart ∧
      (r.grade ≠ .offline → ∀ n : LoadId, s.inUse n = true → stationOf n = k → (s.load n).phase ≠ .unreachable →
        let silence : Option Nat :=
          if 0 < r.missed ∧ (s.cfg.link.stations[k]).silenceCountsIdle = false then
            r.lastGood.map fun g => s.now - g
          else none
        let kept : Nat := match silence with
          | some x => min s.now ((s.load n).lastActivity + x)
          | none => (s.load n).lastActivity
        (t.load n).feedback = heard n ∧
        (t.load n).filterCount =
          (if v[channelOf n].feedback = (s.load n).feedback ∨
              (s.config n).feedbackFilter ≤ (s.load n).filterCount + 1 then 0
            else (s.load n).filterCount + 1) ∧
        (s.load n).hearsActivity (t.load n) (s.config n) v[channelOf n] s.now kept fun second =>
          (t.load n).lastActivity = second ∨
          ((s.load n).phase = .starting ∧ (t.load n).phase ≠ .starting ∧ (t.load n).lastActivity = s.now)) ∧
      (r.grade ≠ .offline → s.LoadsOk → ∀ n : LoadId, s.inUse n = true → stationOf n = k →
        let was := (s.load n).feedback
        let now_ := heard n
        let toOff : Prop :=
          ((t.load n).phase = .off ∨ (t.load n).phase = .queued) ∧ (t.load n).stoppedAt = some s.now
        ((s.load n).phase.running = true ∨ (s.load n).phase = .override → was = true → now_ = false →
          s.inWindow n = false → 0 < (s.config n).runKw → t.dgv.scanDue = true) ∧
        ((s.load n).phase.isStopping = true ∨ (s.load n).phase = .fault .noStop →
          (now_ = true → (t.load n).phase = (s.load n).phase) ∧ (now_ = false → toOff)) ∧
        (∀ a, (s.load n).phase = .starting → (s.load n).startedAt = some a →
          let windowOver : Prop := (s.config n).accelS ≤ s.now - a
          let tooLate : Prop := a + (s.config n).startTimeoutS ≤ s.now
          (was = false → now_ = true → windowOver → 1 ≤ (s.config n).idleMin →
            t.dgv.startingOrigin[n] = none ∧ (t.load n).lastActivity = s.now ∧
            (s.offCount n = 0 → (t.load n).phase.running = true) ∧
            (0 < s.offCount n → (t.load n).phase = .stopping s.now ∨
              ((t.load n).phase.running = true ∧ (t.load n).stopPending = true))) ∧
          (was = true → now_ = false → tooLate → (t.load n).phase = .fault .noStart ∧
            t.dgv.startingOrigin[n] = none ∧ t.atl.pending.getLsbD 0 = true) ∧
          (now_ = was ∨ (now_ = true ∧ ¬windowOver) ∨ (now_ = false ∧ ¬tooLate) →
            (t.load n).phase = .starting)) ∧
        ((s.load n).phase = .off ∨ (s.load n).phase = .queued ∨ (s.load n).phase = .fault .noStart →
          was = false → now_ = true → (t.load n).phase = .override ∧ n ∉ t.queuedLoads ∧
          ((s.load n).phase = .queued → t.atl.pending.getLsbD 3 = true)) ∧
        ((s.load n).phase = .fault .noStart → now_ = was → (t.load n).phase = .fault .noStart) ∧
        ((s.load n).phase = .override →
          (now_ = was → (t.load n).phase = .override) ∧ (was = true → now_ = false → toOff))) ∧
      (r.grade = .suspect →
        (r.err - 1 < 64 → (t.station k).grade = .online ∧ t.atl.pending.getLsbD 1 = true ∧
          t.atl.details[1] = some (.station k) ∧ t.dgv.scanDue = true) ∧
        (64 ≤ r.err - 1 → (t.station k).grade = .suspect)) ∧
      (r.grade = .online → (t.station k).grade = .online) ∧
      (r.grade = .offline → s.recoversAuto k = false → r.recoverArmed = false →
        (t.station k).grade = .offline ∧ (t.station k).goodRun = r.goodRun) ∧
      (r.grade = .offline → s.recoversAuto k = true ∨ r.recoverArmed = true →
        (r.goodRun ≠ 15 → (t.station k).grade = .offline ∧ (t.station k).goodRun = r.goodRun + 1) ∧
        (r.goodRun = 15 → (t.station k).grade = .online ∧ (t.station k).err = 0 ∧
          (t.station k).goodRun = 0 ∧ t.atl.pending.getLsbD 1 = true ∧ t.dgv.scanDue = true ∧
          ∀ n : LoadId, s.inUse n = true → stationOf n = k → (s.load n).phase = .unreachable →
            let running : Prop :=
              (t.load n).phase = (if t.mode = .setup ∨ t.mode = .day then .localRun else .watch) ∧
              (t.load n).phase.permit = true
            (t.load n).phase ≠ .unreachable ∧ (t.load n).feedback = v[channelOf n].feedback ∧
            (t.load n).filterCount = 0 ∧ (t.load n).lastActivity = s.now ∧ (t.load n).changed = true ∧
            ((s.load n).hearsActivity (t.load n) (s.config n) v[channelOf n] s.now s.now fun second =>
              (t.load n).lastActivity = second) ∧
            (s.LoadsOk → 1 ≤ (s.config n).idleMin →
              (s.offCount n = 0 → running) ∧
              (0 < s.offCount n →
                ((t.load n).phase = .stopping s.now ∨ (running ∧ (t.load n).stopPending = true)) ∧
                ((∀ j, s.inUse j = true → .load n ∉ (s.config j).needs) → (s.config n).group = none →
                  (t.load n).phase = .stopping s.now) ∧
                (∀ j, s.inUse j = true → .load n ∈ (s.config j).needs →
                  (s.load j).phase.running = true ∨ (s.load j).phase = .unreachable →
                  running ∧ (t.load n).stopPending = true))))) ∧
      (s.mode ≠ .wake → t.mode = s.mode) ∧
      t.flm.link = s.flm.link ∧ t.holds = s.holds ∧ t.cfs = s.cfs ∧ t.power = s.power ∧
      t.ncc.uptime = s.ncc.uptime ∧ t.ncc.clock = s.ncc.clock

/-- The error counter: while its station is ONLINE or SUSPECT a failure adds 8, held at 255, and a good reply
subtracts 1, held at 0; while the station stays OFFLINE no transaction changes it; and a sound counter, from 0
to 255 and 255 exactly while OFFLINE, stays so (R138). -/
def Obligations.ErrorCounter : Prop :=
  ∀ (s t : State) (x : Transaction), s.working = true → s.flm.inFlight = some x →
    let e := (s.station x.station).err
    let e' := (t.station x.station).err
    let awake : Prop := (s.station x.station).grade ≠ .offline
    let asleep : Prop := (s.station x.station).grade = .offline ∧ (t.station x.station).grade = .offline
    let sound (u : State) : Prop :=
      (u.station x.station).err ≤ 255 ∧
      ((u.station x.station).grade = .offline ↔ (u.station x.station).err = 255)
    (∀ c : Instr, c = .replyTimeout ∨ c = .replyGapTimeout ∨
        (∃ chars, c = .pollReplyBad chars ∧ goodChars x chars = false) →
      exec c s = .next t →
      (awake → e' = if 255 < e + 8 then 255 else e + 8) ∧ (asleep → e' = e) ∧ (sound s → sound t)) ∧
    ∀ (bytes : List Byte) (v : Vector Reading 4), judgeReply x bytes = some v →
      exec (.pollReplyGood bytes) s = .next t →
      (awake → e' = if e < 1 then 0 else e - 1) ∧ (asleep → e' = e) ∧ (sound s → sound t)

/-! ## Attention, store and resets (chapters 9 and 10) -/

/-- In a working part the attention line is asserted exactly while some cause is both pending and enabled. A
raise of a cause that is pending already, or of one that is not enabled, leaves the line as it was, and sets the
cause's pending flag (R191). ACK ATTENTION clears the pending flag of every named cause, pending or not and enabled or
not, and of no other; the details and the enable set stay; its result carries the signalled set and the pending set
after it, with OK where a named cause was pending and NO_CHANGE otherwise; and the line is asserted exactly while a
cause is still signalled (R193). -/
def Obligations.AttentionLineAndAck : Prop :=
  (∀ s : Part, s.working = true →
    (s.attentionLine = true ↔
      ∃ i : Fin 8, s.atl.pending.getLsbD i = true ∧ s.cfg.enable.getLsbD i = true)) ∧
  (∀ (s : Part) (d : Detail),
    (s.raise d).atl.pending.getLsbD d.cause.index = true ∧
    (s.atl.pending.getLsbD d.cause.index = true ∨ s.cfg.enable.getLsbD d.cause.index = false →
      (s.raise d).attentionLine = s.attentionLine)) ∧
  ∀ (s : State) (causes : Byte), s.canServe (.ackAttention causes) = true →
    ∃ t : State, exec (.ackAttention causes) s = .next t ∧
      (∀ i : Fin 8, t.atl.pending.getLsbD i =
        if causes.getLsbD i then false else s.atl.pending.getLsbD i) ∧
      t.atl.details = s.atl.details ∧ t.cfg = s.cfg ∧
      t.replies 0x61
        (if ∃ i : Fin 8, causes.getLsbD i = true ∧ s.atl.pending.getLsbD i = true then .ok else .noChange)
        [t.atl.pending &&& t.cfg.enable, t.atl.pending] ∧
      t.attentionLine = decide (t.atl.pending &&& t.cfg.enable ≠ 0) ∧
      t.loads = s.loads ∧ t.holds = s.holds ∧ t.dgv = s.dgv ∧ t.ncc = s.ncc ∧ t.flm = s.flm ∧
      t.lin = s.lin ∧ t.cfs = s.cfs ∧ t.power = s.power

/-- SAVE in SETUP or DAY copies the settings as they stand, erases the storage and makes the image BAD, and is
answered WRONG_MODE in the other modes; its three phases end one after the other, and CHECKING ends it with
the image GOOD and a mark only where every word agreed, raising STORE. WRITING leaves the copy with its sum word, which
brings the sum of the image's words to FFFFh. RESET outside a SAVE is answered OK and waits for the end of its result
(R185, R187, R196 to R198). That the storage reads as erased from the acceptance on, that its contents are held as the
settings they spell, their words being free, and that the row of CHECKING's end carries what the read-back found, is
the model's choice (log entry 16), and so is that a completion out of its phase does nothing (log entry 6). -/
def Obligations.SaveAndReset : Prop :=
  ∀ s : State,
    (s.canServe .save = true → s.saving = false → s.mode = .setup ∨ s.mode = .day →
      exec .save s = .next (s.answered .save
        { s.toPart with cfs :=
          { s.cfs with storage := {}, phase := .erasing, image := .bad, copy := some s.cfg } }
        { status := .ok })) ∧
    (s.canServe .save = true → s.saving = false → s.mode ≠ .setup → s.mode ≠ .day →
      exec .save s = .next (s.answered .save s.toPart { status := .wrongMode })) ∧
    (s.canServe .reset = true → s.saving = false →
      exec .reset s = .next (s.answered .reset s.toPart { status := .ok, after := .carryOutReset })) ∧
    (s.working = true → s.cfs.phase = .erasing →
      exec .erasingComplete s =
        .next (s.withPart { s.toPart with cfs := { s.cfs with phase := .writing } })) ∧
    (s.working = true → s.cfs.phase = .writing →
      exec .writingComplete s = .next (s.withPart { s.toPart with cfs :=
        { s.cfs with
          phase := .checking
          storage := { contents := s.cfs.copy, sumWord := s.cfs.copy.map Settings.sumWord, mark := false } } })) ∧
    (∀ c : Settings, (Config.contentWords c).foldl (· + ·) 0 + c.sumWord = 0xFFFF) ∧
    (∀ result : CheckResult, s.working = true → s.cfs.phase = .checking →
      ∃ t : State, exec (.checkingComplete result) s = .next t ∧
        t.cfs.phase = .idle ∧ t.cfs.copy = none ∧
        t.cfs.image = (if result = .agrees then .good else .bad) ∧
        t.cfs.outcome = (if result = .agrees then .success else .fault) ∧
        t.cfs.storage.mark = decide (result = .agrees) ∧
        (result ≠ .wordDiffers → t.cfs.storage.contents = s.cfs.storage.contents ∧
          t.cfs.storage.sumWord = s.cfs.storage.sumWord) ∧
        t.atl.pending = s.atl.pending ||| 0x80 ∧
        t.atl.details = s.atl.details.set 7 (some (.store (decide (result = .agrees)) false)) ∧
        t.cfg = s.cfg ∧ t.loads = s.loads ∧ t.holds = s.holds ∧ t.dgv = s.dgv ∧ t.ncc = s.ncc ∧
        t.flm = s.flm ∧ t.lin = s.lin ∧ t.svp = s.svp) ∧
    (s.cfs.phase ≠ .erasing → exec .erasingComplete s = .next s) ∧
    (s.cfs.phase ≠ .writing → exec .writingComplete s = .next s) ∧
    ∀ result : CheckResult, s.cfs.phase ≠ .checking → exec (.checkingComplete result) s = .next s

/-- A RESET command, carried out at the end of its result: the records are those of a good image, or the
defaults; holds, causes and debounce records start afresh, the next id is 1, and uptime and clock go on; the Governor
takes the values of Table 4-3, its queue empty and its ceilings those of the plan loaded, where no in-use load has an
idle time of 0; start_history and stopped_at are kept for the slots then in use. With a bad image, or a plant that
fails its validation, the part enters SETUP, and with no schedule in force DAY, and nothing is raised. With a schedule
in force it is moved from DAY by the class of the moment, LATE staying clear. In class DAY it stays there with the next
night, nothing raised. In class WIND_DOWN it is in WIND_DOWN to the classified night_start. In class NIGHT it is in
NIGHT with R120's wake target and the lead of a plant without an OFF load, base_lead_s, or, its wake_begin already
reached, through WAKE in DAY again. Such a move raises MODE, and no other cause is pending (R17, R48, R77, R104, R127,
R128, R130, R187, R195, R201). That a due scan is dropped is the model's choice (log entry 19), and so is that the
first poll cycle waits for its row (log entry 7). -/
def Obligations.CommandReset : Prop :=
  ∀ (s : State) (r : Result),
    s.working = true → s.svp.receiver = .answering r → r.after = .carryOutReset →
    let cfg := s.cfs.storage.image?.getD {}
    let u : Part := { cfg := cfg, ncc := { uptime := s.ncc.uptime, clock := s.ncc.clock } }
    let idles : Prop := ∀ n : LoadId, cfg.loads[n].inUse = true → 1 ≤ cfg.loads[n].idleMin
    let lead := min 14400 cfg.active.baseLeadS
    let wakeBegin := wakeBeginFor u.wakeTarget lead
    ∃ t : State, exec .resultEnd s = .next t ∧
      t.cfg = cfg ∧ t.holds = [] ∧ t.nextId = 1 ∧ t.dgv.energy = 0 ∧ t.dgv.isPartial = true ∧
      t.ncc.uptime = s.ncc.uptime ∧ t.ncc.clock = s.ncc.clock ∧ t.ncc.armed = false ∧
      t.ncc.late = false ∧ t.flm = {} ∧ t.lin.keep = Vector.replicate 8 {} ∧ t.lin.clear = Vector.replicate 8 {} ∧
      t.lin.call = Vector.replicate 4 {} ∧ t.lin.meter = {} ∧ t.lin.refusal = Vector.replicate 8 none ∧
      t.svp = { inEffect := cfg.port, receiver := .hunt, lastReset := .command, lastResetAt := s.now } ∧
      t.cfs = { storage := s.cfs.storage, image := if s.cfs.storage.image?.isSome then .good else .bad } ∧
      t.power = s.power ∧
      (idles → t.dgv = {
        ceilingI := { value := if cfg.active.valid then cfg.active.ceilingKw else 60000 }
        ceilingD := { value := if cfg.active.valid then cfg.active.intervalCeilingKw else 0 } }) ∧
      (∀ i : Fin 8, i ≠ 5 → t.atl.pending.getLsbD i = false ∧ t.atl.details[i] = none) ∧
      (u.validate ≠ none → t.ncc.mode = .setup ∧ t.atl = {}) ∧
      (s.cfs.storage.image?.isSome = true → u.validate = none →
        (u.scheduled = false → t.ncc.mode = .day none none ∧ t.atl = {}) ∧
        (u.scheduled = true → s.ClockOk →
          (u.classify = .day → t.ncc.mode = .day (u.nextNight none) none ∧ t.atl = {}) ∧
          (∀ nightStart, u.classify = .windDown nightStart →
            t.ncc.mode = .windDown nightStart true ∧ t.modeRaised .windDown false) ∧
          (∀ w, u.classify = .night w → idles →
            ((∀ b, wakeBegin = some b → s.now < b) →
              t.ncc.mode = .night u.wakeTarget wakeBegin lead ∧ t.modeRaised .night false) ∧
            ((∃ b, wakeBegin = some b ∧ b ≤ s.now) →
              (∀ night, u.nextNight none = some night → s.now < night.warnStart) →
              t.ncc.mode = .day (u.nextNight none) none ∧ t.modeRaised .day false)))) ∧
      (idles → ∀ n : LoadId, cfg.loads[n].inUse = true →
        (t.load n).phase = if t.mode = .windDown ∨ t.mode = .night then .watch else .localRun) ∧
      (∀ n : LoadId, cfg.loads[n].inUse = true →
        (t.load n).lastActivity = s.now ∧ (t.load n).startedAt = none ∧
        (t.load n).stoppedAt = (s.load n).stoppedAt ∧
        (t.load n).startHistory = (s.load n).startHistory ∧ (t.load n).feedback = false) ∧
      (s.cfs.storage.image? = none → t.ncc.mode = .setup ∧ t.atl = {} ∧
        ∀ n : LoadId, (t.load n).phase = .unused)

/-- The held condition. A supply below 16 V or an asserted reset line holds a working part at once, voiding the
transaction in flight and the result being sent and ending a SAVE without outcome, its image standing only where its
mark was written first. A second cause while the part is held is added and changes nothing else. With both causes
present, the end of one leaves the other, and the part stays held as it is. At the end of the last cause the part
returns: with a good image it takes its records, its blocks at their power-on values, and with a bad one it is a new
part with STORE pending (R16, R196, R199, R200, R203, R204). That the row of a cause carries whether the mark was
written, that each row ends its own cause alone, and that the end of a cause not present does nothing, is the model's
choice (log entry 16). -/
def Obligations.SupplyAndResetLine : Prop :=
  ∀ s : State,
    (∀ marked : Bool, s.working = true →
      let storage :=
        if s.cfs.phase = .checking ∧ marked = true then { s.cfs.storage with mark := true } else s.cfs.storage
      let held : Part := { s.toPart with
        cfs := { s.cfs with storage := storage, phase := .idle, copy := none }
        flm := { s.flm with toPoll := [], inFlight := none }
        svp := { s.svp with receiver := .hunt } }
      exec (.supplyLow marked) s = .next (s.withPart { held with power := { s.power with supplyLow := true } }) ∧
      exec (.resetLineAssert marked) s = .next (s.withPart { held with power := { s.power with resetLow := true } })) ∧
    (∀ marked : Bool, s.working = false →
      exec (.supplyLow marked) s =
        .next (s.withPart { s.toPart with power := { s.power with supplyLow := true } }) ∧
      exec (.resetLineAssert marked) s =
        .next (s.withPart { s.toPart with power := { s.power with resetLow := true } })) ∧
    (s.power = { supplyLow := true, resetLow := true } →
      let low (p : Power) : Part := { s.toPart with power := p }
      exec .powerOn s = .next (s.withPart (low { supplyLow := false, resetLow := true })) ∧
      exec .resetLineRelease s = .next (s.withPart (low { supplyLow := true, resetLow := false })) ∧
      (low { supplyLow := false, resetLow := true }).working = false ∧
      (low { supplyLow := true, resetLow := false }).working = false) ∧
    (s.power.supplyLow = false → exec .powerOn s = .next s) ∧
    (s.power.resetLow = false → exec .resetLineRelease s = .next s) ∧
    ∀ c : Instr,
      (c = .powerOn ∧ s.power = { supplyLow := true, resetLow := false }) ∨
      (c = .resetLineRelease ∧ s.power = { supplyLow := false, resetLow := true }) →
      (s.cfs.storage.image? = none →
        exec c s = .next (s.withPart { State.reset.toPart with
          cfs := { storage := s.cfs.storage }, freeCount := s.freeCount })) ∧
      ∀ cfg, s.cfs.storage.image? = some cfg → ∃ t : State, exec c s = .next t ∧
        t.power = {} ∧ t.cfg = cfg ∧ t.holds = [] ∧ t.nextId = 1 ∧
        t.ncc = { mode := if t.validate = none then .day none none else .setup } ∧
        (∀ n : LoadId, t.load n = { phase := if cfg.loads[n].inUse then .localRun else .unused }) ∧
        t.dgv = {
          ceilingI := { value := if cfg.active.valid then cfg.active.ceilingKw else 60000 }
          ceilingD := { value := if cfg.active.valid then cfg.active.intervalCeilingKw else 0 } } ∧
        t.flm = {} ∧ t.lin = { lamps := t.lin.lamps } ∧
        (∀ p : PanelId, (t.lin.lamps[p]).pattern = t.lampPattern p) ∧ t.atl = {} ∧
        t.svp = { inEffect := cfg.port } ∧ t.cfs = { storage := s.cfs.storage, image := .good }

/-- Every step keeps the store sound: a GOOD image is in storage with its check word good, and a SAVE in
progress has its copy, a BAD image and no mark (R196 to R202). That the mark is absent in CHECKING too, where R198
writes it before the phase ends, is the model's choice: it is written at the end of the phase (log entry 16). -/
def Obligations.StoreStaysSound : Prop :=
  ∀ s t : State, s.StoreOk → step s = .next t → t.StoreOk

/-- Every step keeps every record in range, held, in effect, copied or stored, and every step keeps the plant clock
inside the week and the minute (R2, R3, R106, R109, R133, R153, R159, R163, R168, R196). -/
def Obligations.RecordsStayInRange : Prop :=
  (∀ s t : State, s.RecordsOk → step s = .next t → t.RecordsOk) ∧
  ∀ s t : State, s.ClockOk → step s = .next t → t.ClockOk

/-! ## Time (chapters 2, 4 and 5) -/

/-- An uptime second: uptime rises by 1, held at its limit; a valid clock advances, from second 59 to the next
minute and from minute 10,079 to 0; uptime minute and interval boundaries fall due at their seconds; a queue
that is not empty, or a falling estimate of demand, starts a scan (R92, R94, R98, R105, R106). That boundaries and
scans wait for their rows, and that the demand as last computed is held, is the model's choice (log entry 11), and so
is that the clock goes on where uptime is held at its limit (log entry 15). -/
def Obligations.UptimeSecond : Prop :=
  ∀ s : State, s.working = true →
    ∃ t : State, exec .uptimeSecond s = .next t ∧
      t.ncc.uptime = (if s.ncc.uptime < 4294967295 then s.ncc.uptime + 1 else 4294967295) ∧
      (s.ncc.clock.valid = false → t.ncc.clock = s.ncc.clock) ∧
      (s.ncc.clock.valid = true → s.ncc.clock.second < 59 →
        t.ncc.clock = { s.ncc.clock with second := s.ncc.clock.second + 1 }) ∧
      (s.ncc.clock.valid = true → 59 ≤ s.ncc.clock.second →
        t.ncc.clock = { valid := true, second := 0, minute := (s.ncc.clock.minute + 1) % 10080 }) ∧
      (t.ncc.minuteDue = true ↔ t.ncc.uptime ≠ s.ncc.uptime ∧ t.ncc.uptime % 60 = 0) ∧
      (t.ncc.intervalDue = true ↔ t.ncc.clock.valid = true ∧ t.ncc.clock.second = 0 ∧
        t.ncc.clock.minute % s.cfg.meter.intervalMin = 0) ∧
      (s.dgv.queue ≠ [] → t.dgv.scanDue = true) ∧ t.dgv.demand = t.demandNow ∧
      (t.demandNow < s.dgv.demand → t.dgv.scanDue = true) ∧
      t.ncc.mode = s.ncc.mode ∧ t.cfg = s.cfg ∧ t.loads = s.loads ∧ t.holds = s.holds ∧
      t.dgv.queue = s.dgv.queue ∧ t.flm = s.flm ∧ t.lin = s.lin ∧ t.svp = s.svp ∧ t.atl = s.atl ∧
      t.cfs = s.cfs

/-- At an uptime minute boundary that is due every lamp shows the pattern Table 7-2 gives its panel, going on in one
that it had and beginning another with its on time; in NIGHT the lead and wake_begin are computed again, and one already
reached enters WAKE at once; and, in NIGHT too, each call line that asks places its group's hold, or renews the one it
has, the second of two being refused FULL where one place is left (R54, R56, R105, R121 to R123, R157, R158, R160,
R162). That a boundary waits for its row is the model's choice (log entry 11), as is that the row does nothing where
none is due (log entry 6), and that two lines ask in ascending number (log entry 12). -/
def Obligations.MinuteBoundary : Prop :=
  ∀ s : State, s.working = true →
    let ahead : Prop := ∀ target wb lead, s.ncc.mode = .night target wb lead →
      ∀ b, wakeBeginFor target s.leadSeconds = some b → s.now < b
    let fits (l : CallId) : Prop := (s.group s.cfg.calls[l].group).inUse = true ∧
      1 ≤ s.cfg.calls[l].callMin ∧ s.cfg.calls[l].callMin ≤ 900
    let own (l : CallId) : Option Hold := s.matching .keepOn (.group s.cfg.calls[l].group) (.call l)
    let free (l : CallId) : Prop := own l = none ∧ s.keepOnConflict (.group s.cfg.calls[l].group) = false
    let placed (l : CallId) (id : Nat) : Hold :=
      { id := id, kind := .keepOn, target := .group s.cfg.calls[l].group, owner := .call l
        expiry := some (s.minute + s.cfg.calls[l].callMin), placedAt := s.minute, renewals := 0, reason := 0 }
    let renewed (l : CallId) (h : Hold) : Hold :=
      { h with expiry := some (s.minute + s.cfg.calls[l].callMin), renewals := min 255 (h.renewals + 1), reason := 0 }
    (s.ncc.minuteDue = false → exec .uptimeMinuteBoundary s = .next s) ∧
    (s.ncc.minuteDue = true → ∃ t : State, exec .uptimeMinuteBoundary s = .next t ∧
      t.ncc.minuteDue = false ∧ (∀ p : PanelId, (t.lin.lamps[p]).pattern = t.lampPattern p) ∧
      (s.callsAsking = [] → s.mode ≠ .night → t.holds = s.holds) ∧
      (∀ target wb lead, s.ncc.mode = .night target wb lead →
        (s.callsAsking = [] → (∀ b, wakeBeginFor target s.leadSeconds = some b → s.now < b) →
          t.ncc.mode = .night target (wakeBeginFor target s.leadSeconds) s.leadSeconds ∧ t.holds = s.holds) ∧
        ((∀ l : CallId, (s.lin.call[l]).level ≠ .active) →
          ∀ w b, target = some w → wakeBeginFor target s.leadSeconds = some b → b ≤ s.now → s.LoadsOk →
          ∀ n : LoadId, s.sweeps n → t.holds = s.holds ∧
            s.EntersWake t.toPart (some (w.at_ + 60 * s.cfg.active.wakeGraceMin)) n)) ∧
      (s.callsAsking = [] → s.mode ≠ .night → s.mode ≠ .wake → ∀ p : PanelId, t.lin.lamps[p] =
        if (s.lin.lamps[p]).pattern = t.lampPattern p then s.lin.lamps[p]
        else { pattern := t.lampPattern p, phaseMs := 0 }) ∧
      (∀ l : CallId, s.callsAsking = [l] → ahead → fits l →
        (∀ h, own l = some h → t.nextId = s.nextId ∧
          t.holds = (s.holds.map fun y => if y.id = h.id then renewed l h else y) ∧
          ∀ target wb lead, s.ncc.mode = .night target wb lead →
            t.ncc.mode = .night target (wakeBeginFor target s.leadSeconds) s.leadSeconds) ∧
        (free l → s.holds.length < 48 → t.holds = insertHold (placed l s.nextId) s.holds)) ∧
      (∀ l m : CallId, s.callsAsking = [l, m] → ahead → fits l → fits m → s.HoldsOk →
        (∀ h h', own l = some h → own m = some h' → t.nextId = s.nextId ∧ t.holds = s.holds.map fun y =>
          if y.id = h.id then renewed l h else if y.id = h'.id then renewed m h' else y) ∧
        (free l → free m → s.holds.length < 47 → ∃ id, id ≠ s.nextId ∧ (∀ y ∈ s.holds, y.id ≠ id) ∧
          t.holds = insertHold (placed m id) (insertHold (placed l s.nextId) s.holds)) ∧
        (free l → free m → s.holds.length = 47 → t.holds = insertHold (placed l s.nextId) s.holds ∧
          t.atl.pending.getLsbD 3 = true ∧
          (s.mode ≠ .night → t.atl.details[3] = some (.callRefused s.cfg.calls[m].group true)))) ∧
      t.ncc.uptime = s.ncc.uptime ∧ t.ncc.clock = s.ncc.clock ∧ t.flm = s.flm ∧ t.cfs = s.cfs ∧
      t.power = s.power)

/-- At an uptime minute boundary every hold whose expiry has been reached is gone, in a sound table, and every
other hold stays; HOLD_RETIRED is raised with the id of the last retired, the highest; and where one hold alone
expires, the tables being sound, what it asked for is given up as FollowsRetirement says. Away from a boundary nothing
expires (R30, R62, R68, R70 to R72, R86). -/
def Obligations.HoldExpiry : Prop :=
  ∀ s : State, s.working = true →
    (s.now % 60 ≠ 0 ∨ s.now = 0 → exec .holdExpiry s = .next s) ∧
    (0 < s.now → s.now % 60 = 0 → s.HoldsOk →
      let reached (h : Hold) : Bool := match h.expiry with | some e => decide (e ≤ s.minute) | none => false
      ∃ t : State, exec .holdExpiry s = .next t ∧
        t.holds = (s.holds.filter fun h => !reached h) ∧
        (∀ h, (s.holds.filter reached).getLast? = some h →
          t.atl.pending.getLsbD 4 = true ∧ t.atl.details[4] = some (.holdRetired h.id)) ∧
        (∀ h, s.holds.filter reached = [h] → s.LoadsOk → s.ClockOk → s.FollowsRetirement t.toPart h) ∧
        t.nextId = s.nextId ∧ s.SameOutside t.toPart)

/-- The deadlines of a load, the Load Table being sound. A load still STOPPING at its stop deadline is in
FAULT(NO_STOP), a STARTING load with feedback off at its start deadline in FAULT(NO_START), each raising LOAD_FAULT
and withdrawing every queued load that needs the failed one. A STARTING load with feedback on at the end of its window
runs, its activity counted from there, and one that a KEEP_OFF covers is STOPPING at once where its stop conditions
hold, and runs with its stop pending where they do not. A WATCH load in NIGHT whose nine conditions hold at its idle
expiry is STOPPING, and where it was up a scan is started, D being lower (R28, R29, R31, R33, R34, R37, R38, R81, R84,
R92, R98). That a deadline whose row comes late is still taken,
and that a row before its deadline does nothing, is the model's choice (log entry 6). -/
def Obligations.LoadDeadlines : Prop :=
  ∀ (s : State) (n : LoadId), s.working = true → s.LoadsOk →
    let withdrawn (t : State) : Prop :=
      ∀ k : LoadId, (s.load k).phase = .queued → .load n ∈ (s.config k).needs →
        (t.load k).phase = .off ∧ k ∉ t.queuedLoads ∧ t.atl.pending.getLsbD 3 = true
    (∀ began, (s.load n).phase = .stopping began →
      (s.now < began + (s.config n).stopTimeoutS → exec (.stopDeadline n) s = .next s) ∧
      (began + (s.config n).stopTimeoutS ≤ s.now → ∃ t : State,
        exec (.stopDeadline n) s = .next t ∧ (t.load n).phase = .fault .noStop ∧
        (t.load n).heldEnqueue = (s.load n).heldEnqueue ∧ t.atl.pending.getLsbD 0 = true ∧
        t.atl.details[0] = some (.loadFault n) ∧ withdrawn t ∧ t.holds = s.holds ∧ s.SameOutside t.toPart)) ∧
    (∀ a, (s.load n).phase = .starting → (s.load n).startedAt = some a →
      (s.now < a + (s.config n).startTimeoutS → exec (.startDeadline n) s = .next s) ∧
      (a + (s.config n).startTimeoutS ≤ s.now → (s.load n).feedback = false → ∃ t : State,
        exec (.startDeadline n) s = .next t ∧ (t.load n).phase = .fault .noStart ∧
        t.dgv.startingOrigin[n] = none ∧ t.atl.pending.getLsbD 0 = true ∧
        t.atl.details[0] = some (.loadFault n) ∧ withdrawn t ∧ t.holds = s.holds ∧ s.SameOutside t.toPart) ∧
      (s.now - a < (s.config n).accelS → exec (.inrushWindowEnd n) s = .next s) ∧
      ((s.config n).accelS ≤ s.now - a → (s.load n).feedback = true → 1 ≤ (s.config n).idleMin → ∃ t : State,
        exec (.inrushWindowEnd n) s = .next t ∧
        (s.offCount n = 0 → (t.load n).phase.running = true) ∧
        (0 < s.offCount n →
          (s.stopConditions n = true → (t.load n).phase = .stopping s.now) ∧
          (s.stopConditions n = false → (t.load n).phase.running = true ∧ (t.load n).stopPending = true)) ∧
        (t.load n).lastActivity = s.now ∧ t.dgv.startingOrigin[n] = none ∧ t.holds = s.holds ∧
        s.SameOutside t.toPart)) ∧
    (s.idleStopDue n = true → s.now = (s.load n).lastActivity + 60 * (s.config n).idleMin → ∃ t : State,
      exec (.idleExpiry n) s = .next t ∧ (t.load n).phase = .stopping s.now ∧ t.holds = s.holds ∧
      ((s.load n).feedback = true → s.inWindow n = false → 0 < (s.config n).runKw → t.dgv.scanDue = true) ∧
      s.SameOutside t.toPart) ∧
    (s.mode ≠ .night → exec (.idleExpiry n) s = .next s)

/-- The wake lead and wake_begin. S is the in-use OFF loads that no KEEP_OFF covers, W the sum over S of inrush_kw
times accel_s, R0 the run_kw of the loads that are up, and H what C_i leaves after R0 and half the run_kw of S, rounded
up, or 100 where that is less. lead_s is base_lead_s with W / H rounded up and the largest accel_s of S, or 14,400
where that is less; and wake_begin is the wake target less the lead in whole minutes, rounded up, absent with the
target (R121, R122). A time before uptime 0 is held as 0, which is the model's choice (log entry 20). -/
def Obligations.WakeLead : Prop :=
  (∀ s : Part,
    let asleep : Finset LoadId := Finset.univ.filter fun n =>
      s.inUse n = true ∧ (s.load n).phase = .off ∧ ∀ h ∈ s.holds, ¬(h.kind = .keepOff ∧ s.covers h.target n = true)
    let w := asleep.sum fun n => (s.config n).inrushKw * (s.config n).accelS
    let r0 := (Finset.univ.filter fun n : LoadId => s.up n = true).sum fun n => (s.config n).runKw
    let half := ((asleep.sum fun n => (s.config n).runKw) + 1) / 2
    let headroom := max 100 ((s.dgv.ceilingI.value : Int) - r0 - half)
    let lead := s.cfg.active.baseLeadS + (w + (headroom.toNat - 1)) / headroom.toNat +
      asleep.sup fun n => (s.config n).accelS
    s.leadSeconds = if 14400 < lead then 14400 else lead) ∧
  (∀ (target : WakeTarget) (lead : Nat),
    wakeBeginFor (some target) lead = some (target.at_ - 60 * ((lead + 59) / 60))) ∧
  ∀ lead : Nat, wakeBeginFor none lead = none

/-- The deadlines of the modes. DAY at its warn_start enters WIND_DOWN to its night_start, or NIGHT with no warning or
at the night_start itself. WIND_DOWN at its deadline enters NIGHT, with the wake target and the lead computed there,
and passes on to WAKE where its wake_begin is already reached. NIGHT at its wake_begin enters WAKE with the grace
deadline of its target, and passes on to DAY where the sweep finds nothing to start. WAKE at its grace deadline enters
DAY, LATE where wake work is left, and passes on where the warning of the next night has begun (R112, R115, R116, R118
to R125). That a deadline whose row comes late is still taken, and that a row before its deadline does nothing, is the
model's choice (log entry 6). -/
def Obligations.ModeDeadlines : Prop :=
  ∀ s : State, s.working = true →
    let enters (c : Instr) (P : State → Prop) : Prop :=
      ∃ t : State, exec c s = .next t ∧ P t ∧ t.holds = s.holds ∧ s.SameOutside t.toPart
    let toDay (c : Instr) (late : Bool) : Prop :=
      (s.dayStays none → enters c fun t => s.EntersDay t.toPart late none) ∧
      ∀ night, s.dayNight none = some night → night.warnStart ≤ s.now → s.now < night.nightStart →
        enters c fun t => s.EntersWarning t.toPart night.nightStart
    (∀ next mark, s.ncc.mode = .day (some next) mark →
      (s.now < next.warnStart → exec .warnStartReached s = .next s) ∧
      (next.warnStart ≤ s.now → 0 < s.cfg.active.warningMin → s.now < next.nightStart →
        enters .warnStartReached fun t => t.ncc.mode = .windDown next.nightStart true ∧
          t.modeRaised .windDown false ∧ t.cfg = s.cfg) ∧
      (next.warnStart ≤ s.now → s.cfg.active.warningMin = 0 ∨ next.nightStart ≤ s.now → s.nightStays →
        enters .warnStartReached fun t => s.EntersNight t.toPart)) ∧
    (∀ deadline scheduled, s.ncc.mode = .windDown deadline scheduled →
      (s.now < deadline → exec .warningDeadline s = .next s) ∧
      (deadline ≤ s.now → s.nightStays → enters .warningDeadline fun t => s.EntersNight t.toPart) ∧
      (deadline ≤ s.now → s.quiet → s.LoadsOk →
        ∀ w b, s.wakeTarget = some w → wakeBeginFor (some w) s.leadSeconds = some b → b ≤ s.now →
        ∀ n : LoadId, s.sweeps n → enters .warningDeadline fun t =>
          s.EntersWake t.toPart (some (w.at_ + 60 * s.cfg.active.wakeGraceMin)) n)) ∧
    (∀ w b lead, s.ncc.mode = .night (some w) (some b) lead →
      (s.now < b → exec .wakeBegin s = .next s) ∧
      (b ≤ s.now → s.LoadsOk → ∀ n : LoadId, s.sweeps n → enters .wakeBegin fun t =>
        s.EntersWake t.toPart (some (w.at_ + 60 * s.cfg.active.wakeGraceMin)) n) ∧
      (b ≤ s.now → s.sweepsNone → s.wakeWork = false → toDay .wakeBegin false)) ∧
    ∀ g, s.ncc.mode = .wake (some g) →
      (s.now < g → exec .graceDeadline s = .next s) ∧
      (g ≤ s.now → toDay .graceDeadline s.wakeWork)

/-- At an interval boundary that is due a full interval closes with its mean demand, rounded up, DEMAND being raised
where an interval ceiling is set and exceeded, and a partial one closes without; both begin a full interval, and
without a meter in use the interval stays partial. A qualified meter pulse adds wh_per_pulse (R94 to R96, R164).
That a boundary waits for its row is the model's choice (log entry 11), as is that the row does nothing where none is
due (log entry 6); that an edge waits for its row is inferred (log entry 10). -/
def Obligations.MeterInterval : Prop :=
  ∀ s : State, s.working = true →
    (s.ncc.intervalDue = false → exec .intervalBoundary s = .next s) ∧
    (s.ncc.intervalDue = true → ∃ t : State, exec .intervalBoundary s = .next t ∧
      t.ncc = { s.ncc with intervalDue := false } ∧ t.dgv.energy = 0 ∧
      t.dgv.isPartial = !s.cfg.meter.inUse ∧
      t.dgv.lastIntervalKw =
        (if s.cfg.meter.inUse ∧ s.dgv.isPartial = false then
          some (ceilDiv (36 * s.dgv.energy) (10 * (s.cfg.meter.intervalMin * 60))) else s.dgv.lastIntervalKw) ∧
      t.atl =
        (let kw := ceilDiv (36 * s.dgv.energy) (10 * (s.cfg.meter.intervalMin * 60))
        if s.cfg.meter.inUse ∧ s.dgv.isPartial = false ∧ 0 < s.dgv.ceilingD.value ∧ s.dgv.ceilingD.value < kw then
          { pending := s.atl.pending ||| 0x04, details := s.atl.details.set 2 (some (.demand kw)) }
        else s.atl) ∧
      t.dgv.queue = s.dgv.queue ∧ t.dgv.ceilingI = s.dgv.ceilingI ∧ t.dgv.ceilingD = s.dgv.ceilingD ∧
      t.cfg = s.cfg ∧ t.loads = s.loads ∧ t.holds = s.holds ∧ t.flm = s.flm ∧ t.lin = s.lin ∧ t.svp = s.svp ∧
      t.cfs = s.cfs) ∧
    (s.cfg.meter.inUse = true → s.lin.meter.level = .inactive → s.cfg.meter.meterSamples ≤ s.lin.meter.run →
      exec .meterPulse s = .next (s.withPart { s.toPart with
        lin := { s.lin with meter := { level := .active } }
        dgv := { s.dgv with energy := min 4294967295 (s.dgv.energy + s.cfg.meter.whPerPulse) } })) ∧
    (s.cfg.meter.inUse = true → s.lin.meter.level = .active → s.cfg.meter.meterSamples ≤ s.lin.meter.run →
      exec .meterFallingEdge s =
        .next (s.withPart { s.toPart with lin := { s.lin with meter := { level := .inactive } } }))

/-! ## Lines (chapter 7) -/

/-- One sample. A line of known level counts the samples that differ from it and starts again at one that does not;
a line of unknown level counts equal samples; a count that has reached its number waits for its edge; a line whose
record is not in use is not sampled; call lines read active at the level their record names. The lamps' phases run
on by 5 ms, and each output is off, steady, or on for the first part of its period: 500 ms of SLOW's second, 125 ms
of FAST's quarter, 100 ms of WINK's two seconds (R151, R152, R158). That a completed count waits for the edge's own
row is inferred (log entry 10), and that the lamps are timed by the samples is the model's choice (log entry 8). -/
def Obligations.LineSample : Prop :=
  ∀ (s : State) (v : LineLevels), s.working = true →
    ∃ t : State, exec (.lineSample v) s = .next t ∧
      (∀ line : Line,
        let d := s.lin.debounce line
        let limit := s.cfg.sampleCount line
        let active : Bool := match line with
          | .key p .keep => v.keep.getLsbD p.val
          | .key p .clear => v.clear.getLsbD p.val
          | .call l => v.call.getLsbD l.val != s.cfg.calls[l].activeLow
          | .meter => v.meter
        let differs : Bool := if active then d.level = .inactive else d.level = .active
        t.lin.debounce line =
          if s.cfg.lineInUse line = false ∨ limit ≤ d.run then d
          else if d.level = .unknown then
            { d with run := if d.previous = some active then d.run + 1 else 1, previous := some active }
          else { d with run := if differs then d.run + 1 else 0 }) ∧
      (∀ p : PanelId, (t.lin.lamps[p]).pattern = (s.lin.lamps[p]).pattern ∧
        (t.lin.lamps[p]).phaseMs = ((s.lin.lamps[p]).phaseMs + 5) % (match (s.lin.lamps[p]).pattern with
          | .off | .steady => 1 | .slow => 1000 | .fast => 250 | .wink => 2000) ∧
        t.lampOutput p = match (t.lin.lamps[p]).pattern with
          | .off => false
          | .steady => true
          | .slow => decide ((t.lin.lamps[p]).phaseMs < 500)
          | .fast => decide ((t.lin.lamps[p]).phaseMs < 125)
          | .wink => decide ((t.lin.lamps[p]).phaseMs < 100)) ∧
      t.lin.refusal = s.lin.refusal ∧ t.cfg = s.cfg ∧ t.loads = s.loads ∧ t.holds = s.holds ∧
      t.dgv = s.dgv ∧ t.ncc = s.ncc ∧ t.flm = s.flm ∧ t.svp = s.svp ∧ t.atl = s.atl ∧ t.cfs = s.cfs

/-- The timers and edges that hand nothing over. An activity window ends 60 s after it began, with its count; entries
an hour old leave the start history; and a cancelled-night mark that has passed is removed from DAY. A key release and a
falling call line change their level alone, a line of unknown level takes the level of its last samples without an
edge, and an edge that no debounce record shows does nothing. Nothing else changes (R23, R89, R115, R151, R154, R156,
R160). That a mark has passed when uptime is above it is inferred (log entry 14), as is that an edge is taken at its
own row (log entry 10); that a timer whose row comes late is still taken, and that one whose row comes early, or a row
without its edge, does nothing, is the model's choice (log entry 6). -/
def Obligations.PlainTimersAndEdges : Prop :=
  (∀ (s : State) (n : LoadId), s.working = true →
    (∀ w, (s.load n).activityWindow = some w →
      exec (.activityWindowExpiry n) s =
        if w + 60 ≤ s.now then
          .next (s.withPart (s.setLoad n { s.load n with activityCount := 0, activityWindow := none }))
        else .next s) ∧
    ((s.load n).activityWindow = none → exec (.activityWindowExpiry n) s = .next s) ∧
    exec (.startHistoryAgeOut n) s = .next (s.withPart (s.setLoad n { s.load n with
      startHistory := (s.load n).startHistory.filter fun a => s.now - a < 3600 })) ∧
    ∀ next mark, s.ncc.mode = .day next (some mark) →
      exec .cancelledMarkPassed s =
        if mark < s.now then .next (s.withPart (s.setMode (.day next none))) else .next s) ∧
  ∀ s : State, s.working = true →
    (∀ (p : PanelId) (key : Key), s.cfg.panels[p].inUse = true →
      (s.lin.debounce (.key p key)).level = .active →
      s.cfg.panels[p].keySamples ≤ (s.lin.debounce (.key p key)).run →
      exec (.keyRelease p key) s =
        .next (s.withPart (s.setDebounce (.key p key) { level := .inactive, run := 0, previous := none }))) ∧
    (∀ l : CallId, s.cfg.calls[l].inUse = true → (s.lin.call[l]).level = .active →
      s.cfg.calls[l].callSamples ≤ (s.lin.call[l]).run →
      exec (.callFallingEdge l) s = .next (s.withPart { s.toPart with
        lin := { s.lin with call := s.lin.call.set l { level := .inactive } } })) ∧
    (∀ (line : Line) (active : Bool), s.cfg.lineInUse line = true →
      (s.lin.debounce line).level = .unknown → (s.lin.debounce line).previous = some active →
      s.cfg.sampleCount line ≤ (s.lin.debounce line).run →
      exec (.levelQualifiedFromUnknown line) s = .next (s.withPart (s.setDebounce line
        { level := if active then .active else .inactive, run := 0, previous := none }))) ∧
    (∀ line : Line, (s.lin.debounce line).run < s.cfg.sampleCount line →
      exec (.levelQualifiedFromUnknown line) s = .next s) ∧
    ∀ p : PanelId, (s.lin.keep[p]).run < s.cfg.panels[p].keySamples →
      exec (.keepPress p) s = .next s ∧ exec (.keyRelease p .keep) s = .next s

/-- The panel keys. A KEEP press that is not effective, in SETUP or in NIGHT without night_panels, changes the key's
level alone, D being computed again (R92). An effective one that matches no live hold, with room and no
contradiction, holds the panel's zone on for keep_min minutes; one that matches the panel's hold renews it for
keep_min minutes from the present minute; and one refused runs the refusal timer for 5 s with a fast lamp, placing
nothing. A CLEAR press retires the panel's hold on its zone, giving up what it asked for as FollowsRetirement says,
and clears the timer, as its expiry does (R54, R56, R66, R70, R154 to R157). That the timer ends at an uptime second
is inferred (log entry 9), as is that an edge is taken at its own row (log entry 10); that D as last computed is
held is the model's choice (log entry 11). -/
def Obligations.PanelKeys : Prop :=
  ∀ (s : State) (p : PanelId), s.working = true → s.cfg.panels[p].inUse = true →
    let c := s.cfg.panels[p]
    let pressed (d : Debounce) : Prop := d.level = .inactive ∧ c.keySamples ≤ d.run
    let expiry := some (s.minute + c.keepMin)
    (pressed (s.lin.keep[p]) →
      (s.mode = .setup ∨ (s.mode = .night ∧ (s.cfg.active.valid = false ∨ s.cfg.active.nightPanels = false)) →
        exec (.keepPress p) s = .next (s.withPart { s.toPart with
          lin := { s.lin with keep := s.lin.keep.set p { level := .active } }, dgv := s.demandTaken })) ∧
      (s.mode = .day ∨ s.mode = .windDown ∨ s.mode = .wake ∨
          (s.mode = .night ∧ s.cfg.active.valid = true ∧ s.cfg.active.nightPanels = true) →
        (s.zoneMembers c.zone).isEmpty = false → 1 ≤ c.keepMin → c.keepMin ≤ 900 →
        (∀ h, s.matching .keepOn (.zone c.zone) (.panel p) = some h →
          ∃ t : State, exec (.keepPress p) s = .next t ∧
            t.holds = (s.holds.map fun y => if y.id = h.id then
              { h with expiry := expiry, renewals := min 255 (h.renewals + 1), reason := 0 } else y) ∧
            t.nextId = s.nextId ∧ t.lin.refusal[p] = none ∧ (t.lin.lamps[p]).pattern = t.lampPattern p ∧
            (t.lin.keep[p]).level = .active ∧ t.flm = s.flm ∧ t.cfs = s.cfs) ∧
        (s.matching .keepOn (.zone c.zone) (.panel p) = none → s.holds.length < 48 →
          s.keepOnConflict (.zone c.zone) = false →
          ∃ t : State, exec (.keepPress p) s = .next t ∧
            t.holds = insertHold { id := s.nextId, kind := .keepOn, target := .zone c.zone, owner := .panel p
                                   expiry := expiry, placedAt := s.minute, renewals := 0, reason := 0 } s.holds ∧
            t.lin.refusal[p] = none ∧ (t.lin.keep[p]).level = .active ∧ t.flm = s.flm ∧ t.cfs = s.cfs) ∧
        (s.matching .keepOn (.zone c.zone) (.panel p) = none →
          48 ≤ s.holds.length ∨ s.keepOnConflict (.zone c.zone) = true →
          ∃ t : State, exec (.keepPress p) s = .next t ∧ t.holds = s.holds ∧ t.nextId = s.nextId ∧
            t.lin.refusal[p] = some (s.now + 5) ∧ (t.lin.lamps[p]).pattern = .fast ∧
            (t.lin.keep[p]).level = .active ∧ t.flm = s.flm ∧ t.cfs = s.cfs))) ∧
    (pressed (s.lin.clear[p]) → s.HoldsOk → ∃ t : State, exec (.clearPress p) s = .next t ∧
      t.holds = (s.holds.filter fun h => !(h.owner = .panel p && h.target = .zone c.zone)) ∧
      t.lin.refusal[p] = none ∧ (t.lin.clear[p]).level = .active ∧ t.nextId = s.nextId ∧
      (∀ h, (s.holds.filter fun h => h.owner = .panel p && h.target = .zone c.zone) = [h] → s.LoadsOk → s.ClockOk →
        s.FollowsRetirement t.toPart h) ∧
      t.flm = s.flm ∧ t.cfs = s.cfs) ∧
    ∀ until_, s.lin.refusal[p] = some until_ →
      (s.now < until_ → exec (.refusalTimerExpiry p) s = .next s) ∧
      (until_ ≤ s.now → ∃ t : State, exec (.refusalTimerExpiry p) s = .next t ∧
        t.lin.refusal = s.lin.refusal.set p none ∧ (t.lin.lamps[p]).pattern = t.lampPattern p ∧
        t.holds = s.holds ∧ t.loads = s.loads ∧ t.ncc = s.ncc ∧ t.cfg = s.cfg)

/-- A rising call line. Not effective, it changes its level alone. Effective, with no hold of its own, it holds
its group on for call_min minutes; with one, it renews it to call_min minutes from the present minute; refused FULL or
CONFLICT, it places nothing and raises START_FAILED with the group and the refusal (R54, R56, R160, R162). That an
edge whose count is complete is taken at its own row is inferred (log entry 10). -/
def Obligations.CallRisingEdge : Prop :=
  ∀ (s : State) (l : CallId), s.working = true → s.cfg.calls[l].inUse = true →
    (s.lin.call[l]).level = .inactive → s.cfg.calls[l].callSamples ≤ (s.lin.call[l]).run →
    let g := s.cfg.calls[l].group
    (s.callEffective l = false → exec (.callRisingEdge l) s = .next (s.withPart { s.toPart with
      lin := { s.lin with call := s.lin.call.set l { level := .active } } })) ∧
    (s.callEffective l = true → (s.group g).inUse = true → 1 ≤ s.cfg.calls[l].callMin →
      s.cfg.calls[l].callMin ≤ 900 → ∀ h, s.matching .keepOn (.group g) (.call l) = some h →
      ∃ t : State, exec (.callRisingEdge l) s = .next t ∧
        t.holds = (s.holds.map fun y => if y.id = h.id then
          { h with expiry := some (s.minute + s.cfg.calls[l].callMin), renewals := min 255 (h.renewals + 1)
                   reason := 0 } else y) ∧
        t.nextId = s.nextId ∧ (t.lin.call[l]).level = .active ∧ t.flm = s.flm ∧ t.cfs = s.cfs) ∧
    (s.callEffective l = true → (s.group g).inUse = true → s.matching .keepOn (.group g) (.call l) = none →
      (s.holds.length < 48 → s.keepOnConflict (.group g) = false → 1 ≤ s.cfg.calls[l].callMin →
        s.cfg.calls[l].callMin ≤ 900 →
        ∃ t : State, exec (.callRisingEdge l) s = .next t ∧
          t.holds = insertHold { id := s.nextId, kind := .keepOn, target := .group g, owner := .call l
                                 expiry := some (s.minute + s.cfg.calls[l].callMin), placedAt := s.minute
                                 renewals := 0, reason := 0 } s.holds ∧
          (t.lin.call[l]).level = .active ∧ t.flm = s.flm ∧ t.cfs = s.cfs) ∧
      (48 ≤ s.holds.length ∨ s.keepOnConflict (.group g) = true → s.wakeSettled →
        ∃ t : State, exec (.callRisingEdge l) s = .next t ∧ t.holds = s.holds ∧ t.loads = s.loads ∧
          (t.lin.call[l]).level = .active ∧ t.atl.pending.getLsbD 3 = true ∧
          t.atl.details[3] = some (.callRefused g (decide (48 ≤ s.holds.length))) ∧
          t.flm = s.flm ∧ t.cfs = s.cfs))

/-! ## What every step keeps -/

/-- Who may change the records, the port settings in effect, uptime and clock, the holds, the store and the two causes
of the held condition. A reset may be carried out at three rows: POWER ON, RESET LINE RELEASE, and RESULT END, the end
of the result of a RESET command. The records other than the plan slots change only at their own write and at those
three, and the enable set at its command and those; the port settings in effect at those three, RESULT END being also
where a new port record takes effect; uptime only at an uptime second, POWER ON and RESET LINE RELEASE, and the clock
there and at SET CLOCK; the holds and the next id only at the rows that place, renew or retire holds and at the three;
the Configuration Store's state only at the rows of a SAVE, of the supply and of the reset line, and at RESULT END;
and the two causes only at the rows of the supply, of the reset line and of a reset (R10, R53, R105, R106, R108, R168,
R187, R194, R197, R203, R204). -/
def Obligations.OnlyItsCommandsChangeIt : Prop :=
  ∀ (s t : State) (c : Instr), exec c s = .next t →
    (c.mayReset = false →
      ((∀ n r, c ≠ .writeLoadConfig n r) → t.cfg.loads = s.cfg.loads) ∧
      ((∀ n r, c ≠ .writeGroup n r) → t.cfg.groups = s.cfg.groups) ∧
      ((∀ n r, c ≠ .writeZone n r) → t.cfg.zones = s.cfg.zones) ∧
      ((∀ r, c ≠ .writeLink r) → t.cfg.link = s.cfg.link) ∧
      ((∀ n r, c ≠ .writePanel n r) → t.cfg.panels = s.cfg.panels) ∧
      ((∀ n r, c ≠ .writeCall n r) → t.cfg.calls = s.cfg.calls) ∧
      ((∀ r, c ≠ .writeMeter r) → t.cfg.meter = s.cfg.meter) ∧
      ((∀ a b d, c ≠ .writePort a b d) → t.cfg.port = s.cfg.port) ∧
      ((∀ e, c ≠ .setAttentionEnable e) → t.cfg.enable = s.cfg.enable) ∧
      t.svp.inEffect = s.svp.inEffect ∧ t.svp.lastReset = s.svp.lastReset) ∧
    (c ≠ .uptimeSecond → c ≠ .powerOn → c ≠ .resetLineRelease →
      t.ncc.uptime = s.ncc.uptime ∧ ((∀ m x, c ≠ .setClock m x) → t.ncc.clock = s.ncc.clock)) ∧
    (c.mayChangeHolds = false → t.holds = s.holds ∧ t.nextId = s.nextId) ∧
    (c.mayChangeStore = false → t.cfs = s.cfs) ∧
    (c.actsWhileHeld = false → c.mayReset = false → t.power = s.power)

/-- A new part right after power-on, its storage erased: mode SETUP, uptime 0, an invalid clock, no hold and
the next id 1, every slot UNUSED, an empty queue, both ceilings those of no plan, the link in RUN, every cause
enabled and only STORE pending with FAULT, LOAD, the image BAD, and the line asserted; and it meets every
invariant of these statements. That the storage is erased is the model's choice of a new part (R16, R48, R77,
R104, R130, R150, R195, R200; log entry 4). -/
def Obligations.NewPartAfterPowerOn : Prop :=
  (State.reset.ncc.mode = .setup ∧ State.reset.ncc.uptime = 0 ∧ State.reset.ncc.clock.valid = false ∧
    State.reset.holds = [] ∧ State.reset.nextId = 1 ∧ State.reset.dgv.queue = [] ∧
    (∀ n : LoadId, (State.reset.load n).phase = .unused) ∧
    State.reset.dgv.ceilingI = { value := 60000, source := .plan } ∧
    State.reset.dgv.ceilingD = { value := 0, source := .plan } ∧ State.reset.flm.link = .run ∧
    State.reset.cfg.enable = 0xFF ∧ State.reset.atl.pending = 0x80 ∧
    State.reset.atl.details[7] = some (.store false true) ∧ State.reset.cfs.image = .bad ∧
    State.reset.attentionLine = true ∧ State.reset.pending = []) ∧
  State.reset.RecordsOk ∧ State.reset.HoldsOk ∧ State.reset.HoldsAgree ∧ State.reset.PlantOk ∧
  State.reset.StoreOk ∧ State.reset.ClockOk ∧ State.reset.wakeSettled
end

