-- ==== Sys2Proof/Laws/Derived.lean ====
section
/-! SUPPORT. What the derived relations read: the plant validation and the need graph read the records alone (R13),
the schedule's points the ACTIVE plan, the plant clock and uptime alone (R107, R114, R127), the polled set the load
records and the permits the states of the loads (R20, R132). -/

namespace Sys2Proof.Machine

/-- The plant validation reads the records alone (R13). -/
theorem Part.validate_of_records {s t : Part} (h : t.cfg = s.cfg) : t.validate = s.validate := by
  cases s; cases t; cases h; rfl

/-- So does the need graph (R9). -/
theorem Part.depth_of_records {s t : Part} (h : t.cfg = s.cfg) (n : LoadId) : t.depth n = s.depth n := by
  cases s; cases t; cases h; rfl

/-- A schedule in force, its points and the class of the moment read the ACTIVE plan, the plant clock and uptime
alone (R107, R114, R115, R120, R127). -/
theorem Part.schedule_of_clock {s t : Part} (h : t.cfg.active = s.cfg.active) (c : t.ncc.clock = s.ncc.clock)
    (u : t.ncc.uptime = s.ncc.uptime) :
    t.scheduled = s.scheduled ∧ t.classify = s.classify ∧ t.wakeTarget = s.wakeTarget ∧
      t.latestWakeTarget = s.latestWakeTarget ∧ ∀ mark, t.nextNight mark = s.nextNight mark := by
  have scheduled : t.scheduled = s.scheduled := by simp only [Part.scheduled, h, c]
  have start : t.minuteStart = s.minuteStart := by simp only [Part.minuteStart, Part.now, c, u]
  have next : t.nextOccurrence = s.nextOccurrence := by funext m; simp only [Part.nextOccurrence, start, c]
  have night (mark : Option Nat) : t.nextNight mark = s.nextNight mark := by
    simp only [Part.nextNight, scheduled, h, next]
  have latest : t.latestWakeTarget = s.latestWakeTarget := by
    have after : t.wakeTargetAfter = s.wakeTargetAfter := by
      funext m; simp only [Part.wakeTargetAfter, start, c, h]
    simp only [Part.latestWakeTarget, Part.latestNight, after, c, h]
  refine ⟨scheduled, ?_, ?_, latest, night⟩
  · simp only [Part.classify, Part.classifyAwake, latest, night, Part.now, u]
    rfl
  · simp only [Part.wakeTarget, scheduled, h, next]

/-- The polled set is read from the load records alone (R132). -/
theorem Part.polled_of_records {s t : Part} (h : t.cfg.loads = s.cfg.loads) (k : StationId) :
    t.polled k = s.polled k := by
  simp [Part.polled, Settings.polled, h]

/-- The permits are read from the states of the loads alone (R20). -/
theorem Part.permits_of_loads {s t : Part} (h : t.loads = s.loads) (k : StationId) : t.permits k = s.permits k := by
  have load : t.load = s.load := by funext n; simp only [Part.load, h]
  exact congrArg (fun f : LoadId → LoadRecord =>
    (show BitVec 4 from BitVec.ofBoolListLE ((slotsOf k).map fun n => (f n).phase.permit))) load

end Sys2Proof.Machine
end

