-- ==== Sys2Proof/Laws/State.lean ====
section
/-! SUPPORT. What each named update of the part makes of each of its fields, and of what is read most from
them: one lemma per field per update, each true by unfolding. -/

namespace Sys2Proof.Machine

/-! ## The machine's own updates -/

@[simp] theorem State.withPending_pending (s : State) (q : List Instr) : (s.withPending q).pending = q := rfl
@[simp] theorem State.withPending_toPart (s : State) (q : List Instr) : (s.withPending q).toPart = s.toPart := rfl
@[simp] theorem State.withPart_pending (s : State) (p : Part) : (s.withPart p).pending = s.pending := rfl
@[simp] theorem State.withPart_toPart (s : State) (p : Part) : (s.withPart p).toPart = p := rfl
@[simp] theorem State.answered_pending (s : State) (c : Instr) (p : Part) (a : Answer) :
    (s.answered c p a).pending = s.pending := rfl
@[simp] theorem State.answered_toPart (s : State) (c : Instr) (p : Part) (a : Answer) :
    (s.answered c p a).toPart = p.answer c a := rfl

/-! ## Two tables read after a write -/

theorem Part.setLoad_load (s : Part) (n k : LoadId) (r : LoadRecord) :
    (s.setLoad n r).load k = if k = n then r else s.load k := by
  simp only [Part.load, Part.setLoad, Fin.getElem_fin, Vector.getElem_set]
  by_cases h : k = n
  · subst h; simp
  · have : n.val ≠ k.val := fun e => h (Fin.ext e.symm)
    simp [h, this]

@[simp] theorem Part.setLoad_load_self (s : Part) (n : LoadId) (r : LoadRecord) :
    (s.setLoad n r).load n = r := by simp [Part.setLoad_load]

theorem Part.setLoad_load_ne (s : Part) {n k : LoadId} (r : LoadRecord) (h : k ≠ n) :
    (s.setLoad n r).load k = s.load k := by simp [Part.setLoad_load, h]

theorem Part.setPhase_load (s : Part) (n k : LoadId) (p : LoadPhase) :
    (s.setPhase n p).load k = if k = n then { s.load n with phase := p, changed := true } else s.load k :=
  Part.setLoad_load s n k _

theorem Part.setStation_station (s : Part) (k j : StationId) (r : Station) :
    (s.setStation k r).station j = if j = k then r else s.station j := by
  simp only [Part.station, Part.setStation, Fin.getElem_fin, Vector.getElem_set]
  by_cases h : j = k
  · subst h; simp
  · have : k.val ≠ j.val := fun e => h (Fin.ext e.symm)
    simp [h, this]

@[simp] theorem Part.setStation_station_self (s : Part) (k : StationId) (r : Station) :
    (s.setStation k r).station k = r := by simp [Part.setStation_station]


/-! ## setLoad -/

@[simp] theorem Part.setLoad_power (s : Part) (n : LoadId) (r : LoadRecord) :
    (s.setLoad n r).power =
    s.power := rfl
@[simp] theorem Part.setLoad_cfg (s : Part) (n : LoadId) (r : LoadRecord) : (s.setLoad n r).cfg = s.cfg := rfl
@[simp] theorem Part.setLoad_loads (s : Part) (n : LoadId) (r : LoadRecord) :
    (s.setLoad n r).loads =
    s.loads.set n r := rfl
@[simp] theorem Part.setLoad_holds (s : Part) (n : LoadId) (r : LoadRecord) :
    (s.setLoad n r).holds =
    s.holds := rfl
@[simp] theorem Part.setLoad_nextId (s : Part) (n : LoadId) (r : LoadRecord) :
    (s.setLoad n r).nextId =
    s.nextId := rfl
@[simp] theorem Part.setLoad_dgv (s : Part) (n : LoadId) (r : LoadRecord) : (s.setLoad n r).dgv = s.dgv := rfl
@[simp] theorem Part.setLoad_ncc (s : Part) (n : LoadId) (r : LoadRecord) : (s.setLoad n r).ncc = s.ncc := rfl
@[simp] theorem Part.setLoad_flm (s : Part) (n : LoadId) (r : LoadRecord) : (s.setLoad n r).flm = s.flm := rfl
@[simp] theorem Part.setLoad_lin (s : Part) (n : LoadId) (r : LoadRecord) : (s.setLoad n r).lin = s.lin := rfl
@[simp] theorem Part.setLoad_svp (s : Part) (n : LoadId) (r : LoadRecord) : (s.setLoad n r).svp = s.svp := rfl
@[simp] theorem Part.setLoad_atl (s : Part) (n : LoadId) (r : LoadRecord) : (s.setLoad n r).atl = s.atl := rfl
@[simp] theorem Part.setLoad_cfs (s : Part) (n : LoadId) (r : LoadRecord) : (s.setLoad n r).cfs = s.cfs := rfl
@[simp] theorem Part.setLoad_freeCount (s : Part) (n : LoadId) (r : LoadRecord) :
    (s.setLoad n r).freeCount =
    s.freeCount := rfl
@[simp] theorem Part.setLoad_checksDue (s : Part) (n : LoadId) (r : LoadRecord) :
    (s.setLoad n r).checksDue =
    s.checksDue := rfl
@[simp] theorem Part.setLoad_now (s : Part) (n : LoadId) (r : LoadRecord) : (s.setLoad n r).now = s.now := rfl
@[simp] theorem Part.setLoad_mode (s : Part) (n : LoadId) (r : LoadRecord) :
    (s.setLoad n r).mode = s.mode := rfl
@[simp] theorem Part.setLoad_config (s : Part) (n : LoadId) (r : LoadRecord) (k : LoadId) :
    (s.setLoad n r).config k = s.config k := rfl
@[simp] theorem Part.setLoad_inUse (s : Part) (n : LoadId) (r : LoadRecord) (k : LoadId) :
    (s.setLoad n r).inUse k = s.inUse k := rfl
@[simp] theorem Part.setLoad_station (s : Part) (n : LoadId) (r : LoadRecord) (k : StationId) :
    (s.setLoad n r).station k = s.station k := rfl
@[simp] theorem Part.setLoad_onCount (s : Part) (n : LoadId) (r : LoadRecord) (k : LoadId) :
    (s.setLoad n r).onCount k = s.onCount k := rfl
@[simp] theorem Part.setLoad_offCount (s : Part) (n : LoadId) (r : LoadRecord) (k : LoadId) :
    (s.setLoad n r).offCount k = s.offCount k := rfl

/-! ## noteInputs -/

@[simp] theorem Part.noteInputs_power (b s : Part) : (b.noteInputs s).power = s.power := rfl
@[simp] theorem Part.noteInputs_cfg (b s : Part) : (b.noteInputs s).cfg = s.cfg := rfl
@[simp] theorem Part.noteInputs_loads (b s : Part) : (b.noteInputs s).loads = s.loads := rfl
@[simp] theorem Part.noteInputs_holds (b s : Part) : (b.noteInputs s).holds = s.holds := rfl
@[simp] theorem Part.noteInputs_nextId (b s : Part) : (b.noteInputs s).nextId = s.nextId := rfl
@[simp] theorem Part.noteInputs_dgv (b s : Part) : (b.noteInputs s).dgv = s.dgv := rfl
@[simp] theorem Part.noteInputs_ncc (b s : Part) : (b.noteInputs s).ncc = s.ncc := rfl
@[simp] theorem Part.noteInputs_flm (b s : Part) : (b.noteInputs s).flm = s.flm := rfl
@[simp] theorem Part.noteInputs_lin (b s : Part) : (b.noteInputs s).lin = s.lin := rfl
@[simp] theorem Part.noteInputs_svp (b s : Part) : (b.noteInputs s).svp = s.svp := rfl
@[simp] theorem Part.noteInputs_atl (b s : Part) : (b.noteInputs s).atl = s.atl := rfl
@[simp] theorem Part.noteInputs_cfs (b s : Part) : (b.noteInputs s).cfs = s.cfs := rfl
@[simp] theorem Part.noteInputs_freeCount (b s : Part) : (b.noteInputs s).freeCount = s.freeCount := rfl
@[simp] theorem Part.noteInputs_checksDue (b s : Part) :
    (b.noteInputs s).checksDue = s.checksDue ++ b.changedInputs s := rfl
@[simp] theorem Part.noteInputs_now (b s : Part) :
    (b.noteInputs s).now = s.now := rfl
@[simp] theorem Part.noteInputs_mode (b s : Part) :
    (b.noteInputs s).mode = s.mode := rfl
@[simp] theorem Part.noteInputs_load (b s : Part) (k : LoadId) :
    (b.noteInputs s).load k = s.load k := rfl
@[simp] theorem Part.noteInputs_config (b s : Part) (k : LoadId) :
    (b.noteInputs s).config k = s.config k := rfl
@[simp] theorem Part.noteInputs_inUse (b s : Part) (k : LoadId) :
    (b.noteInputs s).inUse k = s.inUse k := rfl
@[simp] theorem Part.noteInputs_station (b s : Part) (k : StationId) :
    (b.noteInputs s).station k = s.station k := rfl
@[simp] theorem Part.noteInputs_onCount (b s : Part) (k : LoadId) :
    (b.noteInputs s).onCount k = s.onCount k := rfl
@[simp] theorem Part.noteInputs_offCount (b s : Part) (k : LoadId) :
    (b.noteInputs s).offCount k = s.offCount k := rfl

/-! ## settleChecks -/

@[simp] theorem Part.settleChecks_power (b s : Part) : (b.settleChecks s).power = s.power := rfl
@[simp] theorem Part.settleChecks_cfg (b s : Part) : (b.settleChecks s).cfg = s.cfg := rfl
@[simp] theorem Part.settleChecks_loads (b s : Part) : (b.settleChecks s).loads = s.loads := rfl
@[simp] theorem Part.settleChecks_holds (b s : Part) : (b.settleChecks s).holds = s.holds := rfl
@[simp] theorem Part.settleChecks_nextId (b s : Part) : (b.settleChecks s).nextId = s.nextId := rfl
@[simp] theorem Part.settleChecks_dgv (b s : Part) : (b.settleChecks s).dgv = s.dgv := rfl
@[simp] theorem Part.settleChecks_ncc (b s : Part) : (b.settleChecks s).ncc = s.ncc := rfl
@[simp] theorem Part.settleChecks_flm (b s : Part) : (b.settleChecks s).flm = s.flm := rfl
@[simp] theorem Part.settleChecks_lin (b s : Part) : (b.settleChecks s).lin = s.lin := rfl
@[simp] theorem Part.settleChecks_svp (b s : Part) : (b.settleChecks s).svp = s.svp := rfl
@[simp] theorem Part.settleChecks_atl (b s : Part) : (b.settleChecks s).atl = s.atl := rfl
@[simp] theorem Part.settleChecks_cfs (b s : Part) : (b.settleChecks s).cfs = s.cfs := rfl
@[simp] theorem Part.settleChecks_freeCount (b s : Part) : (b.settleChecks s).freeCount = s.freeCount := rfl
@[simp] theorem Part.settleChecks_checksDue (b s : Part) : (b.settleChecks s).checksDue = b.checksDue := rfl
@[simp] theorem Part.settleChecks_now (b s : Part) :
    (b.settleChecks s).now = s.now := rfl
@[simp] theorem Part.settleChecks_mode (b s : Part) :
    (b.settleChecks s).mode = s.mode := rfl
@[simp] theorem Part.settleChecks_load (b s : Part) (k : LoadId) :
    (b.settleChecks s).load k = s.load k := rfl
@[simp] theorem Part.settleChecks_config (b s : Part) (k : LoadId) :
    (b.settleChecks s).config k = s.config k := rfl
@[simp] theorem Part.settleChecks_inUse (b s : Part) (k : LoadId) :
    (b.settleChecks s).inUse k = s.inUse k := rfl
@[simp] theorem Part.settleChecks_station (b s : Part) (k : StationId) :
    (b.settleChecks s).station k = s.station k := rfl
@[simp] theorem Part.settleChecks_onCount (b s : Part) (k : LoadId) :
    (b.settleChecks s).onCount k = s.onCount k := rfl
@[simp] theorem Part.settleChecks_offCount (b s : Part) (k : LoadId) :
    (b.settleChecks s).offCount k = s.offCount k := rfl

/-! ## moveLoad -/

@[simp] theorem Part.moveLoad_power (s : Part) (n : LoadId) (r : LoadRecord) : (s.moveLoad n r).power = s.power := rfl
@[simp] theorem Part.moveLoad_cfg (s : Part) (n : LoadId) (r : LoadRecord) : (s.moveLoad n r).cfg = s.cfg := rfl
@[simp] theorem Part.moveLoad_loads (s : Part) (n : LoadId) (r : LoadRecord) :
    (s.moveLoad n r).loads = s.loads.set n r := rfl
@[simp] theorem Part.moveLoad_holds (s : Part) (n : LoadId) (r : LoadRecord) : (s.moveLoad n r).holds = s.holds := rfl
@[simp] theorem Part.moveLoad_nextId (s : Part) (n : LoadId) (r : LoadRecord) :
    (s.moveLoad n r).nextId = s.nextId := rfl
@[simp] theorem Part.moveLoad_dgv (s : Part) (n : LoadId) (r : LoadRecord) : (s.moveLoad n r).dgv = s.dgv := rfl
@[simp] theorem Part.moveLoad_ncc (s : Part) (n : LoadId) (r : LoadRecord) : (s.moveLoad n r).ncc = s.ncc := rfl
@[simp] theorem Part.moveLoad_flm (s : Part) (n : LoadId) (r : LoadRecord) : (s.moveLoad n r).flm = s.flm := rfl
@[simp] theorem Part.moveLoad_lin (s : Part) (n : LoadId) (r : LoadRecord) : (s.moveLoad n r).lin = s.lin := rfl
@[simp] theorem Part.moveLoad_svp (s : Part) (n : LoadId) (r : LoadRecord) : (s.moveLoad n r).svp = s.svp := rfl
@[simp] theorem Part.moveLoad_atl (s : Part) (n : LoadId) (r : LoadRecord) : (s.moveLoad n r).atl = s.atl := rfl
@[simp] theorem Part.moveLoad_cfs (s : Part) (n : LoadId) (r : LoadRecord) : (s.moveLoad n r).cfs = s.cfs := rfl
@[simp] theorem Part.moveLoad_freeCount (s : Part) (n : LoadId) (r : LoadRecord) :
    (s.moveLoad n r).freeCount = s.freeCount := rfl
@[simp] theorem Part.moveLoad_checksDue (s : Part) (n : LoadId) (r : LoadRecord) :
    (s.moveLoad n r).checksDue = s.checksDue ++ s.changedInputs (s.setLoad n r) := rfl
theorem Part.moveLoad_load (s : Part) (n k : LoadId) (r : LoadRecord) :
    (s.moveLoad n r).load k = if k = n then r else s.load k := Part.setLoad_load s n k r
@[simp] theorem Part.moveLoad_load_self (s : Part) (n : LoadId) (r : LoadRecord) :
    (s.moveLoad n r).load n = r := Part.setLoad_load_self s n r
@[simp] theorem Part.moveLoad_now (s : Part) (n : LoadId) (r : LoadRecord) :
    (s.moveLoad n r).now = s.now := rfl
@[simp] theorem Part.moveLoad_mode (s : Part) (n : LoadId) (r : LoadRecord) :
    (s.moveLoad n r).mode = s.mode := rfl
@[simp] theorem Part.moveLoad_config (s : Part) (n : LoadId) (r : LoadRecord) (k : LoadId) :
    (s.moveLoad n r).config k = s.config k := rfl
@[simp] theorem Part.moveLoad_inUse (s : Part) (n : LoadId) (r : LoadRecord) (k : LoadId) :
    (s.moveLoad n r).inUse k = s.inUse k := rfl
@[simp] theorem Part.moveLoad_station (s : Part) (n : LoadId) (r : LoadRecord) (k : StationId) :
    (s.moveLoad n r).station k = s.station k := rfl
@[simp] theorem Part.moveLoad_onCount (s : Part) (n : LoadId) (r : LoadRecord) (k : LoadId) :
    (s.moveLoad n r).onCount k = s.onCount k := rfl
@[simp] theorem Part.moveLoad_offCount (s : Part) (n : LoadId) (r : LoadRecord) (k : LoadId) :
    (s.moveLoad n r).offCount k = s.offCount k := rfl

/-! ## setPhase -/

@[simp] theorem Part.setPhase_power (s : Part) (n : LoadId) (p : LoadPhase) :
    (s.setPhase n p).power =
    s.power := rfl
@[simp] theorem Part.setPhase_cfg (s : Part) (n : LoadId) (p : LoadPhase) :
    (s.setPhase n p).cfg =
    s.cfg := rfl
@[simp] theorem Part.setPhase_loads (s : Part) (n : LoadId) (p : LoadPhase) :
    (s.setPhase n p).loads =
    s.loads.set n { s.load n with phase := p, changed := true } := rfl
@[simp] theorem Part.setPhase_holds (s : Part) (n : LoadId) (p : LoadPhase) :
    (s.setPhase n p).holds =
    s.holds := rfl
@[simp] theorem Part.setPhase_nextId (s : Part) (n : LoadId) (p : LoadPhase) :
    (s.setPhase n p).nextId =
    s.nextId := rfl
@[simp] theorem Part.setPhase_dgv (s : Part) (n : LoadId) (p : LoadPhase) :
    (s.setPhase n p).dgv =
    s.dgv := rfl
@[simp] theorem Part.setPhase_ncc (s : Part) (n : LoadId) (p : LoadPhase) :
    (s.setPhase n p).ncc =
    s.ncc := rfl
@[simp] theorem Part.setPhase_flm (s : Part) (n : LoadId) (p : LoadPhase) :
    (s.setPhase n p).flm =
    s.flm := rfl
@[simp] theorem Part.setPhase_lin (s : Part) (n : LoadId) (p : LoadPhase) :
    (s.setPhase n p).lin =
    s.lin := rfl
@[simp] theorem Part.setPhase_svp (s : Part) (n : LoadId) (p : LoadPhase) :
    (s.setPhase n p).svp =
    s.svp := rfl
@[simp] theorem Part.setPhase_atl (s : Part) (n : LoadId) (p : LoadPhase) :
    (s.setPhase n p).atl =
    s.atl := rfl
@[simp] theorem Part.setPhase_cfs (s : Part) (n : LoadId) (p : LoadPhase) :
    (s.setPhase n p).cfs =
    s.cfs := rfl
@[simp] theorem Part.setPhase_freeCount (s : Part) (n : LoadId) (p : LoadPhase) :
    (s.setPhase n p).freeCount =
    s.freeCount := rfl
@[simp] theorem Part.setPhase_now (s : Part) (n : LoadId) (p : LoadPhase) :
    (s.setPhase n p).now = s.now := rfl
@[simp] theorem Part.setPhase_mode (s : Part) (n : LoadId) (p : LoadPhase) :
    (s.setPhase n p).mode = s.mode := rfl
@[simp] theorem Part.setPhase_config (s : Part) (n : LoadId) (p : LoadPhase) (k : LoadId) :
    (s.setPhase n p).config k = s.config k := rfl
@[simp] theorem Part.setPhase_inUse (s : Part) (n : LoadId) (p : LoadPhase) (k : LoadId) :
    (s.setPhase n p).inUse k = s.inUse k := rfl
@[simp] theorem Part.setPhase_station (s : Part) (n : LoadId) (p : LoadPhase) (k : StationId) :
    (s.setPhase n p).station k = s.station k := rfl
@[simp] theorem Part.setPhase_onCount (s : Part) (n : LoadId) (p : LoadPhase) (k : LoadId) :
    (s.setPhase n p).onCount k = s.onCount k := rfl
@[simp] theorem Part.setPhase_offCount (s : Part) (n : LoadId) (p : LoadPhase) (k : LoadId) :
    (s.setPhase n p).offCount k = s.offCount k := rfl

/-! ## setStation -/

@[simp] theorem Part.setStation_power (s : Part) (k₀ : StationId) (r : Station) :
    (s.setStation k₀ r).power =
    s.power := rfl
@[simp] theorem Part.setStation_cfg (s : Part) (k₀ : StationId) (r : Station) :
    (s.setStation k₀ r).cfg =
    s.cfg := rfl
@[simp] theorem Part.setStation_loads (s : Part) (k₀ : StationId) (r : Station) :
    (s.setStation k₀ r).loads =
    s.loads := rfl
@[simp] theorem Part.setStation_holds (s : Part) (k₀ : StationId) (r : Station) :
    (s.setStation k₀ r).holds =
    s.holds := rfl
@[simp] theorem Part.setStation_nextId (s : Part) (k₀ : StationId) (r : Station) :
    (s.setStation k₀ r).nextId =
    s.nextId := rfl
@[simp] theorem Part.setStation_dgv (s : Part) (k₀ : StationId) (r : Station) :
    (s.setStation k₀ r).dgv =
    s.dgv := rfl
@[simp] theorem Part.setStation_ncc (s : Part) (k₀ : StationId) (r : Station) :
    (s.setStation k₀ r).ncc =
    s.ncc := rfl
@[simp] theorem Part.setStation_flm (s : Part) (k₀ : StationId) (r : Station) :
    (s.setStation k₀ r).flm =
    { s.flm with stations := s.flm.stations.set k₀ r } := rfl
@[simp] theorem Part.setStation_lin (s : Part) (k₀ : StationId) (r : Station) :
    (s.setStation k₀ r).lin =
    s.lin := rfl
@[simp] theorem Part.setStation_svp (s : Part) (k₀ : StationId) (r : Station) :
    (s.setStation k₀ r).svp =
    s.svp := rfl
@[simp] theorem Part.setStation_atl (s : Part) (k₀ : StationId) (r : Station) :
    (s.setStation k₀ r).atl =
    s.atl := rfl
@[simp] theorem Part.setStation_cfs (s : Part) (k₀ : StationId) (r : Station) :
    (s.setStation k₀ r).cfs =
    s.cfs := rfl
@[simp] theorem Part.setStation_freeCount (s : Part) (k₀ : StationId) (r : Station) :
    (s.setStation k₀ r).freeCount =
    s.freeCount := rfl
@[simp] theorem Part.setStation_checksDue (s : Part) (k₀ : StationId) (r : Station) :
    (s.setStation k₀ r).checksDue =
    s.checksDue := rfl
@[simp] theorem Part.setStation_now (s : Part) (k₀ : StationId) (r : Station) :
    (s.setStation k₀ r).now = s.now := rfl
@[simp] theorem Part.setStation_mode (s : Part) (k₀ : StationId) (r : Station) :
    (s.setStation k₀ r).mode = s.mode := rfl
@[simp] theorem Part.setStation_config (s : Part) (k₀ : StationId) (r : Station) (k : LoadId) :
    (s.setStation k₀ r).config k = s.config k := rfl
@[simp] theorem Part.setStation_inUse (s : Part) (k₀ : StationId) (r : Station) (k : LoadId) :
    (s.setStation k₀ r).inUse k = s.inUse k := rfl
@[simp] theorem Part.setStation_load (s : Part) (k₀ : StationId) (r : Station) (k : LoadId) :
    (s.setStation k₀ r).load k = s.load k := rfl
@[simp] theorem Part.setStation_onCount (s : Part) (k₀ : StationId) (r : Station) (k : LoadId) :
    (s.setStation k₀ r).onCount k = s.onCount k := rfl
@[simp] theorem Part.setStation_offCount (s : Part) (k₀ : StationId) (r : Station) (k : LoadId) :
    (s.setStation k₀ r).offCount k = s.offCount k := rfl

/-! ## setQueue -/

@[simp] theorem Part.setQueue_power (s : Part) (q : List Entry) : (s.setQueue q).power = s.power := rfl
@[simp] theorem Part.setQueue_cfg (s : Part) (q : List Entry) : (s.setQueue q).cfg = s.cfg := rfl
@[simp] theorem Part.setQueue_loads (s : Part) (q : List Entry) : (s.setQueue q).loads = s.loads := rfl
@[simp] theorem Part.setQueue_holds (s : Part) (q : List Entry) : (s.setQueue q).holds = s.holds := rfl
@[simp] theorem Part.setQueue_nextId (s : Part) (q : List Entry) : (s.setQueue q).nextId = s.nextId := rfl
@[simp] theorem Part.setQueue_dgv (s : Part) (q : List Entry) :
    (s.setQueue q).dgv =
    { s.dgv with queue := q } := rfl
@[simp] theorem Part.setQueue_ncc (s : Part) (q : List Entry) : (s.setQueue q).ncc = s.ncc := rfl
@[simp] theorem Part.setQueue_flm (s : Part) (q : List Entry) : (s.setQueue q).flm = s.flm := rfl
@[simp] theorem Part.setQueue_lin (s : Part) (q : List Entry) : (s.setQueue q).lin = s.lin := rfl
@[simp] theorem Part.setQueue_svp (s : Part) (q : List Entry) : (s.setQueue q).svp = s.svp := rfl
@[simp] theorem Part.setQueue_atl (s : Part) (q : List Entry) : (s.setQueue q).atl = s.atl := rfl
@[simp] theorem Part.setQueue_cfs (s : Part) (q : List Entry) : (s.setQueue q).cfs = s.cfs := rfl
@[simp] theorem Part.setQueue_freeCount (s : Part) (q : List Entry) :
    (s.setQueue q).freeCount =
    s.freeCount := rfl
@[simp] theorem Part.setQueue_checksDue (s : Part) (q : List Entry) :
    (s.setQueue q).checksDue =
    s.checksDue := rfl
@[simp] theorem Part.setQueue_now (s : Part) (q : List Entry) : (s.setQueue q).now = s.now := rfl
@[simp] theorem Part.setQueue_mode (s : Part) (q : List Entry) : (s.setQueue q).mode = s.mode := rfl
@[simp] theorem Part.setQueue_config (s : Part) (q : List Entry) (k : LoadId) :
    (s.setQueue q).config k = s.config k := rfl
@[simp] theorem Part.setQueue_inUse (s : Part) (q : List Entry) (k : LoadId) :
    (s.setQueue q).inUse k = s.inUse k := rfl
@[simp] theorem Part.setQueue_load (s : Part) (q : List Entry) (k : LoadId) :
    (s.setQueue q).load k = s.load k := rfl
@[simp] theorem Part.setQueue_station (s : Part) (q : List Entry) (k : StationId) :
    (s.setQueue q).station k = s.station k := rfl
@[simp] theorem Part.setQueue_onCount (s : Part) (q : List Entry) (k : LoadId) :
    (s.setQueue q).onCount k = s.onCount k := rfl
@[simp] theorem Part.setQueue_offCount (s : Part) (q : List Entry) (k : LoadId) :
    (s.setQueue q).offCount k = s.offCount k := rfl

/-! ## reportChange -/

/-- What a report of a load's change can do: start a scan, and nothing else (R92, R98). -/
theorem Part.reportChange_eq (before after : Part) (n : LoadId) :
    before.reportChange after n = { after with dgv := { after.dgv with scanDue := after.dgv.scanDue ||
      (decide (after.contribution n < before.contribution n) ||
        (after.serving n && !before.serving n && before.needBecameSatisfied after)) } } := by
  unfold Part.reportChange
  cases fall : (decide (after.contribution n < before.contribution n) ||
    (after.serving n && !before.serving n && before.needBecameSatisfied after)) <;> simp_all [Part.startScan]

@[simp] theorem Part.reportChange_power (b s : Part) (n : LoadId) : (b.reportChange s n).power = s.power := by
  rw [Part.reportChange_eq]
@[simp] theorem Part.reportChange_cfg (b s : Part) (n : LoadId) : (b.reportChange s n).cfg = s.cfg := by
  rw [Part.reportChange_eq]
@[simp] theorem Part.reportChange_loads (b s : Part) (n : LoadId) : (b.reportChange s n).loads = s.loads := by
  rw [Part.reportChange_eq]
@[simp] theorem Part.reportChange_holds (b s : Part) (n : LoadId) : (b.reportChange s n).holds = s.holds := by
  rw [Part.reportChange_eq]
@[simp] theorem Part.reportChange_nextId (b s : Part) (n : LoadId) : (b.reportChange s n).nextId = s.nextId := by
  rw [Part.reportChange_eq]
@[simp] theorem Part.reportChange_ncc (b s : Part) (n : LoadId) : (b.reportChange s n).ncc = s.ncc := by
  rw [Part.reportChange_eq]
@[simp] theorem Part.reportChange_flm (b s : Part) (n : LoadId) : (b.reportChange s n).flm = s.flm := by
  rw [Part.reportChange_eq]
@[simp] theorem Part.reportChange_lin (b s : Part) (n : LoadId) : (b.reportChange s n).lin = s.lin := by
  rw [Part.reportChange_eq]
@[simp] theorem Part.reportChange_svp (b s : Part) (n : LoadId) : (b.reportChange s n).svp = s.svp := by
  rw [Part.reportChange_eq]
@[simp] theorem Part.reportChange_atl (b s : Part) (n : LoadId) : (b.reportChange s n).atl = s.atl := by
  rw [Part.reportChange_eq]
@[simp] theorem Part.reportChange_cfs (b s : Part) (n : LoadId) : (b.reportChange s n).cfs = s.cfs := by
  rw [Part.reportChange_eq]
@[simp] theorem Part.reportChange_freeCount (b s : Part) (n : LoadId) : (b.reportChange s n).freeCount = s.freeCount := by
  rw [Part.reportChange_eq]
@[simp] theorem Part.reportChange_checksDue (b s : Part) (n : LoadId) : (b.reportChange s n).checksDue = s.checksDue := by
  rw [Part.reportChange_eq]
@[simp] theorem Part.reportChange_queue (b s : Part) (n : LoadId) :
    (b.reportChange s n).dgv.queue = s.dgv.queue := by
  rw [Part.reportChange_eq]
@[simp] theorem Part.reportChange_nextSeq (b s : Part) (n : LoadId) :
    (b.reportChange s n).dgv.nextSeq = s.dgv.nextSeq := by
  rw [Part.reportChange_eq]
@[simp] theorem Part.reportChange_startingOrigin (b s : Part) (n : LoadId) :
    (b.reportChange s n).dgv.startingOrigin = s.dgv.startingOrigin := by
  rw [Part.reportChange_eq]
@[simp] theorem Part.reportChange_ceilingI (b s : Part) (n : LoadId) :
    (b.reportChange s n).dgv.ceilingI = s.dgv.ceilingI := by
  rw [Part.reportChange_eq]
@[simp] theorem Part.reportChange_ceilingD (b s : Part) (n : LoadId) :
    (b.reportChange s n).dgv.ceilingD = s.dgv.ceilingD := by
  rw [Part.reportChange_eq]
@[simp] theorem Part.reportChange_energy (b s : Part) (n : LoadId) :
    (b.reportChange s n).dgv.energy = s.dgv.energy := by
  rw [Part.reportChange_eq]
@[simp] theorem Part.reportChange_isPartial (b s : Part) (n : LoadId) :
    (b.reportChange s n).dgv.isPartial = s.dgv.isPartial := by
  rw [Part.reportChange_eq]
@[simp] theorem Part.reportChange_lastIntervalKw (b s : Part) (n : LoadId) :
    (b.reportChange s n).dgv.lastIntervalKw = s.dgv.lastIntervalKw := by
  rw [Part.reportChange_eq]
@[simp] theorem Part.reportChange_demand (b s : Part) (n : LoadId) :
    (b.reportChange s n).dgv.demand = s.dgv.demand := by
  rw [Part.reportChange_eq]
@[simp] theorem Part.reportChange_now (b s : Part) (n : LoadId) :
    (b.reportChange s n).now = s.now := by
  rw [Part.reportChange_eq]
  rfl
@[simp] theorem Part.reportChange_mode (b s : Part) (n : LoadId) :
    (b.reportChange s n).mode = s.mode := by
  rw [Part.reportChange_eq]
  rfl
@[simp] theorem Part.reportChange_config (b s : Part) (n : LoadId) (k : LoadId) :
    (b.reportChange s n).config k = s.config k := by
  rw [Part.reportChange_eq]
  rfl
@[simp] theorem Part.reportChange_load (b s : Part) (n : LoadId) (k : LoadId) :
    (b.reportChange s n).load k = s.load k := by
  rw [Part.reportChange_eq]
  rfl
@[simp] theorem Part.reportChange_inUse (b s : Part) (n : LoadId) (k : LoadId) :
    (b.reportChange s n).inUse k = s.inUse k := by
  rw [Part.reportChange_eq]
  rfl
@[simp] theorem Part.reportChange_onCount (b s : Part) (n : LoadId) (k : LoadId) :
    (b.reportChange s n).onCount k = s.onCount k := by
  rw [Part.reportChange_eq]
  rfl
@[simp] theorem Part.reportChange_offCount (b s : Part) (n : LoadId) (k : LoadId) :
    (b.reportChange s n).offCount k = s.offCount k := by
  rw [Part.reportChange_eq]
  rfl
@[simp] theorem Part.reportChange_station (b s : Part) (n : LoadId) (k : StationId) :
    (b.reportChange s n).station k = s.station k := by
  rw [Part.reportChange_eq]
  rfl

/-! ## startScan -/

@[simp] theorem Part.startScan_power (s : Part) : (s.startScan).power = s.power := rfl
@[simp] theorem Part.startScan_cfg (s : Part) : (s.startScan).cfg = s.cfg := rfl
@[simp] theorem Part.startScan_loads (s : Part) : (s.startScan).loads = s.loads := rfl
@[simp] theorem Part.startScan_holds (s : Part) : (s.startScan).holds = s.holds := rfl
@[simp] theorem Part.startScan_nextId (s : Part) : (s.startScan).nextId = s.nextId := rfl
@[simp] theorem Part.startScan_dgv (s : Part) : (s.startScan).dgv = { s.dgv with scanDue := true } := rfl
@[simp] theorem Part.startScan_ncc (s : Part) : (s.startScan).ncc = s.ncc := rfl
@[simp] theorem Part.startScan_flm (s : Part) : (s.startScan).flm = s.flm := rfl
@[simp] theorem Part.startScan_lin (s : Part) : (s.startScan).lin = s.lin := rfl
@[simp] theorem Part.startScan_svp (s : Part) : (s.startScan).svp = s.svp := rfl
@[simp] theorem Part.startScan_atl (s : Part) : (s.startScan).atl = s.atl := rfl
@[simp] theorem Part.startScan_cfs (s : Part) : (s.startScan).cfs = s.cfs := rfl
@[simp] theorem Part.startScan_freeCount (s : Part) : (s.startScan).freeCount = s.freeCount := rfl
@[simp] theorem Part.startScan_checksDue (s : Part) : (s.startScan).checksDue = s.checksDue := rfl
@[simp] theorem Part.startScan_now (s : Part) : (s.startScan).now = s.now := rfl
@[simp] theorem Part.startScan_mode (s : Part) : (s.startScan).mode = s.mode := rfl
@[simp] theorem Part.startScan_config (s : Part) (k : LoadId) : (s.startScan).config k = s.config k := rfl
@[simp] theorem Part.startScan_inUse (s : Part) (k : LoadId) : (s.startScan).inUse k = s.inUse k := rfl
@[simp] theorem Part.startScan_load (s : Part) (k : LoadId) : (s.startScan).load k = s.load k := rfl
@[simp] theorem Part.startScan_station (s : Part) (k : StationId) :
    (s.startScan).station k = s.station k := rfl
@[simp] theorem Part.startScan_onCount (s : Part) (k : LoadId) : (s.startScan).onCount k = s.onCount k := rfl
@[simp] theorem Part.startScan_offCount (s : Part) (k : LoadId) :
    (s.startScan).offCount k = s.offCount k := rfl

/-! ## setStartingOrigin -/

@[simp] theorem Part.setStartingOrigin_power (s : Part) (n : LoadId) (o : Option Origin) :
    (s.setStartingOrigin n o).power =
    s.power := rfl
@[simp] theorem Part.setStartingOrigin_cfg (s : Part) (n : LoadId) (o : Option Origin) :
    (s.setStartingOrigin n o).cfg =
    s.cfg := rfl
@[simp] theorem Part.setStartingOrigin_loads (s : Part) (n : LoadId) (o : Option Origin) :
    (s.setStartingOrigin n o).loads =
    s.loads := rfl
@[simp] theorem Part.setStartingOrigin_holds (s : Part) (n : LoadId) (o : Option Origin) :
    (s.setStartingOrigin n o).holds =
    s.holds := rfl
@[simp] theorem Part.setStartingOrigin_nextId (s : Part) (n : LoadId) (o : Option Origin) :
    (s.setStartingOrigin n o).nextId =
    s.nextId := rfl
@[simp] theorem Part.setStartingOrigin_dgv (s : Part) (n : LoadId) (o : Option Origin) :
    (s.setStartingOrigin n o).dgv =
    { s.dgv with startingOrigin := s.dgv.startingOrigin.set n o } := rfl
@[simp] theorem Part.setStartingOrigin_ncc (s : Part) (n : LoadId) (o : Option Origin) :
    (s.setStartingOrigin n o).ncc =
    s.ncc := rfl
@[simp] theorem Part.setStartingOrigin_flm (s : Part) (n : LoadId) (o : Option Origin) :
    (s.setStartingOrigin n o).flm =
    s.flm := rfl
@[simp] theorem Part.setStartingOrigin_lin (s : Part) (n : LoadId) (o : Option Origin) :
    (s.setStartingOrigin n o).lin =
    s.lin := rfl
@[simp] theorem Part.setStartingOrigin_svp (s : Part) (n : LoadId) (o : Option Origin) :
    (s.setStartingOrigin n o).svp =
    s.svp := rfl
@[simp] theorem Part.setStartingOrigin_atl (s : Part) (n : LoadId) (o : Option Origin) :
    (s.setStartingOrigin n o).atl =
    s.atl := rfl
@[simp] theorem Part.setStartingOrigin_cfs (s : Part) (n : LoadId) (o : Option Origin) :
    (s.setStartingOrigin n o).cfs =
    s.cfs := rfl
@[simp] theorem Part.setStartingOrigin_freeCount (s : Part) (n : LoadId) (o : Option Origin) :
    (s.setStartingOrigin n o).freeCount =
    s.freeCount := rfl
@[simp] theorem Part.setStartingOrigin_checksDue (s : Part) (n : LoadId) (o : Option Origin) :
    (s.setStartingOrigin n o).checksDue =
    s.checksDue := rfl
@[simp] theorem Part.setStartingOrigin_now (s : Part) (n : LoadId) (o : Option Origin) :
    (s.setStartingOrigin n o).now = s.now := rfl
@[simp] theorem Part.setStartingOrigin_mode (s : Part) (n : LoadId) (o : Option Origin) :
    (s.setStartingOrigin n o).mode = s.mode := rfl
@[simp] theorem Part.setStartingOrigin_config (s : Part) (n : LoadId) (o : Option Origin) (k : LoadId) :
    (s.setStartingOrigin n o).config k = s.config k := rfl
@[simp] theorem Part.setStartingOrigin_inUse (s : Part) (n : LoadId) (o : Option Origin) (k : LoadId) :
    (s.setStartingOrigin n o).inUse k = s.inUse k := rfl
@[simp] theorem Part.setStartingOrigin_load (s : Part) (n : LoadId) (o : Option Origin) (k : LoadId) :
    (s.setStartingOrigin n o).load k = s.load k := rfl
@[simp] theorem Part.setStartingOrigin_station (s : Part) (n : LoadId) (o : Option Origin) (k : StationId) :
    (s.setStartingOrigin n o).station k = s.station k := rfl
@[simp] theorem Part.setStartingOrigin_onCount (s : Part) (n : LoadId) (o : Option Origin) (k : LoadId) :
    (s.setStartingOrigin n o).onCount k = s.onCount k := rfl
@[simp] theorem Part.setStartingOrigin_offCount (s : Part) (n : LoadId) (o : Option Origin) (k : LoadId) :
    (s.setStartingOrigin n o).offCount k = s.offCount k := rfl

/-! ## setMode -/

@[simp] theorem Part.setMode_power (s : Part) (m : ModeState) : (s.setMode m).power = s.power := rfl
@[simp] theorem Part.setMode_cfg (s : Part) (m : ModeState) : (s.setMode m).cfg = s.cfg := rfl
@[simp] theorem Part.setMode_loads (s : Part) (m : ModeState) : (s.setMode m).loads = s.loads := rfl
@[simp] theorem Part.setMode_holds (s : Part) (m : ModeState) : (s.setMode m).holds = s.holds := rfl
@[simp] theorem Part.setMode_nextId (s : Part) (m : ModeState) : (s.setMode m).nextId = s.nextId := rfl
@[simp] theorem Part.setMode_dgv (s : Part) (m : ModeState) : (s.setMode m).dgv = s.dgv := rfl
@[simp] theorem Part.setMode_ncc (s : Part) (m : ModeState) :
    (s.setMode m).ncc =
    { s.ncc with mode := m } := rfl
@[simp] theorem Part.setMode_flm (s : Part) (m : ModeState) : (s.setMode m).flm = s.flm := rfl
@[simp] theorem Part.setMode_lin (s : Part) (m : ModeState) : (s.setMode m).lin = s.lin := rfl
@[simp] theorem Part.setMode_svp (s : Part) (m : ModeState) : (s.setMode m).svp = s.svp := rfl
@[simp] theorem Part.setMode_atl (s : Part) (m : ModeState) : (s.setMode m).atl = s.atl := rfl
@[simp] theorem Part.setMode_cfs (s : Part) (m : ModeState) : (s.setMode m).cfs = s.cfs := rfl
@[simp] theorem Part.setMode_freeCount (s : Part) (m : ModeState) :
    (s.setMode m).freeCount =
    s.freeCount := rfl
@[simp] theorem Part.setMode_checksDue (s : Part) (m : ModeState) :
    (s.setMode m).checksDue =
    s.checksDue := rfl
@[simp] theorem Part.setMode_config (s : Part) (m : ModeState) (k : LoadId) :
    (s.setMode m).config k = s.config k := rfl
@[simp] theorem Part.setMode_inUse (s : Part) (m : ModeState) (k : LoadId) :
    (s.setMode m).inUse k = s.inUse k := rfl
@[simp] theorem Part.setMode_load (s : Part) (m : ModeState) (k : LoadId) :
    (s.setMode m).load k = s.load k := rfl
@[simp] theorem Part.setMode_station (s : Part) (m : ModeState) (k : StationId) :
    (s.setMode m).station k = s.station k := rfl
@[simp] theorem Part.setMode_onCount (s : Part) (m : ModeState) (k : LoadId) :
    (s.setMode m).onCount k = s.onCount k := rfl
@[simp] theorem Part.setMode_offCount (s : Part) (m : ModeState) (k : LoadId) :
    (s.setMode m).offCount k = s.offCount k := rfl

/-! ## nextChoice -/

@[simp] theorem Part.nextChoice_power (s : Part) : (s.nextChoice).power = s.power := rfl
@[simp] theorem Part.nextChoice_cfg (s : Part) : (s.nextChoice).cfg = s.cfg := rfl
@[simp] theorem Part.nextChoice_loads (s : Part) : (s.nextChoice).loads = s.loads := rfl
@[simp] theorem Part.nextChoice_holds (s : Part) : (s.nextChoice).holds = s.holds := rfl
@[simp] theorem Part.nextChoice_nextId (s : Part) : (s.nextChoice).nextId = s.nextId := rfl
@[simp] theorem Part.nextChoice_dgv (s : Part) : (s.nextChoice).dgv = s.dgv := rfl
@[simp] theorem Part.nextChoice_ncc (s : Part) : (s.nextChoice).ncc = s.ncc := rfl
@[simp] theorem Part.nextChoice_flm (s : Part) : (s.nextChoice).flm = s.flm := rfl
@[simp] theorem Part.nextChoice_lin (s : Part) : (s.nextChoice).lin = s.lin := rfl
@[simp] theorem Part.nextChoice_svp (s : Part) : (s.nextChoice).svp = s.svp := rfl
@[simp] theorem Part.nextChoice_atl (s : Part) : (s.nextChoice).atl = s.atl := rfl
@[simp] theorem Part.nextChoice_cfs (s : Part) : (s.nextChoice).cfs = s.cfs := rfl
@[simp] theorem Part.nextChoice_freeCount (s : Part) : (s.nextChoice).freeCount = s.freeCount + 1 := rfl
@[simp] theorem Part.nextChoice_checksDue (s : Part) : (s.nextChoice).checksDue = s.checksDue := rfl
@[simp] theorem Part.nextChoice_now (s : Part) : (s.nextChoice).now = s.now := rfl
@[simp] theorem Part.nextChoice_mode (s : Part) : (s.nextChoice).mode = s.mode := rfl
@[simp] theorem Part.nextChoice_config (s : Part) (k : LoadId) : (s.nextChoice).config k = s.config k := rfl
@[simp] theorem Part.nextChoice_inUse (s : Part) (k : LoadId) : (s.nextChoice).inUse k = s.inUse k := rfl
@[simp] theorem Part.nextChoice_load (s : Part) (k : LoadId) : (s.nextChoice).load k = s.load k := rfl
@[simp] theorem Part.nextChoice_station (s : Part) (k : StationId) :
    (s.nextChoice).station k = s.station k := rfl
@[simp] theorem Part.nextChoice_onCount (s : Part) (k : LoadId) :
    (s.nextChoice).onCount k = s.onCount k := rfl
@[simp] theorem Part.nextChoice_offCount (s : Part) (k : LoadId) :
    (s.nextChoice).offCount k = s.offCount k := rfl

/-! ## raise -/

@[simp] theorem Part.raise_power (s : Part) (d : Detail) : (s.raise d).power = s.power := rfl
@[simp] theorem Part.raise_cfg (s : Part) (d : Detail) : (s.raise d).cfg = s.cfg := rfl
@[simp] theorem Part.raise_loads (s : Part) (d : Detail) : (s.raise d).loads = s.loads := rfl
@[simp] theorem Part.raise_holds (s : Part) (d : Detail) : (s.raise d).holds = s.holds := rfl
@[simp] theorem Part.raise_nextId (s : Part) (d : Detail) : (s.raise d).nextId = s.nextId := rfl
@[simp] theorem Part.raise_dgv (s : Part) (d : Detail) : (s.raise d).dgv = s.dgv := rfl
@[simp] theorem Part.raise_ncc (s : Part) (d : Detail) : (s.raise d).ncc = s.ncc := rfl
@[simp] theorem Part.raise_flm (s : Part) (d : Detail) : (s.raise d).flm = s.flm := rfl
@[simp] theorem Part.raise_lin (s : Part) (d : Detail) : (s.raise d).lin = s.lin := rfl
@[simp] theorem Part.raise_svp (s : Part) (d : Detail) : (s.raise d).svp = s.svp := rfl
@[simp] theorem Part.raise_atl (s : Part) (d : Detail) :
    (s.raise d).atl =
    { pending := s.atl.pending ||| d.cause.bit, details := s.atl.details.set d.cause.index (some d) } := rfl
@[simp] theorem Part.raise_cfs (s : Part) (d : Detail) : (s.raise d).cfs = s.cfs := rfl
@[simp] theorem Part.raise_freeCount (s : Part) (d : Detail) : (s.raise d).freeCount = s.freeCount := rfl
@[simp] theorem Part.raise_checksDue (s : Part) (d : Detail) : (s.raise d).checksDue = s.checksDue := rfl
@[simp] theorem Part.raise_now (s : Part) (d : Detail) : (s.raise d).now = s.now := rfl
@[simp] theorem Part.raise_mode (s : Part) (d : Detail) : (s.raise d).mode = s.mode := rfl
@[simp] theorem Part.raise_config (s : Part) (d : Detail) (k : LoadId) :
    (s.raise d).config k = s.config k := rfl
@[simp] theorem Part.raise_inUse (s : Part) (d : Detail) (k : LoadId) : (s.raise d).inUse k = s.inUse k := rfl
@[simp] theorem Part.raise_load (s : Part) (d : Detail) (k : LoadId) : (s.raise d).load k = s.load k := rfl
@[simp] theorem Part.raise_station (s : Part) (d : Detail) (k : StationId) :
    (s.raise d).station k = s.station k := rfl
@[simp] theorem Part.raise_onCount (s : Part) (d : Detail) (k : LoadId) :
    (s.raise d).onCount k = s.onCount k := rfl
@[simp] theorem Part.raise_offCount (s : Part) (d : Detail) (k : LoadId) :
    (s.raise d).offCount k = s.offCount k := rfl

/-! ## setReceiver -/

@[simp] theorem Part.setReceiver_power (s : Part) (r : Receiver) : (s.setReceiver r).power = s.power := rfl
@[simp] theorem Part.setReceiver_cfg (s : Part) (r : Receiver) : (s.setReceiver r).cfg = s.cfg := rfl
@[simp] theorem Part.setReceiver_loads (s : Part) (r : Receiver) : (s.setReceiver r).loads = s.loads := rfl
@[simp] theorem Part.setReceiver_holds (s : Part) (r : Receiver) : (s.setReceiver r).holds = s.holds := rfl
@[simp] theorem Part.setReceiver_nextId (s : Part) (r : Receiver) : (s.setReceiver r).nextId = s.nextId := rfl
@[simp] theorem Part.setReceiver_dgv (s : Part) (r : Receiver) : (s.setReceiver r).dgv = s.dgv := rfl
@[simp] theorem Part.setReceiver_ncc (s : Part) (r : Receiver) : (s.setReceiver r).ncc = s.ncc := rfl
@[simp] theorem Part.setReceiver_flm (s : Part) (r : Receiver) : (s.setReceiver r).flm = s.flm := rfl
@[simp] theorem Part.setReceiver_lin (s : Part) (r : Receiver) : (s.setReceiver r).lin = s.lin := rfl
@[simp] theorem Part.setReceiver_svp (s : Part) (r : Receiver) :
    (s.setReceiver r).svp =
    { s.svp with receiver := r } := rfl
@[simp] theorem Part.setReceiver_atl (s : Part) (r : Receiver) : (s.setReceiver r).atl = s.atl := rfl
@[simp] theorem Part.setReceiver_cfs (s : Part) (r : Receiver) : (s.setReceiver r).cfs = s.cfs := rfl
@[simp] theorem Part.setReceiver_freeCount (s : Part) (r : Receiver) :
    (s.setReceiver r).freeCount =
    s.freeCount := rfl
@[simp] theorem Part.setReceiver_checksDue (s : Part) (r : Receiver) :
    (s.setReceiver r).checksDue =
    s.checksDue := rfl
@[simp] theorem Part.setReceiver_now (s : Part) (r : Receiver) : (s.setReceiver r).now = s.now := rfl
@[simp] theorem Part.setReceiver_mode (s : Part) (r : Receiver) : (s.setReceiver r).mode = s.mode := rfl
@[simp] theorem Part.setReceiver_config (s : Part) (r : Receiver) (k : LoadId) :
    (s.setReceiver r).config k = s.config k := rfl
@[simp] theorem Part.setReceiver_inUse (s : Part) (r : Receiver) (k : LoadId) :
    (s.setReceiver r).inUse k = s.inUse k := rfl
@[simp] theorem Part.setReceiver_load (s : Part) (r : Receiver) (k : LoadId) :
    (s.setReceiver r).load k = s.load k := rfl
@[simp] theorem Part.setReceiver_station (s : Part) (r : Receiver) (k : StationId) :
    (s.setReceiver r).station k = s.station k := rfl
@[simp] theorem Part.setReceiver_onCount (s : Part) (r : Receiver) (k : LoadId) :
    (s.setReceiver r).onCount k = s.onCount k := rfl
@[simp] theorem Part.setReceiver_offCount (s : Part) (r : Receiver) (k : LoadId) :
    (s.setReceiver r).offCount k = s.offCount k := rfl

/-! ## setRefusal -/

@[simp] theorem Part.setRefusal_power (s : Part) (p : PanelId) (t : Option Nat) :
    (s.setRefusal p t).power =
    s.power := rfl
@[simp] theorem Part.setRefusal_cfg (s : Part) (p : PanelId) (t : Option Nat) :
    (s.setRefusal p t).cfg =
    s.cfg := rfl
@[simp] theorem Part.setRefusal_loads (s : Part) (p : PanelId) (t : Option Nat) :
    (s.setRefusal p t).loads =
    s.loads := rfl
@[simp] theorem Part.setRefusal_holds (s : Part) (p : PanelId) (t : Option Nat) :
    (s.setRefusal p t).holds =
    s.holds := rfl
@[simp] theorem Part.setRefusal_nextId (s : Part) (p : PanelId) (t : Option Nat) :
    (s.setRefusal p t).nextId =
    s.nextId := rfl
@[simp] theorem Part.setRefusal_dgv (s : Part) (p : PanelId) (t : Option Nat) :
    (s.setRefusal p t).dgv =
    s.dgv := rfl
@[simp] theorem Part.setRefusal_ncc (s : Part) (p : PanelId) (t : Option Nat) :
    (s.setRefusal p t).ncc =
    s.ncc := rfl
@[simp] theorem Part.setRefusal_flm (s : Part) (p : PanelId) (t : Option Nat) :
    (s.setRefusal p t).flm =
    s.flm := rfl
@[simp] theorem Part.setRefusal_lin (s : Part) (p : PanelId) (t : Option Nat) :
    (s.setRefusal p t).lin =
    { s.lin with refusal := s.lin.refusal.set p t } := rfl
@[simp] theorem Part.setRefusal_svp (s : Part) (p : PanelId) (t : Option Nat) :
    (s.setRefusal p t).svp =
    s.svp := rfl
@[simp] theorem Part.setRefusal_atl (s : Part) (p : PanelId) (t : Option Nat) :
    (s.setRefusal p t).atl =
    s.atl := rfl
@[simp] theorem Part.setRefusal_cfs (s : Part) (p : PanelId) (t : Option Nat) :
    (s.setRefusal p t).cfs =
    s.cfs := rfl
@[simp] theorem Part.setRefusal_freeCount (s : Part) (p : PanelId) (t : Option Nat) :
    (s.setRefusal p t).freeCount =
    s.freeCount := rfl
@[simp] theorem Part.setRefusal_checksDue (s : Part) (p : PanelId) (t : Option Nat) :
    (s.setRefusal p t).checksDue =
    s.checksDue := rfl
@[simp] theorem Part.setRefusal_now (s : Part) (p : PanelId) (t : Option Nat) :
    (s.setRefusal p t).now = s.now := rfl
@[simp] theorem Part.setRefusal_mode (s : Part) (p : PanelId) (t : Option Nat) :
    (s.setRefusal p t).mode = s.mode := rfl
@[simp] theorem Part.setRefusal_config (s : Part) (p : PanelId) (t : Option Nat) (k : LoadId) :
    (s.setRefusal p t).config k = s.config k := rfl
@[simp] theorem Part.setRefusal_inUse (s : Part) (p : PanelId) (t : Option Nat) (k : LoadId) :
    (s.setRefusal p t).inUse k = s.inUse k := rfl
@[simp] theorem Part.setRefusal_load (s : Part) (p : PanelId) (t : Option Nat) (k : LoadId) :
    (s.setRefusal p t).load k = s.load k := rfl
@[simp] theorem Part.setRefusal_station (s : Part) (p : PanelId) (t : Option Nat) (k : StationId) :
    (s.setRefusal p t).station k = s.station k := rfl
@[simp] theorem Part.setRefusal_onCount (s : Part) (p : PanelId) (t : Option Nat) (k : LoadId) :
    (s.setRefusal p t).onCount k = s.onCount k := rfl
@[simp] theorem Part.setRefusal_offCount (s : Part) (p : PanelId) (t : Option Nat) (k : LoadId) :
    (s.setRefusal p t).offCount k = s.offCount k := rfl

/-! ## setDebounce -/

@[simp] theorem Part.setDebounce_power (s : Part) (l : Line) (d : Debounce) :
    (s.setDebounce l d).power =
    s.power := rfl
@[simp] theorem Part.setDebounce_cfg (s : Part) (l : Line) (d : Debounce) :
    (s.setDebounce l d).cfg =
    s.cfg := rfl
@[simp] theorem Part.setDebounce_loads (s : Part) (l : Line) (d : Debounce) :
    (s.setDebounce l d).loads =
    s.loads := rfl
@[simp] theorem Part.setDebounce_holds (s : Part) (l : Line) (d : Debounce) :
    (s.setDebounce l d).holds =
    s.holds := rfl
@[simp] theorem Part.setDebounce_nextId (s : Part) (l : Line) (d : Debounce) :
    (s.setDebounce l d).nextId =
    s.nextId := rfl
@[simp] theorem Part.setDebounce_dgv (s : Part) (l : Line) (d : Debounce) :
    (s.setDebounce l d).dgv =
    s.dgv := rfl
@[simp] theorem Part.setDebounce_ncc (s : Part) (l : Line) (d : Debounce) :
    (s.setDebounce l d).ncc =
    s.ncc := rfl
@[simp] theorem Part.setDebounce_flm (s : Part) (l : Line) (d : Debounce) :
    (s.setDebounce l d).flm =
    s.flm := rfl
@[simp] theorem Part.setDebounce_lin (s : Part) (l : Line) (d : Debounce) :
    (s.setDebounce l d).lin =
    s.lin.setDebounce l d := rfl
@[simp] theorem Part.setDebounce_svp (s : Part) (l : Line) (d : Debounce) :
    (s.setDebounce l d).svp =
    s.svp := rfl
@[simp] theorem Part.setDebounce_atl (s : Part) (l : Line) (d : Debounce) :
    (s.setDebounce l d).atl =
    s.atl := rfl
@[simp] theorem Part.setDebounce_cfs (s : Part) (l : Line) (d : Debounce) :
    (s.setDebounce l d).cfs =
    s.cfs := rfl
@[simp] theorem Part.setDebounce_freeCount (s : Part) (l : Line) (d : Debounce) :
    (s.setDebounce l d).freeCount =
    s.freeCount := rfl
@[simp] theorem Part.setDebounce_checksDue (s : Part) (l : Line) (d : Debounce) :
    (s.setDebounce l d).checksDue =
    s.checksDue := rfl
@[simp] theorem Part.setDebounce_now (s : Part) (l : Line) (d : Debounce) :
    (s.setDebounce l d).now = s.now := rfl
@[simp] theorem Part.setDebounce_mode (s : Part) (l : Line) (d : Debounce) :
    (s.setDebounce l d).mode = s.mode := rfl
@[simp] theorem Part.setDebounce_config (s : Part) (l : Line) (d : Debounce) (k : LoadId) :
    (s.setDebounce l d).config k = s.config k := rfl
@[simp] theorem Part.setDebounce_inUse (s : Part) (l : Line) (d : Debounce) (k : LoadId) :
    (s.setDebounce l d).inUse k = s.inUse k := rfl
@[simp] theorem Part.setDebounce_load (s : Part) (l : Line) (d : Debounce) (k : LoadId) :
    (s.setDebounce l d).load k = s.load k := rfl
@[simp] theorem Part.setDebounce_station (s : Part) (l : Line) (d : Debounce) (k : StationId) :
    (s.setDebounce l d).station k = s.station k := rfl
@[simp] theorem Part.setDebounce_onCount (s : Part) (l : Line) (d : Debounce) (k : LoadId) :
    (s.setDebounce l d).onCount k = s.onCount k := rfl
@[simp] theorem Part.setDebounce_offCount (s : Part) (l : Line) (d : Debounce) (k : LoadId) :
    (s.setDebounce l d).offCount k = s.offCount k := rfl

/-! ## chooseLamp -/

@[simp] theorem Part.chooseLamp_power (s : Part) (p : PanelId) : (s.chooseLamp p).power = s.power := rfl
@[simp] theorem Part.chooseLamp_cfg (s : Part) (p : PanelId) : (s.chooseLamp p).cfg = s.cfg := rfl
@[simp] theorem Part.chooseLamp_loads (s : Part) (p : PanelId) : (s.chooseLamp p).loads = s.loads := rfl
@[simp] theorem Part.chooseLamp_holds (s : Part) (p : PanelId) : (s.chooseLamp p).holds = s.holds := rfl
@[simp] theorem Part.chooseLamp_nextId (s : Part) (p : PanelId) : (s.chooseLamp p).nextId = s.nextId := rfl
@[simp] theorem Part.chooseLamp_dgv (s : Part) (p : PanelId) : (s.chooseLamp p).dgv = s.dgv := rfl
@[simp] theorem Part.chooseLamp_ncc (s : Part) (p : PanelId) : (s.chooseLamp p).ncc = s.ncc := rfl
@[simp] theorem Part.chooseLamp_flm (s : Part) (p : PanelId) : (s.chooseLamp p).flm = s.flm := rfl
@[simp] theorem Part.chooseLamp_lin (s : Part) (p : PanelId) :
    (s.chooseLamp p).lin =
    { s.lin with lamps := s.lin.lamps.set p (s.lin.lamps[p].choose (s.lampPattern p)) } := rfl
@[simp] theorem Part.chooseLamp_svp (s : Part) (p : PanelId) : (s.chooseLamp p).svp = s.svp := rfl
@[simp] theorem Part.chooseLamp_atl (s : Part) (p : PanelId) : (s.chooseLamp p).atl = s.atl := rfl
@[simp] theorem Part.chooseLamp_cfs (s : Part) (p : PanelId) : (s.chooseLamp p).cfs = s.cfs := rfl
@[simp] theorem Part.chooseLamp_freeCount (s : Part) (p : PanelId) :
    (s.chooseLamp p).freeCount =
    s.freeCount := rfl
@[simp] theorem Part.chooseLamp_checksDue (s : Part) (p : PanelId) :
    (s.chooseLamp p).checksDue =
    s.checksDue := rfl
@[simp] theorem Part.chooseLamp_now (s : Part) (p : PanelId) : (s.chooseLamp p).now = s.now := rfl
@[simp] theorem Part.chooseLamp_mode (s : Part) (p : PanelId) : (s.chooseLamp p).mode = s.mode := rfl
@[simp] theorem Part.chooseLamp_config (s : Part) (p : PanelId) (k : LoadId) :
    (s.chooseLamp p).config k = s.config k := rfl
@[simp] theorem Part.chooseLamp_inUse (s : Part) (p : PanelId) (k : LoadId) :
    (s.chooseLamp p).inUse k = s.inUse k := rfl
@[simp] theorem Part.chooseLamp_load (s : Part) (p : PanelId) (k : LoadId) :
    (s.chooseLamp p).load k = s.load k := rfl
@[simp] theorem Part.chooseLamp_station (s : Part) (p : PanelId) (k : StationId) :
    (s.chooseLamp p).station k = s.station k := rfl
@[simp] theorem Part.chooseLamp_onCount (s : Part) (p : PanelId) (k : LoadId) :
    (s.chooseLamp p).onCount k = s.onCount k := rfl
@[simp] theorem Part.chooseLamp_offCount (s : Part) (p : PanelId) (k : LoadId) :
    (s.chooseLamp p).offCount k = s.offCount k := rfl

/-! ## beginPartial -/

@[simp] theorem Part.beginPartial_power (s : Part) : (s.beginPartial).power = s.power := rfl
@[simp] theorem Part.beginPartial_cfg (s : Part) : (s.beginPartial).cfg = s.cfg := rfl
@[simp] theorem Part.beginPartial_loads (s : Part) : (s.beginPartial).loads = s.loads := rfl
@[simp] theorem Part.beginPartial_holds (s : Part) : (s.beginPartial).holds = s.holds := rfl
@[simp] theorem Part.beginPartial_nextId (s : Part) : (s.beginPartial).nextId = s.nextId := rfl
@[simp] theorem Part.beginPartial_dgv (s : Part) :
    (s.beginPartial).dgv =
    { s.dgv with energy := 0, isPartial := true } := rfl
@[simp] theorem Part.beginPartial_ncc (s : Part) : (s.beginPartial).ncc = s.ncc := rfl
@[simp] theorem Part.beginPartial_flm (s : Part) : (s.beginPartial).flm = s.flm := rfl
@[simp] theorem Part.beginPartial_lin (s : Part) : (s.beginPartial).lin = s.lin := rfl
@[simp] theorem Part.beginPartial_svp (s : Part) : (s.beginPartial).svp = s.svp := rfl
@[simp] theorem Part.beginPartial_atl (s : Part) : (s.beginPartial).atl = s.atl := rfl
@[simp] theorem Part.beginPartial_cfs (s : Part) : (s.beginPartial).cfs = s.cfs := rfl
@[simp] theorem Part.beginPartial_freeCount (s : Part) : (s.beginPartial).freeCount = s.freeCount := rfl
@[simp] theorem Part.beginPartial_checksDue (s : Part) : (s.beginPartial).checksDue = s.checksDue := rfl
@[simp] theorem Part.beginPartial_now (s : Part) : (s.beginPartial).now = s.now := rfl
@[simp] theorem Part.beginPartial_mode (s : Part) : (s.beginPartial).mode = s.mode := rfl
@[simp] theorem Part.beginPartial_config (s : Part) (k : LoadId) :
    (s.beginPartial).config k = s.config k := rfl
@[simp] theorem Part.beginPartial_inUse (s : Part) (k : LoadId) : (s.beginPartial).inUse k = s.inUse k := rfl
@[simp] theorem Part.beginPartial_load (s : Part) (k : LoadId) : (s.beginPartial).load k = s.load k := rfl
@[simp] theorem Part.beginPartial_station (s : Part) (k : StationId) :
    (s.beginPartial).station k = s.station k := rfl
@[simp] theorem Part.beginPartial_onCount (s : Part) (k : LoadId) :
    (s.beginPartial).onCount k = s.onCount k := rfl
@[simp] theorem Part.beginPartial_offCount (s : Part) (k : LoadId) :
    (s.beginPartial).offCount k = s.offCount k := rfl

/-! ## answer -/

@[simp] theorem Part.answer_power (s : Part) (c : Instr) (a : Answer) : (s.answer c a).power = s.power := rfl
@[simp] theorem Part.answer_cfg (s : Part) (c : Instr) (a : Answer) : (s.answer c a).cfg = s.cfg := rfl
@[simp] theorem Part.answer_loads (s : Part) (c : Instr) (a : Answer) : (s.answer c a).loads = s.loads := rfl
@[simp] theorem Part.answer_holds (s : Part) (c : Instr) (a : Answer) : (s.answer c a).holds = s.holds := rfl
@[simp] theorem Part.answer_nextId (s : Part) (c : Instr) (a : Answer) :
    (s.answer c a).nextId =
    s.nextId := rfl
@[simp] theorem Part.answer_dgv (s : Part) (c : Instr) (a : Answer) : (s.answer c a).dgv = s.dgv := rfl
@[simp] theorem Part.answer_ncc (s : Part) (c : Instr) (a : Answer) : (s.answer c a).ncc = s.ncc := rfl
@[simp] theorem Part.answer_flm (s : Part) (c : Instr) (a : Answer) : (s.answer c a).flm = s.flm := rfl
@[simp] theorem Part.answer_lin (s : Part) (c : Instr) (a : Answer) : (s.answer c a).lin = s.lin := rfl
@[simp] theorem Part.answer_svp (s : Part) (c : Instr) (a : Answer) :
    (s.answer c a).svp =
    { s.svp with
      receiver := .served
        { code := (commandCode c).getD 0, status := a.status, data := a.data, after := a.after } } := rfl
@[simp] theorem Part.answer_atl (s : Part) (c : Instr) (a : Answer) : (s.answer c a).atl = s.atl := rfl
@[simp] theorem Part.answer_cfs (s : Part) (c : Instr) (a : Answer) : (s.answer c a).cfs = s.cfs := rfl
@[simp] theorem Part.answer_freeCount (s : Part) (c : Instr) (a : Answer) :
    (s.answer c a).freeCount =
    s.freeCount := rfl
@[simp] theorem Part.answer_checksDue (s : Part) (c : Instr) (a : Answer) :
    (s.answer c a).checksDue =
    s.checksDue := rfl
@[simp] theorem Part.answer_now (s : Part) (c : Instr) (a : Answer) : (s.answer c a).now = s.now := rfl
@[simp] theorem Part.answer_mode (s : Part) (c : Instr) (a : Answer) : (s.answer c a).mode = s.mode := rfl
@[simp] theorem Part.answer_config (s : Part) (c : Instr) (a : Answer) (k : LoadId) :
    (s.answer c a).config k = s.config k := rfl
@[simp] theorem Part.answer_inUse (s : Part) (c : Instr) (a : Answer) (k : LoadId) :
    (s.answer c a).inUse k = s.inUse k := rfl
@[simp] theorem Part.answer_load (s : Part) (c : Instr) (a : Answer) (k : LoadId) :
    (s.answer c a).load k = s.load k := rfl
@[simp] theorem Part.answer_station (s : Part) (c : Instr) (a : Answer) (k : StationId) :
    (s.answer c a).station k = s.station k := rfl
@[simp] theorem Part.answer_onCount (s : Part) (c : Instr) (a : Answer) (k : LoadId) :
    (s.answer c a).onCount k = s.onCount k := rfl
@[simp] theorem Part.answer_offCount (s : Part) (c : Instr) (a : Answer) (k : LoadId) :
    (s.answer c a).offCount k = s.offCount k := rfl

/-! ## keepBoundary -/

@[simp] theorem NightCycle.keepBoundary_uptime (c : NightCycle) (m : Nat) : (c.keepBoundary m).uptime = c.uptime := rfl
@[simp] theorem NightCycle.keepBoundary_clock (c : NightCycle) (m : Nat) : (c.keepBoundary m).clock = c.clock := rfl
@[simp] theorem NightCycle.keepBoundary_mode (c : NightCycle) (m : Nat) : (c.keepBoundary m).mode = c.mode := rfl
@[simp] theorem NightCycle.keepBoundary_late (c : NightCycle) (m : Nat) : (c.keepBoundary m).late = c.late := rfl
@[simp] theorem NightCycle.keepBoundary_armed (c : NightCycle) (m : Nat) : (c.keepBoundary m).armed = c.armed := rfl
@[simp] theorem NightCycle.keepBoundary_minuteDue (c : NightCycle) (m : Nat) :
    (c.keepBoundary m).minuteDue = c.minuteDue := rfl
@[simp] theorem NightCycle.keepBoundary_intervalDue (c : NightCycle) (m : Nat) :
    (c.keepBoundary m).intervalDue = (c.intervalDue && decide (c.clock.minute % m = 0)) := rfl

/-! ## demandTaken, and an event that changes no check's inputs -/

@[simp] theorem Part.demandTaken_queue (s : Part) : s.demandTaken.queue = s.dgv.queue := by simp only [Part.demandTaken]
@[simp] theorem Part.demandTaken_nextSeq (s : Part) : s.demandTaken.nextSeq = s.dgv.nextSeq := by
  simp only [Part.demandTaken]
@[simp] theorem Part.demandTaken_startingOrigin (s : Part) :
    s.demandTaken.startingOrigin = s.dgv.startingOrigin := by
  simp only [Part.demandTaken]
@[simp] theorem Part.demandTaken_ceilingI (s : Part) : s.demandTaken.ceilingI = s.dgv.ceilingI := by
  simp only [Part.demandTaken]
@[simp] theorem Part.demandTaken_ceilingD (s : Part) : s.demandTaken.ceilingD = s.dgv.ceilingD := by
  simp only [Part.demandTaken]
@[simp] theorem Part.demandTaken_energy (s : Part) : s.demandTaken.energy = s.dgv.energy := by
  simp only [Part.demandTaken]
@[simp] theorem Part.demandTaken_isPartial (s : Part) : s.demandTaken.isPartial = s.dgv.isPartial := by
  simp only [Part.demandTaken]
@[simp] theorem Part.demandTaken_lastIntervalKw (s : Part) :
    s.demandTaken.lastIntervalKw = s.dgv.lastIntervalKw := by
  simp only [Part.demandTaken]
@[simp] theorem Part.demandTaken_demand (s : Part) : s.demandTaken.demand = s.demandNow := by
  simp only [Part.demandTaken]

/-- Where no input of a check differs and none has been noted, no check falls due (R30). -/
theorem Part.changedInputs_of_same_inputs {before after : Part}
    (same : ∀ n, before.checkInputs n = after.checkInputs n) (none_noted : after.checksDue = before.checksDue) :
    before.changedInputs after = [] := by
  simp [Part.changedInputs, same, none_noted]

/-- An event that leaves the inputs of every check as they were, throughout, takes no check (R30). -/
theorem Part.recheck_of_same_inputs {before after : Part}
    (same : ∀ n, before.checkInputs n = after.checkInputs n) (none_noted : after.checksDue = before.checksDue) :
    before.recheck after = after := by
  simp [Part.recheck, Part.changedInputs_of_same_inputs same none_noted, Part.takeChecks, Part.settleChecks,
    ← none_noted]

/-- A check that has been noted is called for, though its inputs have changed back (R30). -/
theorem Part.mem_changedInputs_of_noted {before after : Part} {n : LoadId} (h : after.checkable n = true)
    (noted : n ∈ after.checksDue.drop before.checksDue.length) : n ∈ before.changedInputs after := by
  simp [Part.changedInputs, allLoads, h, noted]

end Sys2Proof.Machine
end

