-- ==== Sys2Proof/Laws/LoadWork.lean ====
section
/-! SUPPORT. What the shared operations over loads and the Start Queue may touch: the load records, the
Governor, the pending causes and the count of free choices. Everything else of the part stays; one lemma per
operation says so. -/

namespace Sys2Proof.Machine

/-- From s to t only load records, the Governor, the attention causes and the count of free choices may
differ. -/
structure Part.LoadWork (s t : Part) : Prop where
  power : t.power = s.power
  cfg : t.cfg = s.cfg
  holds : t.holds = s.holds
  nextId : t.nextId = s.nextId
  ncc : t.ncc = s.ncc
  flm : t.flm = s.flm
  lin : t.lin = s.lin
  svp : t.svp = s.svp
  cfs : t.cfs = s.cfs

theorem Part.LoadWork.refl (s : Part) : s.LoadWork s := ⟨rfl, rfl, rfl, rfl, rfl, rfl, rfl, rfl, rfl⟩

theorem Part.LoadWork.trans {s t u : Part} (h : s.LoadWork t) (g : t.LoadWork u) : s.LoadWork u :=
  ⟨g.power.trans h.power, g.cfg.trans h.cfg, g.holds.trans h.holds, g.nextId.trans h.nextId,
    g.ncc.trans h.ncc, g.flm.trans h.flm, g.lin.trans h.lin, g.svp.trans h.svp, g.cfs.trans h.cfs⟩

/-- A fold of an operation that keeps to load work does so too. -/
theorem Part.LoadWork.foldl {α : Type} (f : Part → α → Part) (h : ∀ (s : Part) (a : α), s.LoadWork (f s a)) (l : List α)
    (s : Part) : s.LoadWork (l.foldl f s) := by
  induction l generalizing s with
  | nil => exact .refl s
  | cons a l ih => exact (h s a).trans (ih _)

/-- A fold that carries something beside the part, each step keeping to load work. -/
theorem Part.LoadWork.foldl_fst {α β : Type} (f : Part × β → α → Part × β)
    (h : ∀ (acc : Part × β) (a : α), acc.1.LoadWork (f acc a).1) (l : List α) (acc : Part × β) :
    acc.1.LoadWork (l.foldl f acc).1 := by
  induction l generalizing acc with
  | nil => exact .refl _
  | cons a l ih => exact (h acc a).trans (ih _)

/-- Either branch of a choice. -/
theorem Part.LoadWork.ite {s t u : Part} (c : Prop) [Decidable c] (h : s.LoadWork t)
    (g : s.LoadWork u) :
    s.LoadWork (if c then t else u) := by split <;> assumption

/-! ## What follows for the values read from the part -/

section
variable {s t : Part}

theorem Part.LoadWork.now (h : s.LoadWork t) : t.now = s.now := by simp [Part.now, h.ncc]
theorem Part.LoadWork.mode (h : s.LoadWork t) : t.mode = s.mode := by simp [Part.mode, h.ncc]
theorem Part.LoadWork.working (h : s.LoadWork t) : t.working = s.working := by simp [Part.working, h.power]
theorem Part.LoadWork.saving (h : s.LoadWork t) : t.saving = s.saving := by simp [Part.saving, h.cfs]
theorem Part.LoadWork.config (h : s.LoadWork t) (n : LoadId) : t.config n = s.config n := by
  simp [Part.config, h.cfg]
theorem Part.LoadWork.inUse (h : s.LoadWork t) (n : LoadId) : t.inUse n = s.inUse n := by
  simp [Part.inUse, h.config]
theorem Part.LoadWork.group (h : s.LoadWork t) (g : GroupId) : t.group g = s.group g := by
  simp [Part.group, h.cfg]
theorem Part.LoadWork.station (h : s.LoadWork t) (k : StationId) : t.station k = s.station k := by
  simp [Part.station, h.flm]
theorem Part.LoadWork.covers (h : s.LoadWork t) (x : Target) (n : LoadId) : t.covers x n = s.covers x n := by
  cases x <;> simp [Part.covers, h.config, h.inUse]
theorem Part.LoadWork.onCount (h : s.LoadWork t) (n : LoadId) : t.onCount n = s.onCount n := by
  simp [Part.onCount, h.holds, h.covers]
theorem Part.LoadWork.offCount (h : s.LoadWork t) (n : LoadId) : t.offCount n = s.offCount n := by
  simp [Part.offCount, h.holds, h.covers]
theorem Part.LoadWork.groupOnCount (h : s.LoadWork t) (g : GroupId) :
    t.groupOnCount g = s.groupOnCount g := by simp [Part.groupOnCount, h.holds]
end

/-! ## Updates -/

theorem Part.loadWork_setLoad (s : Part) (n : LoadId) (r : LoadRecord) : s.LoadWork (s.setLoad n r) :=
  ⟨rfl, rfl, rfl, rfl, rfl, rfl, rfl, rfl, rfl⟩
theorem Part.loadWork_noteInputs (before after : Part) : after.LoadWork (before.noteInputs after) :=
  ⟨rfl, rfl, rfl, rfl, rfl, rfl, rfl, rfl, rfl⟩
theorem Part.loadWork_settleChecks (before after : Part) : after.LoadWork (before.settleChecks after) :=
  ⟨rfl, rfl, rfl, rfl, rfl, rfl, rfl, rfl, rfl⟩
theorem Part.loadWork_moveLoad (s : Part) (n : LoadId) (r : LoadRecord) : s.LoadWork (s.moveLoad n r) :=
  (s.loadWork_setLoad n r).trans (s.loadWork_noteInputs _)
theorem Part.loadWork_setPhase (s : Part) (n : LoadId) (p : LoadPhase) : s.LoadWork (s.setPhase n p) :=
  s.loadWork_moveLoad n _
theorem Part.loadWork_setQueue (s : Part) (q : List Entry) : s.LoadWork (s.setQueue q) :=
  ⟨rfl, rfl, rfl, rfl, rfl, rfl, rfl, rfl, rfl⟩
theorem Part.loadWork_startScan (s : Part) : s.LoadWork s.startScan :=
  ⟨rfl, rfl, rfl, rfl, rfl, rfl, rfl, rfl, rfl⟩
theorem Part.loadWork_reportChange (before after : Part) (n : LoadId) :
    after.LoadWork (before.reportChange after n) := by
  rw [Part.reportChange_eq]
  exact ⟨rfl, rfl, rfl, rfl, rfl, rfl, rfl, rfl, rfl⟩
theorem Part.loadWork_setStartingOrigin (s : Part) (n : LoadId) (o : Option Origin) :
    s.LoadWork (s.setStartingOrigin n o) := ⟨rfl, rfl, rfl, rfl, rfl, rfl, rfl, rfl, rfl⟩
theorem Part.loadWork_nextChoice (s : Part) : s.LoadWork s.nextChoice :=
  ⟨rfl, rfl, rfl, rfl, rfl, rfl, rfl, rfl, rfl⟩
theorem Part.loadWork_raise (s : Part) (d : Detail) : s.LoadWork (s.raise d) :=
  ⟨rfl, rfl, rfl, rfl, rfl, rfl, rfl, rfl, rfl⟩
theorem Part.loadWork_removeEntry (s : Part) (n : LoadId) : s.LoadWork (s.removeEntry n) :=
  s.loadWork_setQueue _
theorem Part.loadWork_setOrigin (s : Part) (n : LoadId) (o : Origin) : s.LoadWork (s.setOrigin n o) :=
  s.loadWork_setQueue _
theorem Part.loadWork_setWait (s : Part) (n : LoadId) (w : Wait) : s.LoadWork (s.setWait n w) :=
  s.loadWork_setQueue _
theorem Part.loadWork_newEntry (s : Part) (n : LoadId) (o : Origin) : s.LoadWork (s.newEntry n o) :=
  ⟨rfl, rfl, rfl, rfl, rfl, rfl, rfl, rfl, rfl⟩

/-! ## Stops and their re-evaluation (R30, R31, R34) -/

theorem Part.loadWork_enterStopping (s : Part) (n : LoadId) : s.LoadWork (s.enterStopping n) :=
  (s.loadWork_moveLoad n _).trans (Part.loadWork_reportChange _ _ n)

theorem Part.loadWork_keepOffStop (s : Part) (n : LoadId) : s.LoadWork (s.keepOffStop n) := by
  unfold Part.keepOffStop
  split
  · split
    · exact s.loadWork_enterStopping n
    · exact s.loadWork_setLoad n _
  · exact .refl s

theorem Part.loadWork_takeChecks (fuel : Nat) (s : Part) (due : List LoadId) :
    s.LoadWork (s.takeChecks fuel due) := by
  induction fuel generalizing s due with
  | zero => exact .refl s
  | succ fuel ih =>
    unfold Part.takeChecks
    split
    · exact .refl s
    · exact (s.loadWork_enterStopping _).trans (ih _ _)
    · exact (s.loadWork_nextChoice.trans (Part.loadWork_enterStopping _ _)).trans (ih _ _)

theorem Part.loadWork_recheck (before after : Part) : after.LoadWork (before.recheck after) :=
  (after.loadWork_takeChecks 64 _).trans (before.loadWork_settleChecks _)

/-! ## Withdrawal (R85 to R87) -/

theorem Part.loadWork_settleRound (s : Part) (orphans : List LoadId) :
    s.LoadWork (s.settleRound orphans).1 := by
  refine Part.LoadWork.foldl_fst _ ?_ orphans (s, [])
  intro acc o
  split
  · exact acc.1.loadWork_setOrigin o _
  · exact (acc.1.loadWork_removeEntry o).trans (Part.loadWork_setPhase _ _ _)

theorem Part.loadWork_settleOrphans (fuel : Nat) (s : Part) (gone : List LoadId) :
    s.LoadWork (s.settleOrphans fuel gone) := by
  induction fuel generalizing s gone with
  | zero => exact .refl s
  | succ fuel ih =>
    unfold Part.settleOrphans
    split
    · exact .refl s
    · exact (s.loadWork_settleRound _).trans (ih _ _)

theorem Part.loadWork_withdraw (s : Part) (n : LoadId) (cause : WithdrawCause) :
    s.LoadWork (s.withdraw n cause) := by
  have gone := (s.loadWork_removeEntry n).trans (Part.loadWork_setPhase _ n cause.phase)
  exact (Part.LoadWork.ite _ (gone.trans (Part.loadWork_raise _ _)) gone).trans
    (Part.loadWork_settleOrphans _ _ _)

theorem Part.loadWork_reexamine (s : Part) (n : LoadId) : s.LoadWork (s.reexamine n) := by
  unfold Part.reexamine
  split
  · split
    · split
      · exact s.loadWork_setOrigin n _
      · exact s.loadWork_withdraw n _
    · exact .refl s
  · exact .refl s

/-! ## Requests and pull-up (R80, R82, R83) -/

section
variable (ask : Part → LoadId → Origin → Part) (ha : ∀ s n o, Part.LoadWork s (ask s n o))
include ha

theorem Part.loadWork_askOffMembers (s : Part) (g : GroupId) (o : Origin) :
    s.LoadWork (s.askOffMembers ask g o).1 := by
  refine Part.LoadWork.foldl_fst _ ?_ (s.members g) (s, s.floorCount g)
  intro acc m
  split
  · exact ha _ _ _
  · exact .refl _

theorem Part.loadWork_askStoppingMembers (acc : Part × Nat) (g : GroupId) (o : Origin) :
    acc.1.LoadWork (Part.askStoppingMembers ask acc g o) := by
  refine Part.LoadWork.foldl_fst _ ?_ (acc.1.members g) acc
  intro acc m
  split
  · exact ha _ _ _
  · exact .refl _

theorem Part.loadWork_pullNeed (k : LoadId) (s : Part) (need : Need) :
    s.LoadWork (Part.pullNeed ask k s need) := by
  cases need with
  | load j =>
    simp only [Part.pullNeed]
    split
    · exact ha _ _ _
    · exact .refl s
  | group g =>
    exact (Part.loadWork_askOffMembers ask ha s g _).trans (Part.loadWork_askStoppingMembers ask ha _ g _)

theorem Part.loadWork_pullNeeds (s : Part) (k : LoadId) : s.LoadWork (Part.pullNeeds ask s k) :=
  Part.LoadWork.foldl _ (Part.loadWork_pullNeed ask ha k) _ s

theorem Part.loadWork_enqueueNew (s : Part) (n : LoadId) (o : Origin) :
    s.LoadWork (Part.enqueueNew ask s n o) := by
  unfold Part.enqueueNew
  refine (s.loadWork_newEntry n o).trans ?_
  dsimp only
  split
  · exact (Part.loadWork_pullNeeds ask ha _ n).trans (Part.loadWork_startScan _)
  · exact Part.loadWork_withdraw _ n _

theorem Part.loadWork_requestOff (s : Part) (n : LoadId) (o : Origin) :
    s.LoadWork (Part.requestOff ask s n o) := by
  have new := Part.loadWork_enqueueNew ask ha s n
  unfold Part.requestOff
  split
  · split
    · exact new _
    · exact .refl s
  · split
    · exact new _
    · exact .refl s
  · split
    · exact new _
    · split
      · exact new _
      · exact .refl s
  · exact new _
  · exact new _
end

theorem Part.loadWork_request (fuel : Nat) (s : Part) (n : LoadId) (o : Origin) :
    s.LoadWork (Part.request fuel s n o) := by
  induction fuel generalizing s n o with
  | zero => exact .refl s
  | succ fuel ih =>
    unfold Part.request
    split
    · exact .refl s
    · split
      · split
        · exact .refl s
        · exact Part.loadWork_requestOff _ ih s n o
      · split
        · exact s.loadWork_setOrigin n _
        · exact .refl s
      · exact s.loadWork_setLoad n _
      · exact .refl s

theorem Part.loadWork_enqueue (s : Part) (n : LoadId) (o : Origin) : s.LoadWork (s.enqueue n o) :=
  Part.loadWork_request 65 s n o

theorem Part.loadWork_floorRequest (s : Part) (g : GroupId) (o : Origin) : s.LoadWork (s.floorRequest g o) := by
  unfold Part.floorRequest
  split
  · exact .refl s
  · exact Part.loadWork_askOffMembers _ Part.loadWork_enqueue s g o

theorem Part.loadWork_floorForMember (s : Part) (n : LoadId) : s.LoadWork (s.floorForMember n) := by
  unfold Part.floorForMember
  split
  · split
    · exact s.loadWork_floorRequest _ _
    · exact .refl s
  · exact .refl s

theorem Part.loadWork_reviewEntry (s : Part) (n : LoadId) : s.LoadWork (s.reviewEntry n) := by
  unfold Part.reviewEntry
  split
  · split
    · exact Part.loadWork_pullNeeds _ Part.loadWork_enqueue s n
    · exact s.loadWork_withdraw n _
  · exact .refl s

theorem Part.loadWork_needReview (s : Part) : s.LoadWork s.needReview :=
  Part.LoadWork.foldl _ Part.loadWork_reviewEntry _ s

/-! ## Entries to OFF, FAULT and OVERRIDE, completion, admission -/

theorem Part.loadWork_offReports (s : Part) (n : LoadId) : s.LoadWork (s.offReports n) := by
  have drop := s.loadWork_setLoad n { s.load n with heldEnqueue := none }
  unfold Part.offReports
  refine Part.LoadWork.trans ?_ (Part.loadWork_floorForMember _ n)
  cases (s.load n).heldEnqueue with
  | none => exact Part.LoadWork.ite _ (drop.trans (Part.loadWork_enqueue _ n _)) drop
  | some o =>
    have asked := drop.trans (Part.loadWork_enqueue _ n o)
    exact Part.LoadWork.ite _ (asked.trans (Part.loadWork_enqueue _ n _)) asked

theorem Part.loadWork_enterOff (s : Part) (n : LoadId) : s.LoadWork (s.enterOff n) :=
  ((s.loadWork_moveLoad n _).trans (Part.loadWork_offReports _ n)).trans (Part.loadWork_needReview _)

theorem Part.loadWork_failStart (s : Part) (n : LoadId) : s.LoadWork (s.failStart n) :=
  ((((s.loadWork_setPhase n _).trans (Part.loadWork_setStartingOrigin _ n _)).trans
    (Part.loadWork_raise _ _)).trans (Part.loadWork_floorForMember _ n)).trans (Part.loadWork_needReview _)

theorem Part.loadWork_failStop (s : Part) (n : LoadId) : s.LoadWork (s.failStop n) :=
  ((s.loadWork_setPhase n _).trans (Part.loadWork_raise _ _)).trans (Part.loadWork_needReview _)

theorem Part.loadWork_completeStart (s : Part) (n : LoadId) : s.LoadWork (s.completeStart n) := by
  have done := ((s.loadWork_moveLoad n { s.load n with
    phase := runningPhase s.mode, lastActivity := s.now, changed := true }).trans
    (s.loadWork_reportChange _ n)).trans (Part.loadWork_setStartingOrigin _ n none)
  exact Part.LoadWork.ite _ (done.trans (Part.loadWork_keepOffStop _ n)) done

theorem Part.loadWork_enterOverride (s : Part) (n : LoadId) : s.LoadWork (s.enterOverride n) := by
  unfold Part.enterOverride
  split
  · exact s.loadWork_withdraw n _
  · exact s.loadWork_setPhase n _

theorem Part.loadWork_admitLoad (s : Part) (n : LoadId) : s.LoadWork (s.admitLoad n) :=
  ((s.loadWork_removeEntry n).trans (Part.loadWork_moveLoad _ n _)).trans
    (Part.loadWork_setStartingOrigin _ n _)

theorem Part.loadWork_scanFrom (l : List LoadId) (s : Part) : s.LoadWork (Part.scanFrom l s) := by
  induction l generalizing s with
  | nil => exact .refl s
  | cons n rest ih =>
    unfold Part.scanFrom
    split
    · split
      · exact (s.loadWork_setWait n _).trans (ih _)
      · split
        · exact (s.loadWork_withdraw n _).trans (ih _)
        · split
          · exact (s.loadWork_admitLoad n).trans (ih _)
          · exact s.loadWork_setWait n _
    · exact ih s

theorem Part.loadWork_scan (s : Part) : s.LoadWork s.scan :=
  Part.LoadWork.trans (t := { s with dgv := { s.dgv with scanDue := false } })
    ⟨rfl, rfl, rfl, rfl, rfl, rfl, rfl, rfl, rfl⟩ (Part.loadWork_scanFrom _ _)

theorem Part.loadWork_recomputeDemand (before after : Part) :
    after.LoadWork (before.recomputeDemand after) := by
  unfold Part.recomputeDemand
  exact ⟨rfl, rfl, rfl, rfl, rfl, rfl, rfl, rfl, rfl⟩

/-! ## Reports of the Hold Table (R61 to R63, R70 to R72) -/

theorem Part.loadWork_reportKeepOff (s : Part) (n : LoadId) : s.LoadWork (s.reportKeepOff n) :=
  have stop := s.loadWork_keepOffStop n
  (Part.LoadWork.ite _ (stop.trans (Part.loadWork_withdraw _ n _)) stop).trans (Part.loadWork_needReview _)

theorem Part.loadWork_reportPlacement (s : Part) (h : Hold) : s.LoadWork (s.reportPlacement h) := by
  unfold Part.reportPlacement
  split
  · split
    · exact s.loadWork_floorRequest _ _
    · exact .refl s
  · exact Part.LoadWork.foldl _ (fun s n => s.loadWork_enqueue n .hold) _ s
  · exact Part.LoadWork.foldl _ Part.loadWork_reportKeepOff _ s

theorem Part.loadWork_reportKeepOffLoss (s : Part) (n : LoadId) : s.LoadWork (s.reportKeepOffLoss n) :=
  ((s.loadWork_setLoad n _).trans (Part.loadWork_needReview _)).trans (Part.loadWork_floorForMember _ n)

theorem Part.loadWork_reportRetirement (s : Part) (h : Hold) : s.LoadWork (s.reportRetirement h) := by
  unfold Part.reportRetirement
  split
  · split
    · exact Part.LoadWork.foldl _ Part.loadWork_reexamine _ s
    · exact .refl s
  · exact Part.LoadWork.foldl _ Part.loadWork_reexamine _ s
  · exact Part.LoadWork.foldl _ Part.loadWork_reportKeepOffLoss _ s

/-! ## The field link's work on loads (R22 to R25, R45, R46) -/

theorem Part.loadWork_loseLoad (s : Part) (n : LoadId) : s.LoadWork (s.loseLoad n) := by
  have lost := (s.loadWork_moveLoad n { s.load n with
    phase := .unreachable, filterCount := 0, activityCount := 0, activityWindow := none
    stopPending := false, heldEnqueue := none, changed := true }).trans
    (Part.loadWork_setStartingOrigin _ n none)
  exact Part.LoadWork.ite _ (lost.trans (Part.loadWork_withdraw _ n _)) lost

theorem Part.loadWork_loseLoads (s : Part) (k : StationId) : s.LoadWork (s.loseLoads k) :=
  (Part.LoadWork.foldl _ Part.loadWork_loseLoad _ s).trans
    (Part.LoadWork.foldl _ (fun s n => (s.loadWork_floorForMember n).trans (Part.loadWork_needReview _)) _ _)

theorem Part.loadWork_handSilence (s : Part) (k : StationId) (silence : Nat) :
    s.LoadWork (s.handSilence k silence) := by
  unfold Part.handSilence
  split
  · exact .refl s
  · exact Part.LoadWork.foldl _ (fun s n => s.loadWork_setLoad n _) _ s

theorem Part.loadWork_feedbackEffect (s : Part) (n : LoadId) (was : Bool) :
    s.LoadWork (s.feedbackEffect n was) := by
  have same := Part.LoadWork.refl s
  have off := s.loadWork_enterOff n
  have overridden := s.loadWork_enterOverride n
  unfold Part.feedbackEffect
  dsimp only
  split
  · exact Part.LoadWork.ite _ same off
  · exact Part.LoadWork.ite _ same off
  · exact Part.LoadWork.ite _ overridden same
  · exact Part.LoadWork.ite _ overridden same
  · exact Part.LoadWork.ite _ overridden same
  · exact Part.LoadWork.ite _ off same
  · exact Part.LoadWork.ite _ (s.loadWork_completeStart n)
      (Part.LoadWork.ite _ (s.loadWork_failStart n) same)
  all_goals exact same

theorem Part.loadWork_qualifyLoad (s : Part) (n : LoadId) (v : Reading) : s.LoadWork (s.qualifyLoad n v) :=
  (s.loadWork_moveLoad n _).trans (s.loadWork_reportChange _ n)

theorem Part.loadWork_qualifyReply (s : Part) (k : StationId) (v : Vector Reading 4) :
    s.LoadWork (s.qualifyReply k v) :=
  (Part.LoadWork.foldl _ (fun s n => s.loadWork_qualifyLoad n _) _ s).trans
    (Part.LoadWork.foldl _ (fun s' n => s'.loadWork_feedbackEffect n _) _ _)

theorem Part.loadWork_returnLoad (s : Part) (n : LoadId) (v : Reading) : s.LoadWork (s.returnLoad n v) := by
  unfold Part.returnLoad
  dsimp only
  exact Part.LoadWork.ite _
    (((s.loadWork_moveLoad n _).trans (s.loadWork_reportChange _ n)).trans (Part.loadWork_keepOffStop _ n))
    ((s.loadWork_moveLoad n _).trans (s.loadWork_reportChange _ n))

theorem Part.loadWork_returnLoads (s : Part) (k : StationId) (v : Vector Reading 4) :
    s.LoadWork (s.returnLoads k v) :=
  Part.LoadWork.foldl _ (fun s n => s.loadWork_returnLoad n _) _ s

theorem Part.loadWork_useReply (s : Part) (k : StationId) (before : Station) (v : Vector Reading 4) :
    s.LoadWork (s.useReply k before v) := by
  unfold Part.useReply
  split
  · split
    · exact s.loadWork_returnLoads k v
    · exact .refl s
  · refine Part.LoadWork.trans ?_ (Part.loadWork_qualifyReply _ k v)
    split
    · split
      · exact s.loadWork_handSilence k _
      · exact .refl s
    · exact .refl s

end Sys2Proof.Machine
end

