-- ==== Sys2Proof/Laws/ModeWork.lean ====
section
/-! SUPPORT. What the mode machine and the close of an event's handling may touch: what load work touches, the
mode with its deadlines, the LATE and armed flags, the two plan slots, the lamps and the holds. Uptime, the
clock, the other records, the debounce records, the link, the port and the store stay. -/

namespace Sys2Proof.Machine

/-- From s to t only loads, the Governor, the causes, the mode and its flags, the plan slots, the lamps and the
holds may differ. -/
structure Part.ModeWork (s t : Part) : Prop where
  power : t.power = s.power
  nextId : t.nextId = s.nextId
  flm : t.flm = s.flm
  svp : t.svp = s.svp
  cfs : t.cfs = s.cfs
  uptime : t.ncc.uptime = s.ncc.uptime
  clock : t.ncc.clock = s.ncc.clock
  minuteDue : t.ncc.minuteDue = s.ncc.minuteDue
  intervalDue : t.ncc.intervalDue = s.ncc.intervalDue
  records : t.cfg = { s.cfg with active := t.cfg.active, staged := t.cfg.staged }
  lines : t.lin = { s.lin with lamps := t.lin.lamps }

theorem Part.ModeWork.refl (s : Part) : s.ModeWork s :=
  ⟨rfl, rfl, rfl, rfl, rfl, rfl, rfl, rfl, rfl, rfl, rfl⟩

theorem Part.ModeWork.trans {s t u : Part} (h : s.ModeWork t) (g : t.ModeWork u) : s.ModeWork u where
  power := g.power.trans h.power
  nextId := g.nextId.trans h.nextId
  flm := g.flm.trans h.flm
  svp := g.svp.trans h.svp
  cfs := g.cfs.trans h.cfs
  uptime := g.uptime.trans h.uptime
  clock := g.clock.trans h.clock
  minuteDue := g.minuteDue.trans h.minuteDue
  intervalDue := g.intervalDue.trans h.intervalDue
  records := by have a := g.records; rw [h.records] at a; exact a
  lines := by have a := g.lines; rw [h.lines] at a; exact a

theorem Part.ModeWork.ite {s t u : Part} (c : Prop) [Decidable c] (h : s.ModeWork t) (g : s.ModeWork u) :
    s.ModeWork (if c then t else u) := by split <;> assumption

theorem Part.LoadWork.modeWork {s t : Part} (h : s.LoadWork t) : s.ModeWork t where
  power := h.power
  nextId := h.nextId
  flm := h.flm
  svp := h.svp
  cfs := h.cfs
  uptime := by rw [h.ncc]
  clock := by rw [h.ncc]
  minuteDue := by rw [h.ncc]
  intervalDue := by rw [h.ncc]
  records := by rw [h.cfg]
  lines := by rw [h.lin]

theorem Part.ModeWork.now {s t : Part} (h : s.ModeWork t) : t.now = s.now := h.uptime
theorem Part.ModeWork.working {s t : Part} (h : s.ModeWork t) : t.working = s.working := by
  simp [Part.working, h.power]
theorem Part.ModeWork.config {s t : Part} (h : s.ModeWork t) (n : LoadId) : t.config n = s.config n := by
  simp only [Part.config]; rw [h.records]
theorem Part.ModeWork.inUse {s t : Part} (h : s.ModeWork t) (n : LoadId) : t.inUse n = s.inUse n := by
  simp [Part.inUse, h.config]
theorem Part.ModeWork.station {s t : Part} (h : s.ModeWork t) (k : StationId) :
    t.station k = s.station k := by simp [Part.station, h.flm]

/-! ## Updates -/

theorem Part.modeWork_setMode (s : Part) (m : ModeState) : s.ModeWork (s.setMode m) :=
  ⟨rfl, rfl, rfl, rfl, rfl, rfl, rfl, rfl, rfl, rfl, rfl⟩
theorem Part.modeWork_chooseLamp (s : Part) (p : PanelId) : s.ModeWork (s.chooseLamp p) :=
  ⟨rfl, rfl, rfl, rfl, rfl, rfl, rfl, rfl, rfl, rfl, rfl⟩
theorem Part.modeWork_chooseLamps (s : Part) : s.ModeWork s.chooseLamps := by
  have h : ∀ (l : List PanelId) (s : Part), s.ModeWork (l.foldl Part.chooseLamp s) := by
    intro l
    induction l with
    | nil => exact fun s => .refl s
    | cons p l ih => exact fun s => (s.modeWork_chooseLamp p).trans (ih _)
  exact h allPanels s
theorem Part.modeWork_setCeilings (s : Part) (i d : Ceiling) : s.ModeWork (s.setCeilings i d) := by
  unfold Part.setCeilings
  exact ⟨rfl, rfl, rfl, rfl, rfl, rfl, rfl, rfl, rfl, rfl, rfl⟩
theorem Part.modeWork_swapPlans (s : Part) : s.ModeWork s.swapPlans := by
  unfold Part.swapPlans Part.setCeilings
  exact ⟨rfl, rfl, rfl, rfl, rfl, rfl, rfl, rfl, rfl, rfl, rfl⟩
theorem Part.modeWork_moveRunning (s : Part) (m : Mode) : s.ModeWork (s.moveRunning m) :=
  ⟨rfl, rfl, rfl, rfl, rfl, rfl, rfl, rfl, rfl, rfl, rfl⟩
theorem Part.modeWork_tellMode (s : Part) (m : ModeState) : s.ModeWork (s.tellMode m) :=
  (((s.modeWork_setMode m).trans (Part.modeWork_moveRunning _ _)).trans
    (Part.loadWork_noteInputs _ _).modeWork).trans (Part.modeWork_chooseLamps _)
theorem Part.modeWork_raiseMode (s : Part) (late : Bool) : s.ModeWork (s.raiseMode late) :=
  (s.loadWork_raise _).modeWork
theorem Part.modeWork_loadsToLocal (s : Part) : s.ModeWork s.loadsToLocal :=
  ⟨rfl, rfl, rfl, rfl, rfl, rfl, rfl, rfl, rfl, rfl, rfl⟩
theorem Part.modeWork_clearHolds (s : Part) : s.ModeWork s.clearHolds := by
  unfold Part.clearHolds
  refine Part.ModeWork.ite _ (.refl s) ?_
  refine Part.ModeWork.trans ?_ (Part.modeWork_chooseLamps _)
  exact ⟨rfl, rfl, rfl, rfl, rfl, rfl, rfl, rfl, rfl, rfl, rfl⟩

/-! ## Mode changes (R116 to R126) -/

theorem Part.modeWork_takeNextNight (s : Part) (mark : Option Nat) : s.ModeWork (s.takeNextNight mark).1 :=
  s.modeWork_setMode _

theorem Part.modeWork_takeLead (s : Part) (target : Option WakeTarget) : s.ModeWork (s.takeLead target).1 :=
  s.modeWork_setMode _

theorem Part.modeWork_nightChecks (s : Part) : s.ModeWork s.nightChecks :=
  (s.loadWork_takeChecks _ _).modeWork

theorem Part.modeWork_enterNight (s : Part) : s.ModeWork s.enterNight.1 := by
  have choice := s.loadWork_nextChoice.modeWork
  simp only [Part.enterNight]
  split
  · exact s.modeWork_takeLead _
  · split
    · exact (choice.trans (Part.modeWork_takeLead _ _)).trans (Part.modeWork_nightChecks _)
    · exact (choice.trans (Part.modeWork_nightChecks _)).trans (Part.modeWork_takeLead _ _)

theorem Part.loadWork_sweep (s : Part) : s.LoadWork s.sweep :=
  Part.LoadWork.foldl _ (fun s n => s.loadWork_enqueue n .wake) _ s

theorem Part.modeWork_setLate (s : Part) (late : Bool) : s.ModeWork (s.setLate late) :=
  ⟨rfl, rfl, rfl, rfl, rfl, rfl, rfl, rfl, rfl, rfl, rfl⟩

theorem Part.modeWork_swapIfArmed (s : Part) : s.ModeWork s.swapIfArmed :=
  Part.ModeWork.ite _ s.modeWork_swapPlans (.refl s)

theorem Part.modeWork_enterDay (s : Part) (late : Bool) (mark : Option Nat) :
    s.ModeWork (s.enterDay late mark).1 :=
  ((s.modeWork_setLate late).trans (Part.modeWork_swapIfArmed _)).trans (Part.modeWork_takeNextNight _ _)

theorem Part.modeWork_applyMove (s : Part) (m : Move) : s.ModeWork (s.applyMove m).1 := by
  cases m with
  | setup =>
    simp only [Part.applyMove]
    exact (((s.modeWork_tellMode _).trans (Part.modeWork_clearHolds _)).trans
      (Part.modeWork_loadsToLocal _)).trans (Part.modeWork_raiseMode _ _)
  | day late mark =>
    simp only [Part.applyMove]
    exact ((s.modeWork_tellMode _).trans (Part.modeWork_enterDay _ _ _)).trans (Part.modeWork_raiseMode _ _)
  | windDown d sch =>
    simp only [Part.applyMove]
    exact (s.modeWork_tellMode _).trans (Part.modeWork_raiseMode _ _)
  | night =>
    simp only [Part.applyMove]
    exact ((s.modeWork_tellMode _).trans (Part.modeWork_enterNight _)).trans (Part.modeWork_raiseMode _ _)
  | wake grace atOnce =>
    simp only [Part.applyMove]
    exact ((s.modeWork_tellMode _).trans (Part.loadWork_sweep _).modeWork).trans
      (Part.modeWork_raiseMode _ false)

theorem Part.modeWork_runMoves (fuel : Nat) (s : Part) (m : Option Move) :
    s.ModeWork (s.runMoves fuel m) := by
  induction fuel generalizing s m with
  | zero => cases m <;> exact .refl s
  | succ fuel ih =>
    cases m with
    | none => exact .refl s
    | some m => exact (s.modeWork_applyMove m).trans (ih _ _)

theorem Part.modeWork_changeMode (s : Part) (m : Move) : s.ModeWork (s.changeMode m) :=
  s.modeWork_runMoves 8 _

theorem Part.modeWork_wakeEndTest (s : Part) : s.ModeWork s.wakeEndTest :=
  Part.ModeWork.ite _ (s.modeWork_changeMode _) (.refl s)

/-- The close of an event's handling keeps to mode work. -/
theorem Part.modeWork_finish (before after : Part) : after.ModeWork (before.finish after) :=
  (((before.loadWork_recheck after).trans (Part.loadWork_recomputeDemand _ _)).modeWork.trans
    (Part.modeWork_wakeEndTest _)).trans (before.loadWork_settleChecks _).modeWork

theorem Part.modeWork_reclassify (s : Part) : s.ModeWork s.reclassify := by
  unfold Part.reclassify
  split
  · split
    · exact s.modeWork_setMode _
    · exact .refl s
  · split
    · exact .refl s
    · exact s.modeWork_setMode _
    · exact s.modeWork_changeMode _
    · exact s.modeWork_changeMode _
    · exact s.modeWork_changeMode _
    · exact s.modeWork_setMode _
    · exact s.modeWork_changeMode _
    · exact s.modeWork_changeMode _
    · exact (s.modeWork_takeLead _).trans (Part.modeWork_runMoves _ _ _)
    · exact (s.modeWork_takeLead _).trans (Part.modeWork_runMoves _ _ _)
    · dsimp only
      split
      · exact Part.ModeWork.ite _ ((s.modeWork_setMode _).trans (Part.modeWork_changeMode _ _))
          (s.modeWork_setMode _)
      · exact s.modeWork_setMode _

/-! ## Mode changes other than to SETUP keep the holds (R73 clears them at SETUP alone) -/

/-- A move to SETUP. -/
def Move.isSetup : Move → Bool
  | .setup => true
  | .day _ _ | .windDown _ _ | .night | .wake _ _ => false

theorem Part.chooseLamps_holds (s : Part) : s.chooseLamps.holds = s.holds := by
  have h : ∀ (l : List PanelId) (s : Part), (l.foldl Part.chooseLamp s).holds = s.holds := by
    intro l
    induction l with
    | nil => exact fun _ => rfl
    | cons p l ih => exact fun s => ih _
  exact h allPanels s

theorem Part.tellMode_holds (s : Part) (m : ModeState) : (s.tellMode m).holds = s.holds :=
  Part.chooseLamps_holds _

theorem Part.takeNextNight_holds (s : Part) (mark : Option Nat) :
    (s.takeNextNight mark).1.holds = s.holds := rfl

theorem Part.takeLead_holds (s : Part) (target : Option WakeTarget) :
    (s.takeLead target).1.holds = s.holds := rfl

theorem Part.enterNight_holds (s : Part) : s.enterNight.1.holds = s.holds := by
  have checks : ∀ t : Part, t.nightChecks.holds = t.holds := fun t => (t.loadWork_takeChecks _ _).holds
  simp only [Part.enterNight]
  split
  · exact s.takeLead_holds _
  · split
    · exact (checks _).trans (Part.takeLead_holds _ _)
    · exact (Part.takeLead_holds _ _).trans (checks _)

theorem Part.swapIfArmed_holds (s : Part) : s.swapIfArmed.holds = s.holds := by
  unfold Part.swapIfArmed
  split
  · simp only [Part.swapPlans, Part.raise_holds, Part.setCeilings]
  · rfl

theorem Part.enterDay_holds (s : Part) (late : Bool) (mark : Option Nat) :
    (s.enterDay late mark).1.holds = s.holds :=
  (Part.takeNextNight_holds _ _).trans ((Part.swapIfArmed_holds _).trans rfl)

theorem Part.applyMove_holds (s : Part) (m : Move) (h : m.isSetup = false) :
    (s.applyMove m).1.holds = s.holds := by
  cases m with
  | setup => cases h
  | day late mark =>
    simp only [Part.applyMove, Part.raiseMode, Part.raise_holds, Part.enterDay_holds, Part.tellMode_holds]
  | windDown d sch =>
    simp only [Part.applyMove, Part.raiseMode, Part.raise_holds, Part.tellMode_holds]
  | night =>
    simp only [Part.applyMove, Part.raiseMode, Part.raise_holds, Part.enterNight_holds, Part.tellMode_holds]
  | wake grace atOnce =>
    simp only [Part.applyMove, Part.raiseMode, Part.raise_holds, (Part.loadWork_sweep _).holds,
      Part.tellMode_holds]

theorem nextNightMove_notSetup (next : Option NextNight) (now : Nat) :
    ∀ m ∈ (nextNightMove next now).toList, m.isSetup = false := by
  unfold nextNightMove
  split
  · split <;> simp [Move.isSetup]
  · simp

theorem Part.leadMove_notSetup (s : Part) (target : Option WakeTarget) (wb : Option Nat) :
    ∀ m ∈ (s.leadMove target wb).toList, m.isSetup = false := by
  unfold Part.leadMove
  split
  · split <;> simp [Move.isSetup]
  · simp

theorem Part.takeLead_notSetup (s : Part) (target : Option WakeTarget) :
    ∀ m ∈ (s.takeLead target).2.toList, m.isSetup = false := s.leadMove_notSetup _ _

theorem Part.enterNight_notSetup (s : Part) : ∀ m ∈ s.enterNight.2.toList, m.isSetup = false := by
  simp only [Part.enterNight]
  split
  · exact s.takeLead_notSetup _
  · split <;> exact Part.takeLead_notSetup _ _

theorem Part.afterSweep_notSetup (s : Part) (grace : Option Int) (atOnce : Bool) :
    ∀ m ∈ (s.afterSweep grace atOnce).toList, m.isSetup = false := by
  unfold Part.afterSweep
  split
  · simp [Move.isSetup]
  · split
    · split <;> simp [Move.isSetup]
    · simp

/-- The change a mode's entry calls for is never one to SETUP (R116). -/
theorem Part.applyMove_next (s : Part) (m : Move) : ∀ m' ∈ (s.applyMove m).2.toList, m'.isSetup = false := by
  cases m with
  | setup => simp [Part.applyMove]
  | day late mark => exact nextNightMove_notSetup _ _
  | windDown d sch =>
    simp only [Part.applyMove]
    split <;> simp [Move.isSetup]
  | night => exact Part.enterNight_notSetup _
  | wake grace atOnce => exact Part.afterSweep_notSetup _ _ _

theorem Part.runMoves_holds (fuel : Nat) (s : Part) (m : Option Move)
    (h : ∀ m' ∈ m.toList, m'.isSetup = false) : (s.runMoves fuel m).holds = s.holds := by
  induction fuel generalizing s m with
  | zero => cases m <;> rfl
  | succ fuel ih =>
    cases m with
    | none => rfl
    | some m =>
      exact (ih _ _ (s.applyMove_next m)).trans (s.applyMove_holds m (h m (by simp)))

theorem Part.changeMode_holds (s : Part) (m : Move) (h : m.isSetup = false) :
    (s.changeMode m).holds = s.holds := s.runMoves_holds 8 _ (by simpa using h)

/-- The close of an event's handling leaves no check noted that was not noted before it (R30). -/
@[simp] theorem Part.finish_checksDue (before after : Part) :
    (before.finish after).checksDue = before.checksDue := rfl

/-- The close of an event's handling keeps the holds. -/
theorem Part.finish_holds (before after : Part) : (before.finish after).holds = after.holds := by
  have work := (before.loadWork_recheck after).trans (Part.loadWork_recomputeDemand before _)
  rw [Part.finish, Part.settleChecks_holds, Part.wakeEndTest]
  split
  · exact (Part.changeMode_holds _ _ rfl).trans work.holds
  · exact work.holds

/-! ## Entries that stay -/

theorem Part.dayStays_of_none {s : Part} {mark : Option Nat} (h : s.dayNight mark = none) : s.dayStays mark :=
  fun night e => by rw [h] at e; cases e

theorem Part.dayStays_of_some {s : Part} {mark : Option Nat} {night : NextNight}
    (h : s.dayNight mark = some night) (ahead : s.now < night.warnStart) : s.dayStays mark :=
  fun night' e => by rw [h] at e; cases e; exact ahead

theorem Part.nightStays_of_none {s : Part} (h : wakeBeginFor s.wakeTarget s.leadSeconds = none) : s.nightStays :=
  fun b e => by rw [h] at e; cases e

theorem Part.nightStays_of_some {s : Part} {b : Nat}
    (h : wakeBeginFor s.wakeTarget s.leadSeconds = some b) (ahead : s.now < b) : s.nightStays :=
  fun b' e => by rw [h] at e; cases e; exact ahead

end Sys2Proof.Machine
end

