-- ==== Sys2Proof/Laws/LinkWork.lean ====
section
/-! SUPPORT. What the link master's operations leave of the tags of the polls, and how a poll cycle goes on (R134 to
R136). -/

namespace Sys2Proof.Machine

/-! ## Tags: a transaction's end changes none (R136) -/

@[simp] theorem Station.afterFailure_pollTag (r : Station) : r.afterFailure.pollTag = r.pollTag := by
  simp only [Station.afterFailure, Station.failed]
  split_ifs <;> rfl

@[simp] theorem Station.afterGood_pollTag (r : Station) (auto : Bool) : (r.afterGood auto).pollTag = r.pollTag := by
  unfold Station.afterGood
  split
  · rfl
  · rfl
  · split_ifs <;> rfl

theorem Part.setStation_pollTag (s : Part) (k j : StationId) {r : Station} (h : r.pollTag = (s.station k).pollTag) :
    ((s.setStation k r).station j).pollTag = (s.station j).pollTag := by
  rw [Part.setStation_station]
  split
  · next e => rw [e, h]
  · rfl

/-- A failed transaction keeps every tag, the records and the stations to come. -/
theorem Part.failPoll_keeps (s : Part) (k : StationId) :
    (∀ j, ((s.failPoll k).station j).pollTag = (s.station j).pollTag) ∧ (s.failPoll k).cfg = s.cfg ∧
      (s.failPoll k).flm.toPoll = s.flm.toPoll := by
  have hs : (s.setStation k (s.station k).afterFailure).LoadWork (s.failPoll k) := by
    unfold Part.failPoll
    exact .ite _ (.trans (.ite _ (.refl _) (Part.loadWork_raise _ _)) (Part.loadWork_loseLoads _ _))
      (.ite _ (.refl _) (Part.loadWork_raise _ _))
  refine ⟨fun j => ?_, hs.cfg, by rw [hs.flm]; rfl⟩
  rw [hs.station]
  exact Part.setStation_pollTag s k j (Station.afterFailure_pollTag _)

/-- A good reply keeps every tag, the records and the stations to come. -/
theorem Part.goodReply_keeps (s : Part) (k : StationId) (v : Vector Reading 4) :
    (∀ j, ((s.goodReply k v).station j).pollTag = (s.station j).pollTag) ∧ (s.goodReply k v).cfg = s.cfg ∧
      (s.goodReply k v).flm.toPoll = s.flm.toPoll := by
  have hg : (s.setStation k { (s.station k).afterGood (s.recoversAuto k) with
      lastGood := some s.now, lastReply := some v }).LoadWork (s.gradeReply k v) := by
    unfold Part.gradeReply
    refine .trans ?_ (Part.loadWork_recheck _ _)
    refine .ite _ (.trans ?_ (Part.loadWork_startScan _)) ?_ <;>
      exact .ite _ (.refl _) (Part.loadWork_raise _ _)
  have hu := hg.trans (Part.loadWork_useReply (s.gradeReply k v) k (s.station k) v)
  have ht : ∀ j, (((s.gradeReply k v).useReply k (s.station k) v).station j).pollTag = (s.station j).pollTag := by
    intro j
    rw [hu.station]
    exact Part.setStation_pollTag s k j (Station.afterGood_pollTag _ _)
  refine ⟨fun j => ?_, hu.cfg, by unfold Part.goodReply; simp [hu.flm]⟩
  rw [← ht j]
  exact Part.setStation_pollTag _ k j rfl

/-! ## The next poll (R134, R135, R136) -/

/-- What pollNext does: it goes on with the cycle of any earlier state of the handling that has the same stations to
come, the same records and the same tags. -/
theorem Part.cycleGoesOn_pollNext {s u : Part} (list : u.flm.toPoll = s.flm.toPoll) (loads : u.cfg.loads = s.cfg.loads)
    (link : u.cfg.link = s.cfg.link) (tags : ∀ j, (u.station j).pollTag = (s.station j).pollTag) :
    s.cycleGoesOn u.pollNext := by
  have polled : ∀ k, u.polled k = s.polled k := Part.polled_of_records loads
  unfold Part.cycleGoesOn Part.pollNext
  simp only [list, polled]
  constructor
  · intro h; simp [h]
  · intro j rest h
    have tag := tags j
    simp only [Part.station, Fin.getElem_fin] at tag
    simp only [h, Part.sendPoll, Part.station, Part.setStation, Fin.getElem_fin, Vector.getElem_set_self, link, tag]
    refine ⟨trivial, ?_, trivial, ?_⟩
    · by_cases probe : u.flm.stations[j.val].grade = .offline
      · simp [probe]
      · simp only [probe, if_false]
        exact congrArg some (congrArg (Transaction.mk j _ _ · _) (Part.permits_of_loads rfl j))
    · intro probe
      simp only [decide_eq_true_eq] at probe
      simp [probe, Config.probeGap]

/-- After a handling is closed the next poll is that of the state it began with. -/
theorem Part.finish_pollNext {s u : Part} (list : u.flm.toPoll = s.flm.toPoll) (cfg : u.cfg = s.cfg)
    (tags : ∀ j, (u.station j).pollTag = (s.station j).pollTag) : s.cycleGoesOn (s.finish u).pollNext := by
  have work := Part.modeWork_finish s u
  refine Part.cycleGoesOn_pollNext ?_ ?_ ?_ fun j => ?_
  · rw [work.flm, list]
  · rw [work.records, cfg]
  · rw [work.records, cfg]
  · rw [work.station, tags]

end Sys2Proof.Machine
end

