-- ==== Sys2Proof/Laws/Serving.lean ====
section
/-! SUPPORT. What running a request or an event does to the machine: a request that can be served leaves its
rule's part with the answer in the receiver, one that cannot be served is lost, an event is taken by a working
part alone; and what the two gates answer (R10, R171 to R173, R203); and the characters of a line (R167). -/

namespace Sys2Proof.Machine

theorem Part.canServe_working {s : Part} {c : Instr} (h : s.canServe c = true) : s.working = true := by
  simp only [Part.canServe, Bool.and_eq_true] at h
  exact h.1

theorem Part.canServe_held {s : Part} (c : Instr) (h : s.working = false) : s.canServe c = false := by
  simp [Part.canServe, h]

/-- A request that can be served leaves what its rule makes of the part, and its answer. -/
theorem request_served {c : Instr} {rule : Part → Part × Answer} {s : State} (h : s.canServe c = true) :
    request c rule s = .next (s.answered c (rule s.toPart).1 (rule s.toPart).2) := by
  simp [request, Part.serve, h, State.answered, State.withPart]

/-- A request that cannot be served is lost. -/
theorem request_lost {c : Instr} {rule : Part → Part × Answer} {s : State} (h : s.canServe c = false) :
    request c rule s = .next s := by
  simp [request, Part.serve, h]

/-- The frame of the result an answer leaves: that result, from the address in effect (R172). -/
theorem Part.answer_resultFrame? (s : Part) (c : Instr) (a : Answer) :
    (s.answer c a).resultFrame? =
      some (({ code := (commandCode c).getD 0, status := a.status, data := a.data, after := a.after } :
        Result).frame s.svp.inEffect.address) := rfl

/-- The driver is on exactly in ANSWERING, and never while the part is held (R171, Table 10-2). -/
theorem Part.supervisoryDriver_iff (s : Part) :
    s.supervisoryDriver = true ↔ s.working = true ∧ ∃ r, s.svp.receiver = .answering r := by
  cases h : s.svp.receiver <;> simp [Part.supervisoryDriver, h]

/-- What the part drives, where it drives anything: the frame of the result it is answering with (R171, R172). -/
theorem Part.resultDrive?_eq_some {s : Part} {d : LineDrive} :
    s.resultDrive? = some d ↔ s.working = true ∧ ∃ r, s.svp.receiver = .answering r ∧
      d = s.svp.inEffect.drive (r.frame s.svp.inEffect.address) := by
  cases h : s.svp.receiver <;> simp [Part.resultDrive?, Part.supervisoryDriver, Part.resultFrame?, h, @eq_comm _ d]

/-- Whatever a request does, it answers a next state with the same queue. -/
theorem request_next (c : Instr) (rule : Part → Part × Answer) (s : State) :
    request c rule s = .next (s.withPart (s.toPart.serve c rule)) := rfl

/-- A working part takes an event. -/
theorem event_taken {handle : Part → Part} {s : State} (h : s.working = true) :
    event handle s = .next (s.withPart (handle s.toPart)) := by
  simp [event, h, State.withPart]

/-- A held part takes no event. -/
theorem event_held {handle : Part → Part} {s : State} (h : s.working = false) :
    event handle s = .next s := by
  simp [event, h]

/-- An event whose handling leaves the part as it is changes nothing. -/
theorem event_same {handle : Part → Part} {s : State} (h : handle s.toPart = s.toPart) :
    event handle s = .next s := by
  simp [event, h]

theorem saveGate_busy {rule : Part → Part × Answer} {s : Part} (h : s.saving = true) :
    saveGate rule s = (s, { status := .busy }) := by simp [saveGate, h]

theorem saveGate_open {rule : Part → Part × Answer} {s : Part} (h : s.saving = false) :
    saveGate rule s = rule s := by simp [saveGate, h]

theorem writeGate_open {rule : Part → Part × Answer} {s : Part} (h : s.writable) :
    writeGate rule s = rule s := by simp [writeGate, saveGate, h.1, h.2]

theorem writeGate_wrongMode {rule : Part → Part × Answer} {s : Part} (h : s.saving = false)
    (m : s.mode ≠ .setup) : writeGate rule s = (s, { status := .wrongMode }) := by
  simp [writeGate, saveGate, h, m]

/-! ## Characters (R167) -/

/-- A character takes 10 bit times without parity and 11 with it. -/
theorem characterBits_length (p : Parity) (b : Byte) :
    (characterBits p b).length = if p = .even then 11 else 10 := by
  cases p <;> simp [characterBits]

/-- A byte sent in the format the part reads shows no byte error. -/
@[simp] theorem byteError_sentAs (p : Parity) (b : Byte) : byteError p (sentAs p b) = false := by
  cases p <;> simp [byteError, sentAs]

@[simp] theorem sentAs_value (p : Parity) (b : Byte) : (sentAs p b).value = b := by
  cases p <;> rfl

end Sys2Proof.Machine
end

