-- ==== Sys2Proof/Laws/Store.lean ====
section
/-! SUPPORT. What the storage says of its image: the sum word (R196), the image that a SAVE leaves (R198), and
the resets from a storage whose image is known (R200, R201). The words of the contents have no body, so every
proof about an image cites these and evaluates none. -/

namespace Sys2Proof.Machine

/-- The contents' sum and their sum word come to FFFFh (R196). -/
@[simp] theorem Settings.contentSum_add_sumWord (c : Settings) : c.contentSum + c.sumWord = 0xFFFF := by
  simp [Settings.sumWord]

/-! ## The storage as written by a SAVE -/

@[simp] theorem Storage.written_contents (copy : Option Settings) :
    (Storage.written copy).contents = copy := rfl
@[simp] theorem Storage.written_sumWord (copy : Option Settings) :
    (Storage.written copy).sumWord = copy.map Settings.sumWord := rfl
@[simp] theorem Storage.written_mark (copy : Option Settings) : (Storage.written copy).mark = false := rfl

/-- The storage that a SAVE has written has a right sum (R196, R198). -/
theorem Storage.sumRight_of_written {t : Storage} {c : Settings}
    (contents : t.contents = some c) (sumWord : t.sumWord = some c.sumWord) : t.sumRight = true := by
  simp [Storage.sumRight, contents, sumWord]

/-- Such a storage shows its image exactly where the completion mark stands (R196). -/
theorem Storage.image?_of_written {t : Storage} {c : Settings}
    (contents : t.contents = some c) (sumWord : t.sumWord = some c.sumWord) :
    t.image? = if t.mark then some c else none := by
  simp [Storage.image?, Storage.sumRight_of_written contents sumWord, contents]

/-- Without the mark a storage shows no image (R196). -/
theorem Storage.image?_of_no_mark {t : Storage} (mark : t.mark = false) : t.image? = none := by
  simp [Storage.image?, mark]

/-- A storage without contents shows no image, whatever else it holds. -/
theorem Storage.image?_of_no_contents {t : Storage} (contents : t.contents = none) : t.image? = none := by
  simp [Storage.image?, contents]

/-- An image that a storage shows is its contents, under the mark and a right sum (R196). -/
theorem Storage.image?_eq_some {t : Storage} {c : Settings} :
    t.image? = some c ↔ t.mark = true ∧ t.sumRight = true ∧ t.contents = some c := by
  simp [Storage.image?, and_assoc]

/-! ## The resets from a known image -/

/-- A reset by the supply or the reset line loads the image that the storage shows (R200). -/
theorem Part.powerReset_eq {s : Part} {image : Option Settings} (h : s.cfs.storage.image? = image) :
    s.powerReset = s.powerResetFrom image := by
  subst h; rfl

/-- A RESET command loads the image that the storage shows (R187, R201). -/
theorem Part.commandReset_eq {s : Part} {image : Option Settings} (h : s.cfs.storage.image? = image) :
    s.commandReset = s.commandResetFrom image := by
  subst h; rfl

/-- POWER ON, where the supply alone holds the part, resets it from the image that the storage shows (R203). -/
theorem execPowerOn_last {s : State} {image : Option Settings} (low : s.power = { supplyLow := true })
    (h : s.cfs.storage.image? = image) :
    execPowerOn s = .next (s.withPart (Part.powerResetFrom { s.toPart with power := {} } image)) := by
  have e := Part.powerReset_eq (s := { s.toPart with power := {} }) h
  simp [execPowerOn, Part.leaveHold, Part.working, low, State.withPart, ← e]

/-- RESET LINE RELEASE, where the line alone holds the part, resets it likewise (R204). -/
theorem execResetLineRelease_last {s : State} {image : Option Settings} (low : s.power = { resetLow := true })
    (h : s.cfs.storage.image? = image) :
    execResetLineRelease s = .next (s.withPart (Part.powerResetFrom { s.toPart with power := {} } image)) := by
  have e := Part.powerReset_eq (s := { s.toPart with power := {} }) h
  simp [execResetLineRelease, Part.leaveHold, Part.working, low, State.withPart, ← e]

end Sys2Proof.Machine
end

