-- ==== Sys2Proof/Tests/Slice0.lean ====
section
/-! SUPPORT. Tests: the checks of WellFormed, words and bodies written out from the tables, the manual's
worked cases, one or two steps for each command, and for each statement with hypotheses a state that meets
them. -/

namespace Sys2Proof.Tests

open Sys2Proof.Machine

set_option Elab.async false

/-! ## Press Hall B, the manual's example plant, and small helpers -/

/-- A load record of the plant. -/
def rec (zone : ZoneId) (group : Option GroupId) (needs : List Need) (run inrush accel : Nat) : LoadConfig :=
  { inUse := true, tag := [0x41], zone := zone, group := group, needs := needs, runKw := run
    inrushKw := inrush, accelS := accel }

/-- The thirteen loads of the plant (About this manual, Example plant). -/
def hallLoads : List LoadConfig :=
  let cmp : LoadConfig :=
    { rec 0 (some 0) [.load 12] 90 540 20 with
      activityMode := .level, activityThreshold := 3, idleMin := 20, minRunS := 600, minOffS := 300
      startsPerHour := 4 }
  let hpu (z : ZoneId) : LoadConfig :=
    { rec z none [.group 0] 55 330 12 with activityThreshold := 3, idleMin := 15 }
  let cnv (z : ZoneId) (j : LoadId) : LoadConfig := { rec z none [.load j] 8 40 4 with activityThreshold := 2 }
  let fan : LoadConfig := { rec 3 none [] 15 90 6 with activityMode := .level }
  [cmp, cmp, cmp, rec 0 none [.group 0] 11 66 5, hpu 1, hpu 2, cnv 1 4, cnv 2 5,
    { fan with activityMode := .pulse, nightExempt := true }, fan, fan, fan, rec 0 none [] 22 132 8]

/-- The WEEKDAY plan. -/
def weekday : Plan :=
  { valid := true, planNo := 1, tag := [0x57], workDays := 0x1F, windDownTime := 1350, warningMin := 20
    wakeTime := 330, wakeGraceMin := 30, baseLeadS := 900, ceilingKw := 1200, intervalCeilingKw := 700
    nightPanels := true, nightCalls := true }

/-- The plant's records. -/
def hall : Settings :=
  { loads := tabulate fun n => hallLoads.getD n.val {}
    groups := (Vector.replicate 8 {}).set 0 { inUse := true, tag := [0x41], required := 2 }
    active := weekday
    panels := (Vector.replicate 8 {}).set 0 { inUse := true, zone := 1, keepMin := 120, keySamples := 8 }
    calls := (Vector.replicate 4 {}).set 0 { inUse := true, group := 0, callMin := 30, callSamples := 200 }
    meter := { inUse := true, whPerPulse := 100, intervalMin := 15, meterSamples := 2 } }

/-- The plant in a mode, at uptime 6000, its in-use loads in the phases given and active ten seconds ago,
everything else as after a reset. -/
def plant (m : ModeState) (phase : LoadId → LoadPhase) : State :=
  { State.reset with
    cfg := hall
    loads := tabulate fun n => if hall.loads[n].inUse then { phase := phase n, lastActivity := 5990 } else {}
    dgv := { ceilingI := { value := 1200 }, ceilingD := { value := 700 } }
    ncc := { mode := m, uptime := 6000 }
    atl := {} }

/-- The plant with one load in a phase of its own. -/
def only (n : LoadId) (p rest : LoadPhase) : LoadId → LoadPhase := fun k => if k = n then p else rest

def day : ModeState := .day none none
def night : ModeState := .night none none 0

def inSetup : State := plant .setup fun _ => .localRun
def inDay : State := plant day fun _ => .localRun
def inNight : State := plant night fun _ => .off

/-- Something of the state a command leaves, where it answers a next state. -/
def after {α : Type} (c : Instr) (s : State) (f : State → α) : Option α :=
  match exec c s with
  | .next t => some (f t)
  | _ => none

/-- The result a request leaves to be sent. -/
def reply (c : Instr) (s : State) : Option (Status × List Byte) :=
  (after c s fun t => match t.svp.receiver with
    | .served r => some (r.status, r.data)
    | _ => none).join

/-- What a check found: the record, or the number of the row it refused. -/
def refusedAt {α : Type} : Checked α → Option Nat
  | .ok _ => none
  | .error row => some row

/-- A state whose receiver stands as given. -/
def port (r : Receiver) (s : State := inDay) : State := { s with svp := { receiver := r } }

/-- The held condition, by the supply. -/
def held : State := { inDay with power := { supplyLow := true } }

/-- SETUP with a SAVE in each of its phases. -/
def saving (p : SavePhase) : State :=
  { inSetup with cfs :=
    { storage := if p = .checking then { contents := some hall, sumWord := some hall.sumWord } else {}
      phase := p, copy := some hall } }

/-- A state whose storage holds the plant's image. -/
def stored (s : State) : State :=
  { s with cfs := { storage := { contents := some hall, sumWord := some hall.sumWord, mark := true }, image := .good } }

theorem test_stored_image (s : State) : (stored s).cfs.storage.image? = some hall :=
  Storage.image?_of_written rfl rfl

theorem test_saved_sum_is_right : (saving .checking).cfs.storage.sumRight = true :=
  Storage.sumRight_of_written rfl rfl

/-- A hold of the supervisor's placed at uptime minute 100, with an expiry. -/
def byHand (id : Nat) (kind : HoldKind) (target : Target) (expiry : Option Nat) : Hold :=
  { id := id, kind := kind, target := target, owner := .supervisor, expiry := expiry, placedAt := 100
    renewals := 0, reason := 12 }

/-- A hold of panel 0 on its zone, until uptime minute 220. -/
def byPanel (id : Nat) : Hold :=
  { id := id, kind := .keepOn, target := .zone 1, owner := .panel 0, expiry := some 220, placedAt := 100
    renewals := 0, reason := 0 }

/-- A state with these holds live and this next id. -/
def holding (s : State) (holds : List Hold) (next : Nat) : State := { s with holds := holds, nextId := next }

/-- Forty-eight holds live, on loads no configuration uses. -/
def tableFull : List Hold :=
  (List.range 48).map fun i => byHand (i + 1) .keepOff (.load (Fin.ofNat 64 (i + 16))) none

/-- NIGHT with every load OFF but the one that runs, with its feedback on. -/
def nightWith (n : LoadId) (p : LoadPhase) (feedback : Bool) : State :=
  let s := plant night (only n p .off)
  { s with loads := s.loads.set n { phase := p, feedback := feedback } }

/-- NIGHT with load 12 queued by command, a scan being due. -/
def queued12 : State :=
  let s := plant night (only 12 .queued .off)
  { s with dgv :=
    { s.dgv with queue := [{ load := 12, origin := .command, key := 4, seq := 0 }], nextSeq := 1, scanDue := true } }

/-- NIGHT with load 12 in STARTING since uptime 5950. -/
def starting12 (feedback : Bool) : State :=
  let s := plant night (only 12 .starting .off)
  { s with
    loads := s.loads.set 12 { phase := .starting, feedback := feedback, startedAt := some 5950 }
    dgv := { s.dgv with startingOrigin := s.dgv.startingOrigin.set 12 (some .command) } }

/-- DAY with a transaction in flight to station 3 and these stations to come, station 3 as given. -/
def polling (r : Station) (rest : List StationId) (p12 : LoadPhase := .localRun) : State :=
  let s := plant day (only 12 p12 .localRun)
  { s with flm :=
    { stations := (Vector.replicate 16 {}).set 3 r, toPoll := rest
      inFlight := some { station := 3, tag := 7, permitValid := true, permits := 1, timeoutMs := 20 } } }

/-- The transaction those states have in flight. -/
def poll3 : Transaction := { station := 3, tag := 7, permitValid := true, permits := 1, timeoutMs := 20 }

/-- A good reply of station 3 to it, channel 0 running. -/
def reply3 : List Byte := replyFrame 3 7 1 1 5 0 0 0 0

def offline : Station := { grade := .offline, err := 255, probeCount := 7 }

/-- A state with one debounce record of panel 0, call 0 or the meter line as given. -/
def lineAt (line : Line) (d : Debounce) (s : State) : State := { s with lin := s.lin.setDebounce line d }

/-- A state whose clock stands at a minute of the week, second 0. -/
def atMinute (minute : Nat) (s : State) : State :=
  { s with ncc := { s.ncc with clock := { valid := true, minute := minute } } }

/-- A state in which one load's needs are as given. -/
def needing (n : LoadId) (needs : List Need) (s : State) : State :=
  { s with cfg := { s.cfg with loads := s.cfg.loads.set n { s.config n with needs := needs } } }

def lowLine : Debounce := { level := .inactive, run := 400 }
def highLine : Debounce := { level := .active, run := 400 }

/-! ## WellFormed: a term each check refuses -/

theorem test_counts_must_fit :
    (Instr.writeZone 0 (List.replicate 256 0x41)).countsFit = false ∧
      (Instr.writeZone 0 (List.replicate 255 0x41)).countsFit = true := by decide +kernel

theorem test_body_must_fit :
    (Instr.writeZone 0 (List.replicate 248 0x41)).bodyFits = false ∧
      (Instr.writeZone 0 (List.replicate 247 0x41)).bodyFits = true := by decide +kernel

theorem test_reply_must_fit :
    (Instr.pollReplyGood (List.replicate 11 0)).replyFits = false ∧
      (Instr.pollReplyBad (List.replicate 13 (sentAs .none 0))).replyFits = false := by
  decide +kernel

theorem test_wellFormed_joins_the_checks :
    (Instr.writeZone 0 (List.replicate 256 0x41)).wellFormed = false ∧
      (Instr.pollReplyGood []).wellFormed = false ∧ Instr.identify.wellFormed = true := by decide +kernel

/-! ## Words and bodies written out from the tables -/

/-- Table 10-4's check value. -/
theorem test_crc_check_value :
    crc [0x31, 0x32, 0x33, 0x34, 0x35, 0x36, 0x37, 0x38, 0x39] = 0x29B1 := by decide +kernel

/-- Bodies of Table 10-7, one of each family. -/
theorem test_bodies_of_fixed_length :
    decodeRequest [0x03, 0x03, 0x08, 0x1E] = some (.setClock 776 30) ∧
    decodeRequest [0x20, 0x01, 0x00, 0x02, 0x00, 0x00, 0x0C] = some (.placeHold 1 0 2 0 12) ∧
    decodeRequest [0x22, 0x01, 0x07, 0x01] = some (.releaseHold 263 1) ∧
    decodeRequest [0x13, 0x02, 0x58, 0x00, 0x00] = some (.setCeiling 600 0) ∧
    decodeRequest [0x47, 0x1F, 0x04, 0x01] = some (.writePort 31 4 1) ∧
    decodeRequest [0x52] = some .linkHalt ∧ decodeRequest [0x70] = some .save ∧
    decodeRequest [0x61, 0x81] = some (.ackAttention 0x81) := by decide +kernel

theorem test_bodies_of_other_length :
    decodeRequest [0x42, 0x03, 0x04, 0x52, 0x4F, 0x4F, 0x46] = some (.writeZone 3 [0x52, 0x4F, 0x4F, 0x46]) ∧
    decodeRequest [0x41, 0x00, 0x01, 0x03, 0x41, 0x49, 0x52, 0x02] =
      some (.writeGroup 0 { inUse := 1, tag := [0x41, 0x49, 0x52], required := 2 }) ∧
    decodeRequest [0x42, 0x03, 0x04, 0x52] = none ∧ decodeRequest [0x05] = none ∧
    decodeRequest [0x7F] = none ∧ decodeRequest [] = none := by decide +kernel

theorem test_load_body :
    decodeRequest ([0x40, 0x0C, 0x01, 0x01, 0x41, 0x00, 0xFF, 0x01, 0x01, 0x02, 0x00, 0x04, 0x00, 0x16, 0x00,
        0x84, 0x08, 0x00, 0x1E, 0x00, 0x3C, 0x02, 0x58, 0x01, 0x2C, 0x06, 0x1E, 0x01, 0x03, 0x02]) =
      some (.writeLoadConfig 12
        { inUse := 1, tag := [0x41], zone := 0, group := 0xFF, needs := [(1, 2)], nightExempt := 0
          wakePriority := 4, runKw := 22, inrushKw := 132, accelS := 8, startTimeoutS := 30
          stopTimeoutS := 60, minRunS := 600, minOffS := 300, startsPerHour := 6, idleMin := 30
          activityMode := 1, activityThreshold := 3, feedbackFilter := 2 }) := by decide +kernel

/-- The rows of the table give no bits, so no word spells a command. -/
theorem test_no_word_spells_a_command : decodeTableWord 16 0x0105 = none := rfl

theorem test_withFetchWord_leaves_the_queue : inDay.withFetchWord 16 0x0105 = inDay := by decide +kernel

/-! ## The manual's worked cases -/

/-- The example plant passes the validation (chapter 1). -/
theorem test_hall_is_valid : inSetup.validate = none := by decide +kernel

/-- A load in the need of itself through the group fails with CYCLE (R15). -/
theorem test_validation_finds_the_cycle :
    ({ inSetup with cfg := { hall with loads := hall.loads.set 12 (rec 0 none [.group 0] 22 132 8) } } : State).validate
      = some { kind := .load, index := 0, reason := .cycle } := by decide +kernel

/-- R91: CMP-1 contributes 383 kW at t = 7 and 113 kW at t = 19. -/
theorem test_inrush_worked_case :
    windowDemand (hall.loads[0]) 7 = 383 ∧ windowDemand (hall.loads[0]) 19 = 113 ∧
      windowDemand (hall.loads[0]) 0 = 540 := by decide +kernel

/-- R96: 2480 pulses of 100 Wh in 900 s close at 992 kW. -/
theorem test_interval_worked_case : intervalKw 248000 900 = 992 := by decide +kernel

/-- R121, section 5.5: the lead at 03:00 is 967 s, with C_i 600 it is 1046 s. -/
theorem test_lead_worked_case :
    (nightWith 8 .watch true).leadSeconds = 967 ∧
      ({ nightWith 8 .watch true with dgv := { ceilingI := { value := 600 }, ceilingD := { value := 700 } } } :
        State).leadSeconds = 1046 := by decide +kernel

/-- R122: a lead of 967 s before uptime 106,200 begins the wake at 105,180. -/
theorem test_wake_begin_worked_case :
    wakeBeginFor (some { minute := 1770, at_ := 106200 }) 967 = some 105180 := by decide +kernel

/-- R57, Table 3-3: the closure of ZONE 1 holds the loads 4 and 6. -/
theorem test_keep_off_in_a_closure_conflicts :
    (holding inNight [byPanel 7] 8).conflicts .keepOff (.load 4) = true ∧
      (holding inNight [byPanel 7] 8).conflicts .keepOff (.load 12) = false ∧
      (holding inNight [byPanel 7] 8).conflicts .keepOff (.load 2) = false := by decide +kernel

/-! ## Commands, one at a time -/

theorem test_identify :
    (reply .identify inDay).map (fun r => (r.1, r.2.take 9, r.2.drop 11)) =
      some (.ok, [8, 0x47, 0x4C, 0x46, 0x2D, 0x36, 0x34, 0x30, 0x38],
        [64, 8, 8, 48, 16, 8, 4, 1, 1, 0, 0, 0, 0x17, 0x70]) := by decide +kernel

/-- Table 10-8: a load never read, OFF. -/
theorem test_read_load :
    reply (.readLoad 12) inNight = some (.ok,
      [12, 4, 0, 0, 0, 0, 0x17, 0x66, 0, 0, 0, 0, 0, 0, 0, 0, 0, 0, 0, 0, 0xFF, 0xFF, 1, 0xFF, 0xFF, 0xFF]) ∧
    after (.readLoad 12) inNight (fun t => (t.load 12).changed) = some false := by decide +kernel

theorem test_read_attention_after_power_on :
    reply .readAttention State.reset = some (.ok, [0x80, 0x80, 0xFF, 7, 2, 1, 0, 0]) := by decide +kernel

theorem test_set_clock :
    reply (.setClock 776 30) inDay = some (.ok, [1]) ∧
    reply (.setClock 10080 0) inDay = some (.range, [1]) ∧
    reply (.setClock 0 60) inDay = some (.range, [2]) := by decide +kernel

/-- SET MODE NIGHT in DAY: the worked night of chapter 5 begins by command; WATCH is asked of every load. -/
theorem test_set_mode_night :
    after (.setMode 3) inDay (fun t => (t.mode, (t.load 12).phase, (t.load 8).phase)) =
      some (.night, .watch, .watch) := by decide +kernel

theorem test_set_mode_from_setup :
    reply (.setMode 1) inSetup = some (.ok, [1, 1, 0]) ∧ reply (.setMode 2) inSetup = some (.wrongMode, []) := by
  decide +kernel

/-- R128: SET CLOCK into the warning enters WIND_DOWN to its night_start, and out of it DAY again. -/
theorem test_set_clock_moves_the_mode :
    after (.setClock 1340 0) inDay (fun t => t.ncc.mode) = some (.windDown 6600 true) ∧
    after (.setClock 600 0) (plant (.windDown 7000 true) fun _ => .watch) (fun t => t.mode) = some .day ∧
    after (.setClock 340 0) inNight (fun t => t.ncc.mode) = some (.wake (some 7200)) := by decide +kernel

/-- Chapter 8's worked example: hold 7, then its renewal. -/
theorem test_place_hold_worked_example :
    reply (.placeHold 1 0 2 0 12) (holding inNight [] 7) =
      some (.ok, [0, 7, 0, 0, 0, 0, 0, 0, 0, 0, 0, 0]) ∧
    reply (.placeHold 1 0 2 0 12) (holding inNight [byHand 7 .keepOff (.load 2) none] 8) =
      some (.renewed, [0, 7, 0, 0, 0, 0, 0, 0, 0, 0, 1, 0]) := by decide +kernel

theorem test_keep_off_off_count :
    after (.placeHold 1 0 2 0 12) (holding inNight [] 7) (fun t => (t.offCount 2, t.offCount 0, t.nextId)) =
      some (1, 0, 8) := by decide +kernel

/-- Air group 0 at night, its compressors up and dryer 3 needing it, compressor 2 idle for long; a hold keeps the
group's floor. -/
def heldAir : State :=
  let up : LoadRecord := { phase := .watch, feedback := true, lastActivity := 5990 }
  let s := plant night fun k => if k.val ≤ 3 then .watch else .off
  { holding s [byHand 7 .keepOn (.group 0) (some 200)] 8 with
    loads := (((s.loads.set 0 up).set 1 up).set 2 { up with lastActivity := 1000 }).set 3 up }

/-- R62, R71: the loss of a group's last hold is an input of its members' checks although the dryer's need keeps
the group's floor demand, and so is its first hold. -/
theorem test_group_hold_is_a_check_input :
    heldAir.floorDemand 0 = true ∧
    after (.releaseHold 7 0) heldAir (fun t => (t.floorDemand 0, (t.load 2).phase, (t.load 1).phase)) =
      some (true, .stopping 6000, .watch) ∧
    after (.placeHold 0 2 0 60 0) (holding heldAir [] 8) (fun t => (t.load 2).phase) = some (.stopping 6000) := by
  decide +kernel

theorem test_release_hold_of_a_panel :
    reply (.releaseHold 7 0) (holding inNight [byPanel 7] 8) = some (.notOwner, []) ∧
    reply (.releaseHold 7 1) (holding inNight [byPanel 7] 8) = some (.ok, [0, 7, 1]) := by decide +kernel

/-- Table 10-9: the record of a panel's hold at uptime minute 100. -/
theorem test_read_hold :
    reply (.readHold 7) (holding inNight [byPanel 7] 8) = some (.ok,
      [0, 7, 0, 1, 1, 1, 0, 1, 0, 0, 0, 220, 0, 0, 0, 100, 0, 0, 0, 1, 0, 120]) := by decide +kernel

/-- START LOAD of HPU-8 pulls the compressors its group lacks and the tower fan they need (R82). -/
theorem test_start_pulls_up :
    after (.startLoad 5) inNight (fun t => t.dgv.queue.map fun e => e.load.val) = some [12, 0, 1, 5] ∧
    reply (.startLoad 12) inNight = some (.ok, [12, 5, 3]) := by decide +kernel

theorem test_stop_is_refused_for_a_dependent :
    reply (.stopLoad 12) (plant day fun _ => .localRun) = some (.dependent, []) ∧
    reply (.stopLoad 8) (plant day fun _ => .localRun) = some (.ok, [8, 3]) := by decide +kernel

theorem test_clear_fault :
    reply (.clearFault 12) (plant night (only 12 (.fault .noStart) .off)) = some (.ok, [12, 4]) ∧
    reply (.clearFault 12) (plant night (only 12 (.fault .noStop) .off)) = some (.wrongState, []) := by
  decide +kernel

theorem test_scan_admits_the_fan :
    after .admissionScan queued12 (fun t => ((t.load 12).phase, t.demandNow, t.dgv.queue.length)) =
      some (.starting, 132, 0) := by decide +kernel

theorem test_ceiling_is_clamped :
    reply (.setCeiling 65535 0) inDay = some (.clamped, [0xEA, 0x60, 1, 0x02, 0xBC, 0]) := by decide +kernel

/-- Chapter 6's worked example: the twelfth failure makes the station SUSPECT, and from 247 one more takes it
OFFLINE with its load UNREACHABLE. -/
theorem test_station_worked_example :
    after .replyTimeout (polling { err := 88 } []) (fun t => ((t.station 3).err, (t.station 3).grade)) =
      some (96, .suspect) ∧
    after .replyTimeout (polling { grade := .suspect, err := 247 } [])
      (fun t => ((t.station 3).grade, (t.load 12).phase, (t.station 3).probeCount)) =
      some (.offline, .unreachable, 7) := by decide +kernel

theorem test_station_returns :
    after (.pollReplyGood reply3) (polling { grade := .suspect, err := 64 } [])
      (fun t => ((t.station 3).err, (t.station 3).grade)) = some (63, .online) ∧
    after (.pollReplyGood reply3) (polling { offline with goodRun := 15 } [] .unreachable)
      (fun t => ((t.station 3).grade, (t.load 12).phase, (t.load 12).feedback)) =
      some (.online, .localRun, true) := by decide +kernel

theorem test_poll_frame :
    poll3.pollFrame = [0xC3, 3, 7, 1, 1, 0xB9, 0x9C] ∧
    reply3 = [0x3C, 3, 7, 1, 1, 5, 0, 0, 0, 0xB3, 0xBB, 0] := by
  decide +kernel

theorem test_save_is_refused_at_night :
    reply .save inNight = some (.wrongMode, []) ∧ reply .save (saving .erasing) = some (.busy, []) ∧
    after .save inSetup (fun t => (t.cfs.phase, t.cfs.image)) = some (.erasing, .bad) := by decide +kernel

theorem test_lead_byte_begins_a_frame :
    after (.characterReceived (sentAs .none 0xA5)) inDay (fun t => t.svp.receiver) =
      some (.receiving []) ∧
    after (.characterReceived { value := 0xA5, ninth := false, tenth := true }) inDay (fun t => t.svp.receiver) =
      some .hunt := by
  decide +kernel

theorem test_meter_pulse :
    after .meterPulse (lineAt .meter lowLine inDay) (fun t => t.dgv.energy) = some 100 := by decide +kernel

theorem test_keep_press_places_the_panels_hold :
    after (.keepPress 0) (lineAt (.key 0 .keep) lowLine inNight)
      (fun t => (t.holds.map fun h => (h.id, h.expiry), (t.load 6).phase)) =
      some ([(1, some 220)], .queued) := by decide +kernel

theorem test_power_on_with_an_image :
    after .powerOn (stored held) (fun t => (t.mode, t.now, t.cfg.active.planNo, t.attentionLine)) =
      some (.day, 0, 1, false) := by
  have loaded : exec .powerOn (stored held) = _ := execPowerOn_last rfl (test_stored_image held)
  rw [after, loaded]; decide +kernel

/-! ## States that meet the hypotheses of the statements, named after them -/

theorem test_witness_StepRunsFrontCommand :
    (inDay.withPending [.identify, .save]).pending = .identify :: [.save] ∧ inDay.pending = [] :=
  ⟨rfl, rfl⟩

theorem test_witness_HeldPartTakesNothing :
    held.working = false ∧ Instr.identify.actsWhileHeld = false ∧ Instr.uptimeSecond.actsWhileHeld = false := by
  decide +kernel

theorem test_witness_CleanFrames :
    inDay.working = true ∧ inDay.svp.receiver = .hunt ∧
    (1 : Byte).toNat = inDay.svp.inEffect.address ∧
    ([216, 188] = crcBytes ([1, 1, 1] : List Byte) ∧ decodeRequest [1] = some .identify) ∧
    decodeRequest (List.replicate 250 0x7F) = none ∧
    [216, 189] ≠ crcBytes ([1, 1, 1] : List Byte) ∧ (2 : Byte).toNat ≠ inDay.svp.inEffect.address := by
  decide +kernel

/-- The longest body too has its two CRC bytes. -/
theorem test_witness_CleanFrames_longest :
    ∃ c1 c0, [c1, c0] = crcBytes (1 :: 250 :: List.replicate 250 0x7F) := ⟨_, _, rfl⟩

theorem test_witness_DiscardCases :
    (port (.receiving [1])).working = true ∧ (port (.receiving [1])).svp.receiver = .receiving [1] ∧
    250 < (251 : Byte).toNat ∧ (0 : Byte).toNat = 0 ∧
    ([216, 189] ≠ crcBytes ([1, 1, 1] : List Byte) ∧ [1].length = (1 : Byte).toNat) ∧
    ([129, 236] = crcBytes ([2, 1, 1] : List Byte) ∧
      (2 : Byte).toNat ≠ (port (.receiving [2, 1, 1, 129])).svp.inEffect.address) := by decide +kernel

/-- The plant with EVEN parity in effect. -/
def even (r : Receiver) : State :=
  { inDay with svp := { inEffect := { parity := .even }, receiver := r } }

/-- R167: under EVEN a character whose parity bit leaves an odd number of ones is in error, and under NONE the stop
bit stands in the ninth bit time. -/
theorem test_character_errors :
    let odd : Received := { value := 0x07, ninth := false, tenth := true }
    let noStop : Received := { value := 0x07, ninth := true, tenth := false }
    let good : Received := { value := 0x07, ninth := true, tenth := true }
    after (.characterReceived odd) (even (.receiving [1])) (fun t => t.svp.receiver) = some .hunt ∧
    after (.characterReceived noStop) (even (.receiving [1])) (fun t => t.svp.receiver) = some .hunt ∧
    after (.characterReceived good) (even (.receiving [1])) (fun t => t.svp.receiver) = some (.receiving [1, 7]) ∧
    after (.characterReceived noStop) (port (.receiving [1])) (fun t => t.svp.receiver) =
      some (.receiving [1, 7]) := by decide +kernel

theorem test_witness_ResultsAndLostRequests :
    let r : Result := { code := 1, status := .ok }
    let q : Result := { r with after := .takePort }
    (port (.served r)).working = true ∧ (port (.served r)).svp.receiver = .served r ∧
    (port (.answering r)).svp.receiver = .answering r ∧ r.after = .nothing ∧
    (port (.answering q)).svp.receiver = .answering q ∧ q.after = .takePort ∧
    Instr.identify.isRequest = true := by decide +kernel

/-- The result frame goes out from the address in effect: A5h, the address, the length, the body, its CRC. -/
theorem test_result_frame :
    (port (.served { code := 0x52, status := .ok, data := [1] })).resultFrame?.map (fun f => f.take 6) =
      some [0xA5, 1, 3, 0x52, 0, 1] ∧ inDay.resultFrame? = none := by decide +kernel

/-- R171: the line is driven from the first byte of a result to its last, not while the request is served; R203: nor
while the part is held. -/
theorem test_driver_on_in_answering_alone :
    let r : Result := { code := 0x52, status := .ok, data := [1] }
    (port (.served r)).supervisoryDriver = false ∧ (port (.served r)).resultDrive? = none ∧
    after .resultBegin (port (.served r)) (fun t => (t.supervisoryDriver, t.resultDrive?.isSome)) =
      some (true, true) ∧
    after .resultEnd (port (.answering r)) (fun t => (t.supervisoryDriver, t.resultDrive?)) = some (false, none) ∧
    (port (.answering r) held).resultFrame?.isSome = true ∧ (port (.answering r) held).resultDrive? = none := by
  decide +kernel

/-- R167: A5h goes out as a start bit, its bits from the least significant, under EVEN its parity bit, and a stop
bit, at the speed in effect. -/
theorem test_result_characters :
    let r : Receiver := .answering { code := 0x52, status := .ok, data := [1] }
    (port r).resultDrive?.map (fun d => (d.baud, d.characters.take 1)) =
      some (19200, [[false, true, false, true, false, false, true, false, true, true]]) ∧
    (even r).resultDrive?.map (fun d => d.characters.take 2) =
      some [[false, true, false, true, false, false, true, false, true, false, true],
        [false, true, false, false, false, false, false, false, false, true, true]] := by decide +kernel

theorem test_witness_ConfigurationGates :
    ((saving .erasing).canServe (.writeZone 0 []) = true ∧ (Instr.writeZone 0 []).isConfigWrite = true ∧
      (saving .erasing).canServe .save = true ∧ (saving .erasing).saving = true) ∧
    (inDay.canServe (.writeZone 0 []) = true ∧ inDay.saving = false ∧ inDay.mode ≠ .setup) := by decide +kernel

/-- The least and the greatest load record Table 1-1 admits. -/
def leastLoad : RawLoad :=
  { inUse := 1, tag := [0x20], zone := 0, group := 0, needs := [], nightExempt := 0, wakePriority := 0
    runKw := 0, inrushKw := 0, accelS := 1, startTimeoutS := 5, stopTimeoutS := 5, minRunS := 0, minOffS := 0
    startsPerHour := 1, idleMin := 1, activityMode := 0, activityThreshold := 1, feedbackFilter := 1 }

def greatestLoad : RawLoad :=
  { inUse := 1, tag := List.replicate 8 0x7E, zone := 7, group := 7, needs := [(0, 63), (1, 7), (0, 0)]
    nightExempt := 1, wakePriority := 7, runKw := 2000, inrushKw := 8000, accelS := 120, startTimeoutS := 600
    stopTimeoutS := 900, minRunS := 3600, minOffS := 3600, startsPerHour := 8, idleMin := 240
    activityMode := 1, activityThreshold := 255, feedbackFilter := 8 }

theorem test_witness_LoadRecordRanges :
    leastLoad.inUse = 1 ∧ refusedAt (checkLoad leastLoad) = none ∧
    greatestLoad.inUse = 1 ∧ refusedAt (checkLoad greatestLoad) = none ∧
    ({ leastLoad with inUse := 0 } : RawLoad).inUse = 0 ∧ 1 < ({ leastLoad with inUse := 2 } : RawLoad).inUse.toNat := by
  decide +kernel

/-- Table 1-1: one past an end of a range is refused with its row. -/
theorem test_load_rows_past_their_ranges :
    refusedAt (checkLoad { greatestLoad with runKw := 2001 }) = some 8 ∧
    refusedAt (checkLoad { greatestLoad with inrushKw := 1999 }) = some 9 ∧
    refusedAt (checkLoad { greatestLoad with needs := [(0, 1), (0, 1)] }) = some 5 ∧
    refusedAt (checkLoad { leastLoad with activityThreshold := 0 }) = some 18 ∧
    refusedAt (checkLoad { leastLoad with feedbackFilter := 9 }) = some 19 := by decide +kernel

/-- The WEEKDAY plan as a request carries it, with a span of the given length. -/
def rawPlan (windDown : Half) : RawPlan :=
  { valid := 1, planNo := 1, tag := [0x57], workDays := 0x1F, windDownTime := windDown, warningMin := 20
    wakeTime := 330, wakeGraceMin := 30, baseLeadS := 900, ceilingKw := 1200, intervalCeilingKw := 700
    nightPanels := 1, nightCalls := 1 }

/-- A span of exactly warning_min + 30 minutes passes, and one a minute shorter is refused with field 14. -/
theorem test_witness_PlanRecordSpan :
    (rawPlan 380).valid = 1 ∧ refusedAt (checkPlan (rawPlan 380)) = none ∧
    (rawPlan 379).valid = 1 ∧ refusedAt (checkPlan (rawPlan 379)) = some 14 ∧
    { rawPlan 380 with valid := 0 }.valid = 0 ∧ 1 < { rawPlan 380 with valid := 2 }.valid.toNat ∧
    (checkPlan (rawPlan 1350)).toOption.map (fun p => (p.windDownTime, p.workDays, p.nightPanels)) =
      some (1350, 0x1F, true) := by decide +kernel

/-- CLR-1's record as a request carries it. -/
def rawClr : RawLoad :=
  { inUse := 1, tag := [0x41], zone := 0, group := 0xFF, needs := [], nightExempt := 0, wakePriority := 4
    runKw := 22, inrushKw := 132, accelS := 8, startTimeoutS := 30, stopTimeoutS := 60, minRunS := 0
    minOffS := 0, startsPerHour := 6, idleMin := 30, activityMode := 0, activityThreshold := 1, feedbackFilter := 2 }

theorem test_setup_is_writable : inSetup.writable := ⟨by decide +kernel, by decide +kernel⟩

/-- Each configuration write refuses a number or a row of its own. -/
theorem test_configuration_ranges :
    inSetup.canServe (.writeLoadConfig 64 rawClr) = true ∧
    reply (.writeLoadConfig 64 rawClr) inSetup = some (.range, [0]) ∧
    reply (.writeGroup 7 { inUse := 2, tag := [], required := 0 }) inSetup = some (.range, [1]) ∧
    reply (.writeGroup 7 { inUse := 1, tag := [0x41], required := 65 }) inSetup = some (.range, [3]) ∧
    reply (.writeZone 8 []) inSetup = some (.range, [0]) ∧
    reply (.writeZone 7 [0x1F]) inSetup = some (.range, [1]) ∧
    reply (.writePanel 7 { inUse := 1, zone := 7, keepMin := 14, keySamples := 33 }) inSetup = some (.range, [3]) ∧
    reply (.writeCall 4 { inUse := 0, group := 0, callMin := 0, activeLow := 0, callSamples := 0 }) inSetup =
      some (.range, [0]) ∧
    reply (.writeMeter { inUse := 1, whPerPulse := 1, intervalMin := 20, meterSamples := 2 }) inSetup =
      some (.range, [3]) ∧
    reply (.writeLink { pollPeriodMs := 100, replyTimeoutMs := 50
                        stations := (Vector.replicate 16 (0, 0)).set 15 (0, 2) }) inSetup = some (.range, [34]) ∧
    reply (.writePort 32 5 2) inSetup = some (.range, [1]) ∧
    reply (.writePort 31 5 2) inSetup = some (.range, [2]) := by decide +kernel

theorem test_witness_WriteLoadConfig :
    let level : RawLoad := { rawClr with activityMode := 1 }
    let gone : RawLoad := { rawClr with inUse := 0 }
    inSetup.canServe (.writeLoadConfig 12 rawClr) = true ∧ checkLoad rawClr = .ok (inSetup.config 12) ∧
    (inSetup.canServe (.writeLoadConfig 12 level) = true ∧
      checkLoad level = .ok { hall.loads[12] with activityMode := .level } ∧
      (inSetup.config 12).activityMode = .pulse ∧ inSetup.inUse 12 = true) ∧
    (inSetup.canServe (.writeLoadConfig 12 gone) = true ∧ checkLoad gone = .ok {} ∧
      inSetup.polled 3 = true ∧
      after (.writeLoadConfig 12 gone) inSetup (fun t => t.polled 3) = some false) ∧
    (inSetup.canServe (.writeLoadConfig 63 rawClr) = true ∧ inSetup.inUse 63 = false ∧
      inSetup.polled 15 = false ∧ after (.writeLoadConfig 63 rawClr) inSetup (fun t => t.polled 15) = some true) := by
  decide +kernel

/-- The link record of the defaults, with station 3 set to MANUAL. -/
def rawLink : RawLink :=
  { pollPeriodMs := 100, replyTimeoutMs := 50, stations := (Vector.replicate 16 (0, 0)).set 3 (1, 1) }

theorem test_witness_WriteGroupZonePortLink :
    inSetup.canServe (.writeGroup 7 { inUse := 1, tag := [0x41], required := 64 }) = true ∧
    checkGroup { inUse := 1, tag := [0x41], required := 64 } = .ok { inUse := true, tag := [0x41], required := 64 } ∧
    inSetup.canServe (.writeZone 7 []) = true ∧ (7 : Byte).toNat = (7 : ZoneId).val ∧
    inSetup.canServe (.writePort 31 4 1) = true ∧
    checkPort 31 4 1 = .ok { address := 31, speed := .b115200, parity := .even } ∧
    checkPort 1 1 0 = .ok inSetup.cfg.port ∧ inSetup.canServe (.writePort 1 1 0) = true ∧
    inSetup.canServe (.writeLink rawLink) = true ∧ refusedAt (checkLink rawLink) = none := by decide +kernel

theorem test_write_link_moves_one_station :
    after (.writeLink rawLink) { inSetup with flm := { stations := Vector.replicate 16 { offline with goodRun := 5 } } }
      (fun t => ((t.station 3).goodRun, (t.station 2).goodRun)) = some (0, 5) := by decide +kernel

theorem test_witness_WritePanelCallMeter :
    let p : RawPanel := { inUse := 1, zone := 7, keepMin := 900, keySamples := 32 }
    let c : RawCall := { inUse := 1, group := 0, callMin := 30, activeLow := 1, callSamples := 400 }
    let m : RawMeter := { inUse := 1, whPerPulse := 1000, intervalMin := 30, meterSamples := 8 }
    (inSetup.canServe (.writePanel 0 p) = true ∧
      checkPanel p = .ok { inUse := true, zone := 7, keepMin := 900, keySamples := 32 }) ∧
    (inSetup.canServe (.writePanel 7 p) = true ∧ inSetup.cfg.panels[7].inUse = false) ∧
    (inSetup.canServe (.writeCall 0 c) = true ∧
      checkCall c = .ok { inUse := true, group := 0, callMin := 30, activeLow := true, callSamples := 400 }) ∧
    (inSetup.canServe (.writeMeter m) = true ∧
      checkMeter m = .ok { inUse := true, whPerPulse := 1000, intervalMin := 30, meterSamples := 8 }) := by
  decide +kernel

/-- Each record's check meets a record in use, one not in use, and an in_use byte of neither, and holds its rows. -/
theorem test_witness_record_checks :
    let g : RawGroup := { inUse := 1, tag := [0x41], required := 64 }
    let p : RawPanel := { inUse := 1, zone := 7, keepMin := 15, keySamples := 2 }
    let c : RawCall := { inUse := 1, group := 7, callMin := 240, activeLow := 0, callSamples := 20 }
    let m : RawMeter := { inUse := 1, whPerPulse := 1, intervalMin := 15, meterSamples := 2 }
    (checkGroup g).toOption = some { inUse := true, tag := [0x41], required := 64 } ∧
    checkGroup { g with inUse := 0, required := 0 } = .ok {} ∧ checkGroup { g with inUse := 2 } = .error 1 ∧
    (checkPanel p).toOption = some { inUse := true, zone := 7, keepMin := 15, keySamples := 2 } ∧
    checkPanel { p with inUse := 0, zone := 8 } = .ok {} ∧ checkPanel { p with inUse := 2 } = .error 1 ∧
    (checkCall c).toOption = some { inUse := true, group := 7, callMin := 240, callSamples := 20 } ∧
    checkCall { c with inUse := 0, group := 8 } = .ok {} ∧ checkCall { c with inUse := 2 } = .error 1 ∧
    (checkMeter m).toOption = some { inUse := true, whPerPulse := 1, intervalMin := 15, meterSamples := 2 } ∧
    checkMeter { m with inUse := 0, intervalMin := 20 } = .ok {} ∧ checkMeter { m with inUse := 2 } = .error 1 ∧
    (checkLink rawLink).toOption.map (fun c => (c.stations[3], c.stations[2])) =
      some ({ recovery := .manual, silenceCountsIdle := true }, {}) := by decide +kernel

/-- R94: minute 15 is a boundary of 15 minutes and none of 30, so the one still due is dropped. -/
theorem test_write_meter_drops_a_boundary :
    let s := atMinute 15 { inSetup with ncc := { inSetup.ncc with intervalDue := true } }
    let m : RawMeter := { inUse := 1, whPerPulse := 100, intervalMin := 30, meterSamples := 2 }
    after (.writeMeter m) s (fun t => t.ncc.intervalDue) = some false ∧
    after (.writeMeter { m with intervalMin := 15, meterSamples := 3 }) s (fun t => t.ncc.intervalDue) = some true := by
  decide +kernel

theorem test_witness_Reads :
    inDay.canServe .identify = true ∧ inDay.canServe .readStatus = true ∧ inDay.canServe .readClock = true ∧
    inDay.canServe .readDemand = true ∧ inDay.canServe .readAttention = true ∧
    (∀ b : Fin 3, inDay.canServe (.readPlan (BitVec.ofNat 8 b.val)) = true) ∧
    (inDay.canServe (.readHold 7) = true ∧ inDay.hold? 7 = none ∧
      (holding inDay [byPanel 7] 8).hold? 7 = some (byPanel 7) ∧
      (holding inDay [byPanel 7] 8).canServe (.readHold 7) = true) ∧
    (inDay.canServe (.listHolds 47) = true ∧ inDay.canServe (.listHolds 48) = true) ∧
    (inDay.canServe (.readQueue 63) = true ∧ inDay.canServe (.readQueue 64) = true) ∧
    (inDay.canServe (.readStation 15) = true ∧ inDay.canServe (.readStation 16) = true) ∧
    (inDay.canServe (.readLoad 63) = true ∧ inDay.canServe (.readLoad 64) = true) ∧
    (∀ k : Fin 9, inDay.canServe (.readConfig (BitVec.ofNat 8 k.val) 0) = true) ∧
    (inDay.canServe (.readConfig 0 63) = true ∧ inDay.canServe (.readConfig 0 64) = true ∧
      inDay.canServe (.readConfig 3 7) = true ∧ inDay.canServe (.readConfig 1 8) = true ∧
      inDay.canServe (.readConfig 4 3) = true ∧ inDay.canServe (.readConfig 4 4) = true ∧
      inDay.canServe (.readConfig 5 1) = true) := by decide +kernel

/-- R183: a number out of its kind's range is field 2, a kind out of range field 1. -/
theorem test_read_config_out_of_range :
    reply (.readConfig 1 8) inDay = some (.range, [2]) ∧ reply (.readConfig 6 1) inDay = some (.range, [2]) ∧
    reply (.readConfig 8 200) inDay = some (.range, [1]) := by decide +kernel

/-- The part after the first steps of SET CLOCK, as the statement spells it. -/
def clocked (s : State) (minute second : Nat) : Part :=
  { s.toPart with
    ncc := { s.ncc with
      clock := { valid := true, minute := minute, second := second }
      intervalDue := false
      mode := match s.ncc.mode with | .day next _ => .day next none | m => m }
    dgv := { s.dgv with energy := 0, isPartial := true } }

def inWindDown : State := plant (.windDown 7000 true) fun _ => .watch

/-- WAKE without a deadline, load 12 in STARTING from the sweep. -/
def inWake : State :=
  let s := plant (.wake none) (only 12 .starting .watch)
  { s with
    loads := s.loads.set 12 { phase := .starting, startedAt := some 5950 }
    dgv := { s.dgv with startingOrigin := s.dgv.startingOrigin.set 12 (some .wake) } }

theorem test_witness_SetClock :
    (inDay.canServe (.setClock 10079 59) = true ∧ inDay.canServe (.setClock 10080 0) = true ∧
      inDay.canServe (.setClock 0 60) = true) ∧
    (inSetup.canServe (.setClock 0 0) = true ∧ inSetup.mode = .setup) ∧
    (let s : State := { inDay with cfg := { hall with active := {} } }
    s.canServe (.setClock 0 0) = true ∧ (clocked s 0 0).scheduled = false ∧ s.mode = .day) ∧
    ((clocked inDay 600 0).scheduled = true ∧ inDay.mode = .day ∧ (clocked inDay 600 0).classify = .day) ∧
    (inDay.canServe (.setClock 1340 0) = true ∧ (clocked inDay 1340 0).classify = .windDown 6600) ∧
    (inDay.canServe (.setClock 1350 0) = true ∧
      (clocked inDay 1350 0).classify = .night { minute := 1770, at_ := 31200 }) ∧
    (inWindDown.canServe (.setClock 600 0) = true ∧ (clocked inWindDown 600 0).classify = .day) ∧
    (inNight.canServe (.setClock 1340 0) = true ∧ (clocked inNight 1340 0).classify = .windDown 6600 ∧
      (clocked inNight 1340 0).wakeTarget = some { minute := 1770, at_ := 31800 }) := by decide +kernel

/-- A night long begun, whose target is the latest wake, and one whose grace is over; and a WAKE in each. -/
theorem test_witness_SetClock_wake :
    (inNight.canServe (.setClock 340 0) = true ∧ (clocked inNight 340 0).classify = .day ∧
      (clocked inNight 340 0).latestWakeTarget = some (330, 5400) ∧ inNight.sweeps 12 ∧
      inNight.now < 5400 + 60 * inNight.cfg.active.wakeGraceMin) ∧
    (inNight.canServe (.setClock 600 0) = true ∧ (clocked inNight 600 0).classify = .day ∧
      (clocked inNight 600 0).latestWakeTarget = some (330, -10200)) ∧
    (inWake.canServe (.setClock 340 0) = true ∧ (clocked inWake 340 0).scheduled = true ∧ inWake.wakeSettled ∧
      (clocked inWake 340 0).latestWakeTarget = some (330, 5400)) := by decide +kernel

theorem test_witness_SetClock_stays :
    (clocked inWindDown 600 0).dayStays none ∧ (clocked inDay 1350 0).nightStays ∧
    (clocked inNight 600 0).dayStays none ∧ inNight.LoadsOk :=
  ⟨Part.dayStays_of_some (night := { nightStart := 51000, warnStart := 49800 }) (by decide +kernel) (by decide +kernel),
    Part.nightStays_of_some (b := 30300) (by decide +kernel) (by decide +kernel),
    Part.dayStays_of_some (night := { nightStart := 51000, warnStart := 49800 }) (by decide +kernel) (by decide +kernel),
    by decide +kernel⟩

theorem test_witness_SetModeSetup :
    let s := holding (plant day (only 12 .unreachable .localRun)) [byPanel 7] 8
    s.canServe (.setMode 0) = true ∧ s.ncc.mode = .day none none ∧ s.inUse 12 = true ∧ s.holds ≠ [] := by
  decide +kernel

theorem test_witness_SetModeRefusals :
    let bad : State := { inSetup with cfg := { hall with loads := hall.loads.set 12 {} } }
    inDay.canServe (.setMode 5) = true ∧ (inDay.canServe (.setMode 1) = true ∧ (1 : Byte).toNat = inDay.mode.code) ∧
    (inSetup.canServe (.setMode 4) = true ∧ inSetup.mode = .setup) ∧
    (inDay.canServe (.setMode 4) = true ∧ inDay.mode = .day) ∧
    ((plant (.windDown 7000 false) fun _ => .watch).canServe (.setMode 0) = true) ∧
    (inNight.canServe (.setMode 2) = true ∧ inNight.mode = .night) ∧
    ((plant (.wake none) fun _ => .watch).canServe (.setMode 3) = true) ∧
    (bad.canServe (.setMode 1) = true ∧ bad.mode = .setup ∧
      bad.validate = some { kind := .load, index := 0, reason := .needUnknown }) := by decide +kernel

theorem test_setup_plant_is_sound : inSetup.PlantOk :=
  ⟨by decide +kernel, by decide +kernel, by decide +kernel⟩

theorem test_witness_SetModeDay :
    let late := atMinute 1340 inSetup
    (inSetup.canServe (.setMode 1) = true ∧ inSetup.mode = .setup ∧ inSetup.validate = none ∧
      inSetup.ncc.armed = false ∧ inSetup.scheduled = false) ∧
    (late.canServe (.setMode 1) = true ∧ late.validate = none ∧
      late.dayNight none = some { nightStart := 6600, warnStart := 5400 } ∧ 5400 ≤ late.now ∧ late.now < 6600) := by
  decide +kernel

theorem test_witness_SetModeDay_stays : inSetup.dayStays none ∧ (atMinute 600 inSetup).dayStays none :=
  ⟨Part.dayStays_of_none (by decide +kernel),
    Part.dayStays_of_some (night := { nightStart := 51000, warnStart := 49800 }) (by decide +kernel) (by decide +kernel)⟩

theorem test_witness_WindDownByCommand :
    let brief : State := { inDay with cfg := { hall with active := { weekday with warningMin := 0 } } }
    let again := atMinute 1340 (plant (.windDown 6100 false) fun _ => .watch)
    let asleep := plant (.night (some { minute := 0, at_ := 6900 }) (some 6000) 900) fun _ => .off
    let awake := plant night fun _ => .watch
    (inDay.canServe (.setMode 2) = true ∧ inDay.mode = .day ∧ 0 < inDay.cfg.active.warningMin ∧
      (inDay.load 12).phase = .localRun) ∧
    (inDay.canServe (.setMode 3) = true ∧ inWindDown.canServe (.setMode 3) = true ∧ inWindDown.mode = .windDown ∧
      brief.canServe (.setMode 2) = true ∧ brief.mode = .day ∧ brief.cfg.active.warningMin = 0) ∧
    (inWindDown.canServe (.setMode 1) = true ∧ inWindDown.canServe (.setMode 4) = true ∧
      inWindDown.ncc.mode = .windDown 7000 true) ∧
    (again.canServe (.setMode 1) = true ∧ again.ncc.mode = .windDown 6100 false ∧
      again.dayNight (some 6100) = some { nightStart := 6600, warnStart := 5400 } ∧ 5400 ≤ again.now ∧
      again.now < 6600) ∧
    (asleep.canServe (.setMode 4) = true ∧ asleep.sweeps 12) ∧
    (awake.canServe (.setMode 4) = true ∧ awake.sweepsNone ∧ awake.wakeWork = false) ∧
    (inWake.canServe (.setMode 1) = true ∧ inWake.mode = .wake) := by decide +kernel

theorem test_witness_WindDownByCommand_stays :
    (inDay.nightStays ∧ (atMinute 1350 inDay).nightStays) ∧ inWindDown.dayStays (some 7000) ∧
    (atMinute 1340 (plant (.windDown 6600 true) fun _ => .watch)).dayStays (some 6600) ∧ inWake.dayStays none :=
  ⟨⟨Part.nightStays_of_none (by decide +kernel),
      Part.nightStays_of_some (b := 30300) (by decide +kernel) (by decide +kernel)⟩,
    Part.dayStays_of_none (by decide +kernel),
    Part.dayStays_of_some (night := { nightStart := 93000, warnStart := 91800 }) (by decide +kernel) (by decide +kernel),
    Part.dayStays_of_none (by decide +kernel)⟩

/-- NIGHT with a plan in STAGED, armed or not. -/
def stagedNight (armed : Bool) : State :=
  { inNight with cfg := { hall with staged := { weekday with planNo := 2 } }
                 ncc := { mode := night, uptime := 6000, armed := armed } }

theorem test_night_is_wakeSettled : inNight.wakeSettled ∧ (stagedNight true).wakeSettled := by decide +kernel

theorem test_witness_PlanWritesOutsideDay :
    inNight.mode ≠ .day ∧
    (inNight.canServe (.writePlan 2 (rawPlan 1350)) = true ∧ inNight.saving = false ∧ 1 < (2 : Byte).toNat) ∧
    (inNight.canServe (.writePlan 0 { rawPlan 1350 with valid := 2 }) = true) ∧
    (inNight.canServe (.writePlan 1 (rawPlan 379)) = true ∧ (rawPlan 379).valid = 1) ∧
    (inNight.canServe (.writePlan 1 (rawPlan 1350)) = true ∧ checkPlan (rawPlan 1350) = .ok weekday) ∧
    inNight.canServe (.armPlan 2) = true ∧
    (inNight.canServe (.armPlan 1) = true ∧ inNight.cfg.staged.valid = false) ∧
    ((stagedNight true).canServe (.armPlan 1) = true ∧ (stagedNight true).cfg.staged.valid = true ∧
      (stagedNight true).ncc.armed = true) ∧
    ((stagedNight false).canServe (.armPlan 1) = true ∧ (stagedNight false).ncc.armed = false) := by decide +kernel

/-- R110: the arm value is field 0, the span field 14; an earlier row comes first. -/
theorem test_write_plan_refusals :
    reply (.writePlan 2 (rawPlan 379)) inNight = some (.range, [0]) ∧
    reply (.writePlan 1 (rawPlan 379)) inNight = some (.range, [14]) ∧
    reply (.writePlan 1 { rawPlan 379 with warningMin := 61 }) inNight = some (.range, [6]) := by decide +kernel

/-- DAY with a plan in STAGED, armed or not. -/
def stagedDay (armed : Bool) : State :=
  { inDay with cfg := { hall with staged := { weekday with planNo := 2 } }
               ncc := { mode := day, uptime := 6000, armed := armed } }

theorem test_witness_ArmedPlanSwapsInDay :
    (stagedDay false).ncc.mode = .day none none ∧
    ((stagedDay false).canServe (.writePlan 1 (rawPlan 1350)) = true ∧ (stagedDay false).saving = false ∧
      checkPlan (rawPlan 1350) = .ok weekday ∧ weekday.valid = true) ∧
    ((stagedDay false).canServe (.writePlan 0 (rawPlan 1350)) = true ∧
      checkPlan { rawPlan 1350 with valid := 0 } = .ok {}) ∧
    ((stagedDay false).canServe (.armPlan 1) = true ∧ (stagedDay false).cfg.staged.valid = true ∧
      (stagedDay false).ncc.armed = false) ∧
    ((stagedDay true).canServe (.armPlan 0) = true ∧ (stagedDay true).ncc.armed = true) := by decide +kernel

/-- A plan armed in DAY by its WRITE PLAN becomes ACTIVE, and its warning, already begun, takes DAY on. -/
theorem test_write_plan_swaps_in_day :
    reply (.writePlan 1 (rawPlan 1340)) inDay = some (.ok, [0, 1]) ∧
    after (.writePlan 1 (rawPlan 1340)) inDay (fun t => t.cfg.active.windDownTime) = some 1340 ∧
    after (.writePlan 1 (rawPlan 1340)) (atMinute 1325 inDay) (fun t => t.ncc.mode) =
      some (.windDown 6900 true) := by decide +kernel

theorem test_witness_SetCeilingAndEnable :
    inDay.canServe (.setCeiling 60000 60001) = true ∧ inDay.canServe (.setCeiling 0 1) = true ∧
    inDay.canServe (.setAttentionEnable 0x7F) = true := by decide +kernel

theorem test_witness_PlaceHoldCreates :
    inNight.mode ≠ .setup ∧ inNight.HoldsOk ∧
    (inNight.canServe (.placeHold 0 1 1 901 0) = true ∧ checkTarget 0 1 1 = .ok (.keepOn, .zone 1) ∧
      inNight.targetEmpty (.zone 1) = false ∧ inNight.matching .keepOn (.zone 1) .supervisor = none ∧
      inNight.holds.length < 48 ∧ inNight.conflicts .keepOn (.zone 1) = false) ∧
    (inNight.canServe (.placeHold 1 0 2 0 12) = true ∧ checkTarget 1 0 2 = .ok (.keepOff, .load 2) ∧
      inNight.targetEmpty (.load 2) = false ∧ inNight.matching .keepOff (.load 2) .supervisor = none ∧
      inNight.conflicts .keepOff (.load 2) = false) := by decide +kernel

/-- The loads and the group a placement newly covers: OFF, kept, running and QUEUED ones, and a floor not met. -/
theorem test_witness_PlaceHoldCreates_follows :
    let stop := plant night (only 12 (.stopping 5990) .off)
    let air := needing 0 [] inNight
    (inNight.covers (.zone 1) 6 = true ∧ inNight.onCount 6 = 0 ∧ (inNight.load 6).phase = .off) ∧
    (queued12.canServe (.placeHold 0 0 12 60 0) = true ∧ queued12.onCount 12 = 0 ∧
      queued12.conflicts .keepOn (.load 12) = false ∧
      queued12.entry? 12 = some { load := 12, origin := .command, key := 4, seq := 0 }) ∧
    (stop.canServe (.placeHold 0 0 12 60 0) = true ∧ (stop.load 12).phase.isStopping = true ∧
      stop.mode ≠ .wake) ∧
    (air.canServe (.placeHold 0 2 0 60 0) = true ∧ air.groupOnCount 0 = 0 ∧
      air.floorCount 0 < (air.group 0).required ∧ 0 ∈ air.members 0 ∧ (air.load 0).phase = .off ∧
      air.offCount 0 = 0 ∧ (air.config 0).needs = []) ∧
    (inDay.canServe (.placeHold 1 0 8 60 0) = true ∧ inDay.covers (.load 8) 8 = true ∧ inDay.offCount 8 = 0 ∧
      (inDay.load 8).phase.running = true ∧ inDay.stopConditions 8 = true) ∧
    (queued12.canServe (.placeHold 1 0 12 60 0) = true ∧ queued12.offCount 12 = 0 ∧
      (queued12.load 12).phase = .queued ∧ queued12.serving 12 = false) := by decide +kernel

theorem test_placed_plants_are_sound : inNight.LoadsOk ∧ queued12.LoadsOk ∧ inDay.LoadsOk :=
  ⟨by decide +kernel, by decide +kernel, by decide +kernel⟩

/-- R61, R63: KEEP_ON queues the OFF load with origin HOLD, KEEP_OFF stops a running one and withdraws an entry. -/
theorem test_placement_asks :
    after (.placeHold 0 0 12 60 0) inNight (fun t => t.dgv.queue.map fun e => (e.load.val, e.origin.code)) =
      some [(12, 1)] ∧
    after (.placeHold 1 0 8 60 0) inDay (fun t => (t.load 8).phase) = some (.stopping 6000) ∧
    after (.placeHold 1 0 12 60 0) queued12 (fun t => ((t.load 12).phase, t.dgv.queue.length)) = some (.off, 0) := by
  decide +kernel

theorem test_witness_PlaceHoldRefusals :
    let full := holding inNight tableFull 49
    let against := holding inNight [byPanel 7] 8
    (inSetup.canServe (.placeHold 0 0 0 1 0) = true ∧ inSetup.mode = .setup) ∧
    (inNight.canServe (.placeHold 2 0 0 1 0) = true ∧ inNight.mode ≠ .setup) ∧
    inNight.canServe (.placeHold 1 2 0 1 0) = true ∧
    (checkTarget 0 0 63 = .ok (.keepOn, .load 63) ∧ inNight.targetEmpty (.load 63) = true) ∧
    (checkTarget 0 0 12 = .ok (.keepOn, .load 12) ∧ full.targetEmpty (.load 12) = false ∧
      full.matching .keepOn (.load 12) .supervisor = none ∧ 48 ≤ full.holds.length ∧
      full.canServe (.placeHold 0 0 12 1 0) = true) ∧
    (checkTarget 1 0 4 = .ok (.keepOff, .load 4) ∧ against.matching .keepOff (.load 4) .supervisor = none ∧
      against.conflicts .keepOff (.load 4) = true ∧ against.canServe (.placeHold 1 0 4 1 0) = true) := by
  decide +kernel

/-- Table 3-2: a target kind above 2 is field 2, and a target number out of its kind's range field 3. -/
theorem test_place_hold_targets_out_of_range :
    (inNight.canServe (.placeHold 0 3 0 1 0) = true ∧ inNight.canServe (.placeHold 0 0 64 1 0) = true) ∧
    reply (.placeHold 0 3 0 1 0) inNight = some (.range, [2]) ∧
    reply (.placeHold 0 0 64 1 0) inNight = some (.range, [3]) ∧
    reply (.placeHold 1 1 8 1 0) inNight = some (.range, [3]) ∧
    reply (.placeHold 0 2 8 1 0) inNight = some (.range, [3]) := by decide +kernel

theorem test_witness_Renewals :
    let h := byHand 7 .keepOff (.load 2) none
    let s := holding inNight [h, byPanel 8] 9
    (s.canServe (.placeHold 1 0 2 10080 0) = true ∧ checkTarget 1 0 2 = .ok (.keepOff, .load 2) ∧
      s.targetEmpty (.load 2) = false ∧ s.matching .keepOff (.load 2) .supervisor = some h ∧ s.HoldsOk ∧
      s.wakeSettled) ∧
    (s.canServe (.renewHold 7 5) = true ∧ s.mode ≠ .setup ∧ s.hold? 7 = some h ∧ h.owner = .supervisor) ∧
    (s.canServe (.renewHold 8 5) = true ∧ s.hold? 8 = some (byPanel 8) ∧ (byPanel 8).owner ≠ .supervisor) ∧
    (s.canServe (.renewHold 0 5) = true ∧ s.hold? 0 = none) ∧
    (inSetup.canServe (.renewHold 7 5) = true ∧ inSetup.mode = .setup) := by decide +kernel

theorem test_witness_ReleaseHold :
    let s := holding inNight [byHand 7 .keepOff (.load 2) none, byPanel 8] 9
    s.canServe (.releaseHold 7 2) = true ∧ s.canServe (.releaseHold 7 0) = true ∧ s.mode ≠ .setup ∧
    s.hold? 7 = some (byHand 7 .keepOff (.load 2) none) ∧
    (s.canServe (.releaseHold 8 0) = true ∧ s.canServe (.releaseHold 8 1) = true ∧ s.hold? 8 = some (byPanel 8)) ∧
    (s.canServe (.releaseHold 0 0) = true ∧ s.hold? 0 = none) ∧
    (inSetup.canServe (.releaseHold 7 1) = true ∧ inSetup.mode = .setup) := by decide +kernel

/-- NIGHT with FAN-2 in WATCH whose idle expiry is the present second. -/
def idleFan : State :=
  let s := plant night (only 9 .watch .off)
  { s with loads := s.loads.set 9 { phase := .watch, feedback := true, lastActivity := 4200 } }

/-- Load 12 running in DAY with a stop pending, its station not ONLINE, kept off by hold 7 alone. -/
def pending12 : State :=
  { holding inDay [byHand 7 .keepOff (.load 12) (some 100)] 8 with
    loads := inDay.loads.set 12 { phase := .localRun, stopPending := true, lastActivity := 5990 }
    flm := { stations := (Vector.replicate 16 {}).set 3 { grade := .suspect, err := 96 } } }

/-- Air group 0 held on by hold 8, its first compressor OFF, without needs and kept off by hold 7. -/
def keptAir : State :=
  needing 0 [] (holding inNight [byHand 7 .keepOff (.load 0) (some 100), byHand 8 .keepOn (.group 0) (some 200)] 9)

/-- Load 12 queued for hold 7 alone, and another load needing it queued behind, or none. -/
def backed12 (dependent : Bool) : State :=
  let s := needing 9 [.load 12] (plant night fun n => if n = 12 ∨ (n = 9 ∧ dependent = true) then .queued else .off)
  let own : Entry := { load := 12, origin := .hold, key := 4, seq := 0 }
  { holding s [byHand 7 .keepOn (.load 12) (some 100)] 8 with
    dgv := { s.dgv with
      queue := if dependent then [own, { own with load := 9, origin := .command, seq := 1 }] else [own], nextSeq := 2 } }

/-- Load 12 queued for the group that hold 7 alone holds on. -/
def backedAir : State :=
  let s := plant night (only 0 .queued .off)
  { holding s [byHand 7 .keepOn (.group 0) (some 100)] 8 with
    dgv := { s.dgv with queue := [{ load := 0, origin := .hold, key := 4, seq := 0 }], nextSeq := 1 } }

/-- That fan, held on by hold 7 alone. -/
def idleHeld : State := holding idleFan [byHand 7 .keepOn (.load 9) (some 100)] 8

/-- Compressor 2, long idle, in the group that hold 7 alone holds on. -/
def idleAir : State :=
  let s := plant night (only 2 .watch .off)
  { holding s [byHand 7 .keepOn (.group 0) (some 100)] 8 with
    loads := s.loads.set 2 { phase := .watch, feedback := true, lastActivity := 1000 } }

/-- What the retirement of hold 7 meets, clause by clause of FollowsRetirement. -/
theorem test_witness_FollowsRetirement :
    (pending12.covers (.load 12) 12 = true ∧ pending12.offCount 12 = 1 ∧ (pending12.load 12).phase.running = true ∧
      pending12.mode ≠ .night) ∧
    (keptAir.offCount 0 = 1 ∧ keptAir.groupOf 0 = some 0 ∧ 0 < keptAir.groupOnCount 0 ∧ keptAir.dgv.queue = [] ∧
      keptAir.floorCount 0 < (keptAir.group 0).required ∧ 0 ∈ keptAir.members 0 ∧ (keptAir.load 0).phase = .off ∧
      (keptAir.config 0).needs = [] ∧ ∀ m ∈ keptAir.members 0, m < 0 → (keptAir.load m).phase ≠ .off) ∧
    ((backed12 true).covers (.load 12) 12 = true ∧ (backed12 true).onCount 12 = 1 ∧
      (backed12 true).groupOf 12 = none ∧ (backed12 true).firstWanting 12 = some 9 ∧
      (backed12 true).entry? 12 = some { load := 12, origin := .hold, key := 4, seq := 0 }) ∧
    ((backed12 false).firstWanting 12 = none ∧ (backed12 false).onCount 12 = 1 ∧
      (backed12 false).entry? 12 = some { load := 12, origin := .hold, key := 4, seq := 0 }) ∧
    (backedAir.memberOf 0 0 = true ∧ backedAir.groupOnCount 0 = 1 ∧ backedAir.onCount 0 = 0 ∧
      backedAir.firstWanting 0 = none ∧
      backedAir.entry? 0 = some { load := 0, origin := .hold, key := 4, seq := 0 }) ∧
    (idleHeld.onCount 9 = 1 ∧ Part.idleStopDue { idleHeld with holds := [] } 9 = true) ∧
    (idleAir.groupOnCount 0 = 1 ∧ idleAir.memberOf 2 0 = true ∧
      (∀ m, idleAir.memberOf m 0 = true → m ≠ 2 → (idleAir.load m).phase.running = false) ∧
      Part.idleStopDue { idleAir with holds := [] } 2 = true) := by decide +kernel

theorem test_retiring_plants_are_sound :
    (pending12.HoldsOk ∧ pending12.LoadsOk ∧ pending12.ClockOk ∧ pending12.canServe (.releaseHold 7 0) = true) ∧
    (keptAir.HoldsOk ∧ keptAir.LoadsOk ∧ keptAir.ClockOk ∧ keptAir.canServe (.releaseHold 7 0) = true) ∧
    ((backed12 true).HoldsOk ∧ (backed12 true).LoadsOk) ∧ ((backed12 false).HoldsOk ∧ (backed12 false).LoadsOk) ∧
    (backedAir.HoldsOk ∧ backedAir.LoadsOk) ∧ (idleHeld.HoldsOk ∧ idleHeld.LoadsOk) ∧
    (idleAir.HoldsOk ∧ idleAir.LoadsOk) :=
  ⟨⟨by decide +kernel, by decide +kernel, by decide +kernel, by decide +kernel⟩,
    ⟨by decide +kernel, by decide +kernel, by decide +kernel, by decide +kernel⟩,
    ⟨by decide +kernel, by decide +kernel⟩, ⟨by decide +kernel, by decide +kernel⟩,
    ⟨by decide +kernel, by decide +kernel⟩, ⟨by decide +kernel, by decide +kernel⟩, by decide +kernel,
    by decide +kernel⟩

/-- R70 to R72: the pending stop goes, the floor is asked for, the entry becomes a PULL or goes without a cause, and
an idle stop that the hold forbade is taken, by a release as by an expiry. -/
theorem test_retirement_gives_up :
    after (.releaseHold 7 0) pending12 (fun t => (t.load 12).stopPending) = some false ∧
    after (.releaseHold 7 0) keptAir (fun t => (t.entry? 0).map Entry.origin) = some (some .hold) ∧
    after (.releaseHold 7 0) (backed12 true) (fun t => (t.entry? 12).map Entry.origin) = some (some (.pull 9)) ∧
    after .holdExpiry (backed12 false) (fun t => ((t.load 12).phase, t.atl.pending)) = some (.off, 0x10) ∧
    after .holdExpiry backedAir (fun t => (t.load 0).phase) = some .off ∧
    after .holdExpiry idleHeld (fun t => (t.load 9).phase) = some (.stopping 6000) ∧
    after .holdExpiry idleAir (fun t => (t.load 2).phase) = some (.stopping 6000) := by decide +kernel

/-- A table with holds that agree meets the invariants, and a command is waiting. -/
theorem test_witness_HoldTableStaysSound :
    let s := (holding inNight [byHand 7 .keepOff (.load 2) none, byPanel 8] 9).withPending [.releaseHold 7 0]
    s.HoldsOk ∧ s.HoldsAgree ∧ (after (.releaseHold 7 0) s fun t => t.holds.length) = some 1 := by decide +kernel

theorem test_witness_HoldsNeverContradict :
    (holding inNight [byHand 7 .keepOff (.load 2) none, byPanel 8] 9).HoldsAgree ∧
      (holding inNight [byHand 7 .keepOff (.load 2) none, byPanel 8] 9).HoldsOk := by decide +kernel

theorem test_witness_StartLoad :
    let k := holding inNight [byHand 7 .keepOff (.load 12) none] 8
    inNight.canServe (.startLoad 64) = true ∧
    (inNight.canServe (.startLoad 12) = true ∧ (inNight.load 12).phase = .off ∧ inNight.offCount 12 = 0 ∧
      (inNight.config 12).needs = [] ∧ inNight.mode ≠ .setup ∧ 12 ∉ inNight.queuedLoads ∧ inNight.wakeSettled) ∧
    (queued12.canServe (.startLoad 12) = true ∧ (queued12.load 12).phase = .queued ∧ queued12.mode ≠ .setup ∧
      queued12.entry? 12 = some { load := 12, origin := .command, key := 4, seq := 0 } ∧ queued12.mode ≠ .wake) ∧
    (k.canServe (.startLoad 12) = true ∧ (k.load 12).phase = .off ∧ 0 < k.offCount 12) ∧
    (inDay.canServe (.startLoad 12) = true ∧ (inDay.load 12).phase = .localRun) ∧
    (inDay.canServe (.startLoad 63) = true ∧ (inDay.load 63).phase = .unused) := by decide +kernel

/-- A need on an OFF load, a need on a group that one start more would satisfy, and needs that cannot be met. -/
theorem test_witness_StartLoad_needs :
    let one := needing 9 [.load 12] inNight
    let two := needing 9 [.group 0] (needing 1 [] (nightWith 0 .watch true))
    let kept := holding one [byHand 7 .keepOff (.load 12) none] 8
    let down := needing 9 [.load 12] (plant night (only 12 (.fault .noStart) .off))
    (one.canServe (.startLoad 9) = true ∧ (one.load 9).phase = .off ∧ one.offCount 9 = 0 ∧ 9 ∉ one.queuedLoads ∧
      (one.config 9).needs = [.load 12] ∧ one.inUse 12 = true ∧ (one.load 12).phase = .off ∧
      one.offCount 12 = 0 ∧ (one.config 12).needs = [] ∧ 12 ∉ one.queuedLoads) ∧
    (two.canServe (.startLoad 9) = true ∧ (two.load 9).phase = .off ∧ two.wakeSettled ∧
      (two.config 9).needs = [.group 0] ∧ two.memberOf 9 0 = false ∧ two.memberOf 1 0 = true ∧
      (two.config 1).needs = [] ∧ (two.load 1).phase = .off ∧
      (two.members 0).countP two.up + 1 = (two.group 0).required ∧
      ∀ k ∈ two.members 0, (two.load k).phase ≠ .queued ∧ (two.load k).phase ≠ .starting ∧
        (k < 1 → (two.load k).phase ≠ .off)) ∧
    (kept.canServe (.startLoad 9) = true ∧ kept.offCount 9 = 0 ∧ .load 12 ∈ (kept.config 9).needs ∧
      0 < kept.offCount 12 ∧ (kept.load 12).phase.running = false) ∧
    (down.canServe (.startLoad 9) = true ∧ (down.load 12).phase.isFault = true) := by decide +kernel

/-- R82: the pulled load stands right before the one that pulls it. -/
theorem test_start_pulls_one :
    after (.startLoad 9) (needing 9 [.load 12] inNight)
      (fun t => t.dgv.queue.map fun e => (e.load.val, e.origin.code)) = some [(12, 4), (9, 3)] := by decide +kernel

/-- NIGHT with a WATCH load long idle, and an OFF load with these needs and one more on load 12, in FAULT. -/
def lostNeed (idle n : LoadId) (needs : List Need) : State :=
  let s := needing n (needs ++ [.load 12])
    (plant night fun k => if k = idle then .watch else if k = 12 then .fault .noStart else .off)
  { s with loads := s.loads.set idle { phase := .watch, feedback := true, lastActivity := 1000 } }

theorem test_witness_StartLoad_lost :
    let s := lostNeed 10 9 [.load 10]
    (s.canServe (.startLoad 9) = true ∧ (s.load 9).phase = .off ∧ s.offCount 9 = 0 ∧ s.mode ≠ .setup) ∧
    (.load 10 ∈ (s.config 9).needs ∧ .load 12 ∈ (s.config 9).needs ∧ (s.load 12).phase.isFault = true ∧
      s.groupOf 10 = none ∧ s.idleStopDue 10 = true) ∧ s.ClockOk := by decide +kernel

theorem test_lostNeed_is_sound : (lostNeed 10 9 [.load 10]).LoadsOk := by decide +kernel

/-- R30: a dependent's entry that comes and goes in one handling calls for the check, and so does the floor demand that
rises and falls with it. -/
theorem test_change_undone_calls_for_the_check :
    after (.startLoad 9) (lostNeed 10 9 [.load 10]) (fun t => ((t.load 9).phase, (t.load 10).phase, t.checksDue)) =
      some (.off, .stopping 6000, []) ∧
    (lostNeed 0 3 [.group 0]).floorDemand 0 = false ∧
    after (.startLoad 3) (lostNeed 0 3 [.group 0]) (fun t => ((t.load 3).phase, (t.load 0).phase, t.floorDemand 0)) =
      some (.off, .stopping 6000, false) := by decide +kernel

/-- R81: a satisfied need can be met although a KEEP_OFF covers the load that meets it. -/
theorem test_kept_off_need_that_is_met :
    let s := needing 9 [.load 8] (nightWith 8 .watch true)
    (holding s [byHand 7 .keepOff (.load 8) none] 8).needSatisfiable (.load 8) = true ∧
    (holding inNight [byHand 7 .keepOff (.load 8) none] 8).needSatisfiable (.load 8) = false := by decide +kernel

theorem test_witness_StopLoad :
    let off3 : State := { inDay with flm := { stations := (Vector.replicate 16 {}).set 2 { grade := .suspect, err := 96 } } }
    let young : State := { inDay with loads := inDay.loads.set 8 { phase := .localRun, startedAt := some 5999 },
                                      cfg := { hall with loads := hall.loads.set 8 { hall.loads[8] with minRunS := 2 } } }
    let kept := holding inDay [byHand 7 .keepOn (.load 8) (some 200)] 8
    inDay.canServe (.stopLoad 64) = true ∧
    (inSetup.canServe (.stopLoad 8) = true ∧ inSetup.mode = .setup) ∧
    (inNight.canServe (.stopLoad 8) = true ∧ inNight.mode ≠ .setup ∧ (inNight.load 8).phase = .off) ∧
    (inDay.canServe (.stopLoad 8) = true ∧ (inDay.load 8).phase = .localRun ∧ inDay.onCount 8 = 0 ∧
      inDay.dependentsAllowStop 8 = true ∧ inDay.stationOnline 8 = true ∧ inDay.minRunMet 8 = true ∧
      8 ∉ inDay.queuedLoads) ∧
    (kept.canServe (.stopLoad 8) = true ∧ 0 < kept.onCount 8) ∧
    (inDay.canServe (.stopLoad 12) = true ∧ inDay.onCount 12 = 0 ∧ inDay.dependentsAllowStop 12 = false) ∧
    (off3.canServe (.stopLoad 8) = true ∧ off3.stationOnline 8 = false) ∧
    (young.canServe (.stopLoad 8) = true ∧ young.dependentsAllowStop 8 = true ∧ young.stationOnline 8 = true ∧
      young.minRunMet 8 = false) ∧
    (queued12.canServe (.stopLoad 12) = true ∧ (queued12.load 12).phase = .queued ∧ queued12.onCount 12 = 0 ∧
      queued12.dependentsAllowStop 12 = true ∧ queued12.mode ≠ .wake) := by decide +kernel

/-- WAKE with load 12 queued from the sweep. -/
def wakeQueued12 : State :=
  let s := plant (.wake none) (only 12 .queued .off)
  { s with dgv := { s.dgv with queue := [{ load := 12, origin := .wake, key := 4, seq := 0 }], nextSeq := 1 } }

/-- In WAKE a START LOAD takes the entry over, and a STOP LOAD withdraws it, which ends the WAKE. -/
theorem test_witness_queued_in_wake :
    (wakeQueued12.canServe (.startLoad 12) = true ∧ (wakeQueued12.load 12).phase = .queued ∧
      wakeQueued12.mode = .wake ∧ wakeQueued12.ClockOk ∧
      wakeQueued12.entry? 12 = some { load := 12, origin := .wake, key := 4, seq := 0 }) ∧
    (wakeQueued12.canServe (.stopLoad 12) = true ∧ wakeQueued12.onCount 12 = 0 ∧
      wakeQueued12.dependentsAllowStop 12 = true) ∧
    reply (.startLoad 12) wakeQueued12 = some (.noChange, [12, 5, 3]) ∧
    after (.stopLoad 12) wakeQueued12 (fun t => ((t.load 12).phase, t.mode)) = some (.off, .day) := by decide +kernel

theorem test_witness_ClearFault :
    inDay.canServe (.clearFault 64) = true ∧
    ((nightWith 12 (.fault .noStart) false).canServe (.clearFault 12) = true ∧
      ((nightWith 12 (.fault .noStart) false).load 12).phase = .fault .noStart) ∧
    ((nightWith 12 (.fault .noStop) true).canServe (.clearFault 12) = true ∧
      ((nightWith 12 (.fault .noStop) true).load 12).phase = .fault .noStop) ∧
    (inDay.canServe (.clearFault 63) = true ∧ (inDay.load 63).phase.isFault = false) := by decide +kernel

/-- A queue of one, and a start under way, in a sound plant. -/
theorem test_witness_PlantStaysSound : (queued12.withPending [.admissionScan]).PlantOk ∧ (starting12 true).PlantOk :=
  ⟨⟨by decide +kernel, by decide +kernel, by decide +kernel⟩,
    ⟨by decide +kernel, by decide +kernel, by decide +kernel⟩⟩

theorem test_witness_InrushContribution :
    let s : State := { starting12 true with ncc := { mode := night, uptime := 5957 } }
    ((s.load 12).startedAt = some 5950 ∧ s.now - 5950 < (s.config 12).accelS) ∧
    (((starting12 true).load 12).startedAt = some 5950 ∧ ((starting12 true).config 12).accelS ≤ (starting12 true).now - 5950) ∧
    (s.load 0).startedAt = none ∧ (s.config 12).runKw ≤ (s.config 12).inrushKw ∧ 0 < (s.config 12).accelS := by
  decide +kernel

theorem test_witness_ScanAdmitsReadyHead :
    queued12.working = true ∧ queued12.dgv.scanDue = true ∧
    queued12.dgv.queue = [{ load := 12, origin := .command, key := 4, seq := 0 }] ∧
    queued12.needsSatisfied 12 = true ∧ queued12.inMinOff 12 = false ∧
    (queued12.load 12).startHistory.length < (queued12.config 12).startsPerHour ∧
    queued12.stationOnline 12 = true ∧
    queued12.demandNow + (queued12.config 12).inrushKw ≤ queued12.dgv.ceilingI.value ∧
    queued12.ncc.clock.valid = false := by decide +kernel

/-- NIGHT with HPU-8 and load 12 queued by command, this record for load 12, and an instantaneous ceiling. -/
def queuedTwo (c : LoadConfig) (r : LoadRecord) (ceiling : Nat) (station : Station := {}) : State :=
  let s := plant night fun n => if n = 5 ∨ n = 12 then .queued else if n = 8 then .watch else .off
  let fan : LoadRecord := { phase := .watch, feedback := true, lastActivity := 5990 }
  { s with
    cfg := { hall with loads := hall.loads.set 12 c }
    loads := (s.loads.set 12 { r with phase := .queued }).set 8 fan
    flm := { stations := (Vector.replicate 16 {}).set 3 station }
    dgv := { s.dgv with
      ceilingI := { value := ceiling }, scanDue := true, nextSeq := 2
      queue := [{ load := 5, origin := .command, key := 4, seq := 0 },
        { load := 12, origin := .command, key := 4, seq := 1 }] } }

def fan12 : LoadConfig := hall.loads[12]

/-- The entry of HPU-8 waits for its air, and load 12 behind it is ready, or waits in each of the other ways. -/
theorem test_witness_ScanAdmitsReadyHead_waits :
    let s := queuedTwo fan12 {} 1200
    let full := queuedTwo fan12 { startHistory := List.replicate 6 5000 } 1200
    let early := queuedTwo { fan12 with minOffS := 300 } { stoppedAt := some 5990 } 1200
    let away := queuedTwo fan12 {} 1200 { grade := .suspect, err := 96 }
    s.needsSatisfied 5 = false ∧
    (s.needsSatisfied 12 = true ∧ s.inMinOff 12 = false ∧
      (s.load 12).startHistory.length < (s.config 12).startsPerHour ∧ s.stationOnline 12 = true ∧
      s.demandNow = 15) ∧
    (full.config 12).startsPerHour ≤ (full.load 12).startHistory.length ∧ early.inMinOff 12 = true ∧
    away.stationOnline 12 = false ∧ s.ClockOk ∧ s.wakeSettled := by decide +kernel

theorem test_scanned_plants_are_sound :
    (queuedTwo fan12 {} 1200).LoadsOk ∧ (queuedTwo fan12 {} 131).LoadsOk ∧ (queuedTwo fan12 {} 146).LoadsOk :=
  ⟨by decide +kernel, by decide +kernel, by decide +kernel⟩

/-- A full interval under a valid clock, 400 s old, with its energy and an interval ceiling. -/
def metered (energy ceiling : Nat) (s : State) : State :=
  { s with
    ncc := { s.ncc with clock := { valid := true, minute := 1326, second := 40 } }
    dgv := { s.dgv with energy := energy, isPartial := false, ceilingD := { value := ceiling } } }

/-- R97: with E 31,200 Wh, D 415 kW and t 400 s of 900, HPU-8 projects 386 kW, which passes at a C_d of 386 alone. -/
theorem test_projection_worked_case :
    let s := metered 31200 386 (queuedTwo fan12 {} 1200)
    let s : State := { s with cfg := { hall with loads := hall.loads.set 8 { hall.loads[8] with runKw := 415 } } }
    s.demandNow = 415 ∧ s.projection 5 = 386 ∧ s.intervalTest 5 = true ∧
    ({ s with dgv := { s.dgv with ceilingD := { value := 385 } } } : State).intervalTest 5 = false := by decide +kernel

/-- The interval test decides: load 12 projects 21 kW on 15 kW running, and waits DEMAND at a C_d of 20 (R97, R100). -/
theorem test_witness_ScanAdmitsReadyHead_interval :
    let s (ceiling : Nat) := metered 0 ceiling (queuedTwo fan12 {} 1200)
    (s 20).cfg.meter.inUse = true ∧ (s 20).ncc.clock.valid = true ∧ (s 20).projection 12 = 21 ∧
    after .admissionScan (s 20) (fun t => t.dgv.queue.map Entry.wait) = some [.needs, .demand] ∧
    after .admissionScan (s 21) (fun t => (t.load 12).phase) = some .starting := by decide +kernel

/-- R99, R100: 132 kW on 15 kW is admitted at 147, waits DEMAND at 146, and is OVERSIZE at 131. -/
theorem test_scan_outcomes :
    let waits (s : State) := after .admissionScan s fun t => t.dgv.queue.map Entry.wait
    after .admissionScan (queuedTwo fan12 {} 147) (fun t => (t.load 12).phase) = some .starting ∧
    waits (queuedTwo fan12 {} 146) = some [.needs, .demand] ∧
    after .admissionScan (queuedTwo fan12 {} 131)
      (fun t => ((t.load 12).phase, t.atl.details[3])) = some (.off, some (.startFailed 12 .oversize)) ∧
    waits (queuedTwo fan12 { startHistory := List.replicate 6 5000 } 1200) = some [.needs, .budget] ∧
    waits (queuedTwo { fan12 with minOffS := 300 } { stoppedAt := some 5990 } 1200) = some [.needs, .minOff] ∧
    waits (queuedTwo fan12 {} 1200 { grade := .suspect, err := 96 }) = some [.needs, .link] := by decide +kernel

/-- Load 12 ready, and load 10, which needs the idle FAN-2, too large. -/
def maskedFall : State :=
  let s := plant night fun n => if n = 10 ∨ n = 12 then .queued else if n = 9 then .watch else .off
  { s with
    cfg := { hall with loads := hall.loads.set 10 { hall.loads[10] with needs := [.load 9], inrushKw := 2000 } }
    loads := s.loads.set 9 { phase := .watch, feedback := true, lastActivity := 4200 }
    dgv := { s.dgv with
      scanDue := true, nextSeq := 2, demand := 15
      queue := [{ load := 12, origin := .command, key := 4, seq := 0 },
        { load := 10, origin := .command, key := 4, seq := 1 }] } }

/-- R92: the fall by the fan's stop, which the withdrawal allows, starts a scan though the start has raised D by
more. -/
theorem test_masked_fall_starts_a_scan :
    after .admissionScan maskedFall (fun t =>
      ((t.load 12).phase, (t.load 10).phase, (t.load 9).phase, t.demandNow, t.dgv.scanDue)) =
      some (.starting, .off, .stopping 6000, 132, true) := by decide +kernel

theorem test_witness_ScanAdmitsWithinCeiling :
    (∀ n : LoadId, (queued12.config n).runKw ≤ (queued12.config n).inrushKw) ∧
    (queued12.load 12).phase ≠ .starting ∧
    after .admissionScan queued12 (fun t => (t.load 12).phase) = some .starting := by decide +kernel

/-- Station 3 OFFLINE, under a MANUAL recovery. -/
def lost (r : Station) : State :=
  let s := polling r [] .unreachable
  { s with cfg := { hall with link := { stations := (Vector.replicate 16 {}).set 3 { recovery := .manual } } } }

theorem test_witness_RecoverStation :
    inDay.canServe (.recoverStation 16) = true ∧
    (inDay.canServe (.recoverStation 15) = true ∧ inDay.polled 15 = false) ∧
    (inDay.canServe (.recoverStation 0) = true ∧ inDay.polled 0 = true ∧ (inDay.station 0).grade ≠ .offline) ∧
    ((polling offline []).canServe (.recoverStation 3) = true ∧ ((polling offline []).station 3).grade = .offline ∧
      ((polling offline []).cfg.link.stations[3]).recovery = .auto) ∧
    ((lost offline).canServe (.recoverStation 3) = true ∧ (lost offline).polled 3 = true ∧
      ((lost offline).cfg.link.stations[3]).recovery = .manual ∧ ((lost offline).station 3).forcedAuto = false ∧
      ((lost offline).station 3).recoverArmed = false) := by decide +kernel

/-- The link in HALT, every polled station OFFLINE. -/
def halted : State :=
  { plant day fun _ => .unreachable with flm :=
    { link := .halt, stations := tabulate fun k => if k.val < 4 then { offline with probeCount := 0, forcedAuto := true } else {} } }

theorem test_polling_plant_is_sound : (polling {} [0, 1]).PlantOk ∧ halted.PlantOk :=
  ⟨⟨by decide +kernel, by decide +kernel, by decide +kernel⟩,
    ⟨by decide +kernel, by decide +kernel, by decide +kernel⟩⟩

theorem test_witness_LinkHalt :
    (halted.canServe .linkHalt = true ∧ halted.flm.link = .halt) ∧
    ((polling {} [0, 1]).canServe .linkHalt = true ∧ (polling {} [0, 1]).flm.link = .run ∧
      (polling {} [0, 1]).polled 3 = true ∧ (polling {} [0, 1]).polled 15 = false) := by decide +kernel

/-- R143, R145: four stations newly OFFLINE leave the highest in the detail, and a link whose stations are OFFLINE
already raises nothing. -/
theorem test_link_halt_raises_station :
    let down : State := { halted with flm := { halted.flm with link := .run } }
    after .linkHalt (polling {} [0, 1]) (fun t => (t.atl.pending.getLsbD 1, t.atl.details[1])) =
      some (true, some (.station 3)) ∧
    down.canServe .linkHalt = true ∧ after .linkHalt down (fun t => t.atl.pending) = some 0 := by decide +kernel

theorem test_between_cycles : inDay.flm.betweenCycles ∧ ¬(polling {} []).flm.betweenCycles :=
  ⟨⟨rfl, rfl⟩, fun h => nomatch h.1⟩

theorem test_witness_PollCycleBegins :
    (halted.canServe .linkRun = true ∧ halted.flm.link = .halt) ∧
    (inDay.working = true ∧ inDay.flm.link = .run ∧ inDay.canServe .linkRun = true) := by decide +kernel

/-- R20, R136: the permits of station 3 in the states of its load 12, channel 0; its other slots are UNUSED. -/
theorem test_permits_of_states :
    (∀ p ∈ [LoadPhase.localRun, .watch, .starting],
      ((plant day (only 12 p .localRun)).permits 3, ((plant day (only 12 p .localRun)).load 12).phase) = (15, p)) ∧
    (∀ p ∈ [LoadPhase.stopping 5990, .off, .queued, .override, .fault .noStop],
      ((plant day (only 12 p .localRun)).permits 3, ((plant day (only 12 p .localRun)).load 12).phase) = (14, p)) ∧
    12 = 4 * (3 : StationId).val + (0 : Fin 4).val := by decide +kernel

theorem test_link_run_probes_every_station :
    after .linkRun halted (fun t => (t.flm.toPoll, t.flm.inFlight.map fun x => (x.station, x.permitValid),
      (t.station 0).probeCount, (t.station 1).probeCount)) =
      some ([1, 2, 3], some (0, false), 7, 0) := by decide +kernel

/-- R136, R207: a reply is good with its CRC, station and tag right and any trailer; a byte short, a CRC with its bytes
the other way, another tag, another station or another lead byte make it bad, and so does a missing stop bit. -/
theorem test_reply_judged :
    let r : List Byte := [0x3C, 3, 7, 1, 1, 5, 0, 0, 0, 0xB3, 0xBB, 0x55]
    let chars := r.map (sentAs .none)
    judgeReply poll3 r = some (readings 1 1 5 0 0 0) ∧ judgeReply poll3 (r.take 11) = none ∧
    judgeReply poll3 ((r.set 9 0xBB).set 10 0xB3) = none ∧ judgeReply { poll3 with tag := 8 } r = none ∧
    judgeReply { poll3 with station := 2 } r = none ∧ judgeReply poll3 (r.set 0 0xC3) = none ∧
    goodChars poll3 chars = true ∧ goodChars poll3 (chars.set 11 { value := 0x55, ninth := false, tenth := true }) =
      false := by decide +kernel

/-- The states of the clauses on a row that does nothing: no transaction in flight, and a reply judged otherwise. -/
theorem test_witness_FailedPoll_idle :
    inDay.flm.inFlight = none ∧ (polling {} []).flm.inFlight = some poll3 ∧ judgeReply poll3 [] = none ∧
    goodChars poll3 (reply3.map (sentAs .none)) = true := by decide +kernel

theorem test_witness_FailedPoll :
    let s := polling { grade := .suspect, err := 247 } [0]
    (s.working = true ∧ s.flm.inFlight = some poll3 ∧ goodChars poll3 [] = false ∧
      s.flm.toPoll = [0] ∧ s.polled 0 = true ∧ (s.station 3).grade ≠ .offline ∧
      min 255 ((s.station 3).err + 8) = 255 ∧ s.inUse 12 = true ∧ stationOf 12 = 3) ∧
    ((polling offline []).flm.inFlight = some poll3 ∧ ((polling offline []).station 3).grade = .offline ∧
      (polling offline []).flm.toPoll = []) := by decide +kernel

theorem test_failing_plant_loads_are_sound : (polling { grade := .suspect, err := 247 } [0]).LoadsOk := by
  decide +kernel

theorem test_witness_GoodReply :
    let back := polling { offline with goodRun := 15 } [] .unreachable
    judgeReply poll3 reply3 = some (readings 1 1 5 0 0 0) ∧
    ((polling {} []).working = true ∧ (polling {} []).flm.inFlight = some poll3 ∧
      ((polling {} []).station 3).grade ≠ .offline ∧ ((polling {} []).station 3).missed = 0 ∧
      (polling {} []).inUse 12 = true ∧ ((polling {} []).load 12).phase.running = true) ∧
    (back.flm.inFlight = some poll3 ∧ (back.station 3).grade = .offline ∧ back.recoversAuto 3 = true ∧
      (back.station 3).goodRun = 15 ∧ (back.load 12).phase = .unreachable) ∧
    ((polling { offline with goodRun := 14 } []).recoversAuto 3 = true) ∧
    ((lost offline).flm.inFlight = some poll3 ∧ (lost offline).recoversAuto 3 = false ∧
      ((lost offline).station 3).recoverArmed = false) := by decide +kernel

/-- DAY with a transaction in flight to station 3, and this record for its load 12, queued or starting as its state
says. -/
def hearing12 (r : LoadRecord) (station : Station := {}) : State :=
  let s := polling station [] r.phase
  { s with
    loads := s.loads.set 12 r
    dgv := { s.dgv with
      startingOrigin := if r.phase = .starting then s.dgv.startingOrigin.set 12 (some .command)
        else s.dgv.startingOrigin
      queue := if r.phase = .queued then [{ load := 12, origin := .command, key := 4, seq := 0 }] else [] } }

/-- A record one reading short of a change of its feedback. -/
def turning (phase : LoadPhase) (feedback : Bool) : LoadRecord :=
  { phase := phase, feedback := feedback, filterCount := 1, lastActivity := 5990
    startedAt := if phase = .starting then some 5950 else none }

/-- A good reply of station 3 whose channels are off. -/
def silent3 : List Byte := replyFrame 3 7 0 0 0 0 0 0 0

theorem test_hearing_plants_are_sound :
    (∀ p ∈ [LoadPhase.stopping 5990, .fault .noStop, .override, .localRun, .starting],
      (hearing12 (turning p true)).LoadsOk) ∧
    ∀ p ∈ [LoadPhase.starting, .off, .queued, .fault .noStart], (hearing12 (turning p false)).LoadsOk := by
  constructor
  all_goals decide +kernel

/-- The states meet what the clauses of the statement ask, and the reply turns their feedback. -/
theorem test_witness_GoodReply_loads :
    judgeReply poll3 silent3 = some (readings 0 0 0 0 0 0) ∧
    (∀ p ∈ [LoadPhase.stopping 5990, .fault .noStop, .override, .localRun, .starting],
      let s := hearing12 (turning p true)
      s.flm.inFlight = some poll3 ∧ s.inUse 12 = true ∧ (s.load 12).phase = p ∧
      (s.load 12).feedback = true ∧ (s.config 12).feedbackFilter ≤ (s.load 12).filterCount + 1) ∧
    (∀ p ∈ [LoadPhase.starting, .off, .queued, .fault .noStart],
      let s := hearing12 (turning p false)
      s.flm.inFlight = some poll3 ∧ (s.load 12).phase = p ∧
      (s.load 12).feedback = false ∧ (s.config 12).feedbackFilter ≤ (s.load 12).filterCount + 1) ∧
    (let s := hearing12 (turning .starting true)
    (s.load 12).startedAt = some 5950 ∧ (s.config 12).accelS ≤ s.now - 5950 ∧
      5950 + (s.config 12).startTimeoutS ≤ s.now ∧ 1 ≤ (s.config 12).idleMin ∧ s.offCount 12 = 0) ∧
    (let s := hearing12 (turning .localRun true)
    s.inWindow 12 = false ∧ 0 < (s.config 12).runKw) := by decide +kernel

/-- R32, R33, R37, R38, R40: what the feedback of a good reply makes of a load, and R92: the fall of D starts a
scan. -/
theorem test_feedback_ends_and_begins_states :
    let goes (p : LoadPhase) := after (.pollReplyGood silent3) (hearing12 (turning p true)) fun t =>
      ((t.load 12).phase, (t.load 12).stoppedAt)
    let comes (p : LoadPhase) := after (.pollReplyGood reply3) (hearing12 (turning p false)) fun t =>
      ((t.load 12).phase, t.dgv.queue.length)
    goes (.stopping 5990) = some (.off, some 6000) ∧ goes (.fault .noStop) = some (.off, some 6000) ∧
    goes .override = some (.off, some 6000) ∧ goes .starting = some (.fault .noStart, none) ∧
    comes .starting = some (.localRun, 0) ∧ comes .off = some (.override, 0) ∧
    comes .queued = some (.override, 0) ∧ comes (.fault .noStart) = some (.override, 0) ∧
    after (.pollReplyGood silent3) (hearing12 (turning .localRun true)) (fun t => t.dgv.scanDue) = some true := by
  decide +kernel

/-- Load 12 lost with station 3, the reply in flight to be the sixteenth good one, and stations 0 and 1 to come. -/
def returning (m : ModeState) (rest : LoadPhase) (holds : List Hold) : State :=
  let s := holding (plant m (only 12 .unreachable rest)) holds 9
  { s with flm := (polling { offline with goodRun := 15 } [0, 1]).flm }

/-- The same with nothing that needs load 12. -/
def alone (s : State) : State := needing 2 [] (needing 1 [] (needing 0 [] s))

/-- A KEEP_OFF of the supervisor's on load 12. -/
def off12 : Hold := byHand 8 .keepOff (.load 12) none

theorem test_returning_plants_are_sound :
    (returning day .localRun []).LoadsOk ∧ (returning night .watch [off12]).LoadsOk ∧
    (alone (returning day .localRun [off12])).LoadsOk := by
  refine ⟨?_, ?_, ?_⟩
  all_goals decide +kernel

/-- The states meet what the clauses on a return ask: with no KEEP_OFF, with one while loads that run need load 12, and
with one while none needs it. -/
theorem test_witness_GoodReply_return :
    (∀ s ∈ [returning day .localRun [], returning night .watch [off12], alone (returning day .localRun [off12])],
      s.working = true ∧ s.flm.inFlight = some poll3 ∧ (s.station 3).grade = .offline ∧ s.recoversAuto 3 = true ∧
      (s.station 3).goodRun = 15 ∧ s.inUse 12 = true ∧ stationOf 12 = 3 ∧ (s.load 12).phase = .unreachable ∧
      1 ≤ (s.config 12).idleMin ∧ s.mode ≠ .wake ∧ s.flm.toPoll = [0, 1] ∧ s.polled 0 = true) ∧
    (returning day .localRun []).offCount 12 = 0 ∧
    (let s := returning night .watch [off12]
    0 < s.offCount 12 ∧ s.inUse 0 = true ∧ .load 12 ∈ (s.config 0).needs ∧ (s.load 0).phase.running = true) ∧
    (let s := alone (returning day .localRun [off12])
    0 < s.offCount 12 ∧ (∀ j, s.inUse j = true → .load 12 ∉ (s.config j).needs) ∧ (s.config 12).group = none) := by
  decide +kernel

/-- R46: the load returns LOCAL in DAY and WATCH in NIGHT; under a KEEP_OFF it waits with stop_pending for the loads
that need it, or stops at once; R134: station 0 is polled next, all its loads permitted. -/
theorem test_lost_loads_return :
    let back (s : State) := after (.pollReplyGood reply3) s fun t =>
      ((t.load 12).phase, (t.load 12).stopPending, (t.load 12).changed, (t.load 12).lastActivity)
    back (returning day .localRun []) = some (.localRun, false, true, 6000) ∧
    back (returning night .watch []) = some (.watch, false, true, 6000) ∧
    back (returning night .watch [off12]) = some (.watch, true, true, 6000) ∧
    back (alone (returning day .localRun [off12])) = some (.stopping 6000, false, true, 6000) ∧
    after (.pollReplyGood reply3) (returning day .localRun []) (fun t => (t.flm.toPoll, t.flm.inFlight)) =
      some ([1], some { station := 0, tag := 0, permitValid := true, permits := 15, timeoutMs := 20 }) := by
  decide +kernel

/-- R140: from 64 a good reply makes a SUSPECT station ONLINE, with a scan, and from 65 not yet. -/
theorem test_suspect_station_recovers :
    let heard (err : Nat) := after (.pollReplyGood reply3) (hearing12 (turning .localRun true)
      { grade := .suspect, err := err }) fun t => ((t.station 3).grade, t.atl.details[1], t.dgv.scanDue)
    heard 64 = some (.online, some (.station 3), true) ∧ heard 65 = some (.suspect, none, false) := by decide +kernel

/-- R25: a silence of 60 s advances last_activity by as much, but not past the present second. -/
theorem test_silence_advances_activity :
    let s := polling { missed := 2, lastGood := some 5940 } []
    let old : State := { s with loads := s.loads.set 12 { phase := .localRun, lastActivity := 5900 } }
    after (.pollReplyGood (replyFrame 3 7 1 0 0 0 0 0 0)) old (fun t => (t.load 12).lastActivity) = some 5960 ∧
    after (.pollReplyGood (replyFrame 3 7 1 0 0 0 0 0 0)) s (fun t => (t.load 12).lastActivity) = some 6000 := by
  decide +kernel

theorem test_witness_ErrorCounter :
    let s := polling { err := 248 } []
    (s.working = true ∧ s.flm.inFlight = some poll3 ∧ (s.station 3).grade ≠ .offline ∧
      after .replyTimeout s (fun t => (t.station 3).err) = some 255) ∧
    (judgeReply poll3 reply3 = some (readings 1 1 5 0 0 0) ∧
      after (.pollReplyGood reply3) (polling {} []) (fun t => (t.station 3).err) = some 0) ∧
    ((polling offline []).flm.inFlight = some poll3 ∧
      after .replyTimeout (polling offline []) (fun t => ((t.station 3).grade, (t.station 3).err)) =
        some (.offline, 255)) := by decide +kernel

theorem test_witness_AttentionLineAndAck :
    inDay.working = true ∧ State.reset.atl.pending.getLsbD (Detail.store true false).cause.index = true ∧
    ({ inDay with cfg := { hall with enable := 0x7F } } : State).cfg.enable.getLsbD
      (Detail.store true false).cause.index = false ∧
    State.reset.canServe (.ackAttention 0x80) = true ∧ inDay.canServe (.ackAttention 0x80) = true := by
  decide +kernel

theorem test_witness_SaveAndReset :
    (inSetup.canServe .save = true ∧ inSetup.saving = false ∧ inSetup.mode = .setup) ∧
    (inDay.canServe .save = true ∧ inDay.mode = .day) ∧
    (inNight.canServe .save = true ∧ inNight.saving = false ∧ inNight.mode ≠ .setup ∧ inNight.mode ≠ .day) ∧
    (inNight.canServe .reset = true) ∧
    ((saving .erasing).working = true ∧ (saving .erasing).cfs.phase = .erasing) ∧
    (saving .writing).cfs.phase = .writing ∧ (saving .checking).cfs.phase = .checking := by decide +kernel

theorem test_save_ends :
    after (.checkingComplete .agrees) (saving .checking)
      (fun t => (t.cfs.image, t.cfs.outcome, t.atl.pending, t.cfs.storage.mark)) =
      some (.good, .success, 0x80, true) ∧
    after (.checkingComplete .markWrong) (saving .checking)
      (fun t => (t.cfs.image, t.cfs.outcome, t.atl.details[7])) =
      some (.bad, .fault, some (.store false false)) := by decide +kernel

theorem test_witness_CommandReset :
    let r : Result := { code := 0x71, status := .ok, after := .carryOutReset }
    (port (.answering r)).working = true ∧ (port (.answering r)).svp.receiver = .answering r ∧
    r.after = .carryOutReset ∧ (port (.answering r)).cfs.storage.image? = none ∧
    (port (.answering r) (stored inDay)).cfs.storage.image? = some hall :=
  ⟨by decide +kernel, rfl, rfl, Storage.image?_of_no_mark rfl, Storage.image?_of_written rfl rfl⟩

/-- The plant's idle times are all above 0, as the clause on the Governor asks, and the reset leaves its queue empty
and nothing pending; a good image without a schedule enters DAY. -/
theorem test_command_reset_afresh :
    (∀ n : LoadId, hall.loads[n].inUse = true → 1 ≤ hall.loads[n].idleMin) ∧
    ((queued12.toPart.commandResetFrom none).dgv = {} ∧ (queued12.toPart.commandResetFrom none).atl = {}) ∧
    ((queued12.toPart.commandResetFrom (some hall)).dgv =
      { ceilingI := { value := 1200 }, ceilingD := { value := 700 } } ∧
      (queued12.toPart.commandResetFrom (some hall)).ncc.mode = .day none none ∧
      (queued12.toPart.commandResetFrom (some hall)).validate = none ∧
      (queued12.toPart.commandResetFrom (some hall)).scheduled = false) := by decide +kernel

/-- The image's plant under a clock: what a RESET command classifies (R127, R130). -/
def reloaded (minute : Nat) : Part :=
  { cfg := hall, ncc := { uptime := 6000, clock := { valid := true, minute := minute } } }

/-- Monday 10:00 is DAY, 22:15 in the warning of 22:30, 22:45 in NIGHT with its wake_begin ahead; and on Tuesday 05:20
the wake_begin of 05:30 is past, and the next warning is not. -/
theorem test_witness_CommandReset_classes :
    (∀ minute : Fin 4, let u := reloaded ([600, 1335, 1365, 1760].getD minute.val 0)
      u.validate = none ∧ u.scheduled = true ∧ u.ClockOk) ∧
    (reloaded 600).classify = .day ∧ (reloaded 1335).classify = .windDown 6900 ∧
    ((reloaded 1365).classify = .night { minute := 1770, at_ := 30300 } ∧
      wakeBeginFor (reloaded 1365).wakeTarget 900 = some 29400) ∧
    ((reloaded 1760).classify = .night { minute := 1770, at_ := 6600 } ∧
      wakeBeginFor (reloaded 1760).wakeTarget 900 = some 5700 ∧
      (reloaded 1760).nextNight none = some { nightStart := 67800, warnStart := 66600 }) := by decide +kernel

/-- What the reset makes of them: the mode, the one cause pending, and CMP-1's state (R128, R130, R48). -/
theorem test_command_reset_classifies :
    let reset (minute : Nat) := (atMinute minute queued12).toPart.commandResetFrom (some hall)
    let seen (t : Part) := (t.ncc.mode, t.atl.pending, (t.load 0).phase)
    seen (reset 600) = (.day (some { nightStart := 51000, warnStart := 49800 }) none, 0, .localRun) ∧
    seen (reset 1335) = (.windDown 6900 true, 0x20, .watch) ∧
    seen (reset 1365) = (.night (some { minute := 1770, at_ := 30300 }) (some 29400) 900, 0x20, .watch) ∧
    seen (reset 1760) = (.day (some { nightStart := 67800, warnStart := 66600 }) none, 0x20, .localRun) := by
  decide +kernel

theorem test_witness_SupplyAndResetLine :
    let line : State := { inDay with power := { resetLow := true } }
    let both : State := { inDay with power := { supplyLow := true, resetLow := true } }
    ((saving .checking).working = true ∧ (saving .checking).cfs.phase = .checking) ∧
    (held.working = false ∧ line.working = false) ∧
    both.power = { supplyLow := true, resetLow := true } ∧
    (inDay.power.supplyLow = false ∧ inDay.power.resetLow = false) ∧
    (held.power = { supplyLow := true, resetLow := false } ∧ held.cfs.storage.image? = none) ∧
    (line.power = { supplyLow := false, resetLow := true } ∧ (stored line).cfs.storage.image? = some hall) := by
  refine ⟨?_, ?_, rfl, ⟨rfl, rfl⟩, ⟨rfl, Storage.image?_of_no_mark rfl⟩, ⟨rfl, test_stored_image _⟩⟩ <;>
    decide +kernel

/-- With both causes present the end of one leaves the part held, and the end of the other resets it (R204). -/
theorem test_last_cause_ends_the_hold :
    let both : State := { inDay with power := { supplyLow := true, resetLow := true } }
    after .powerOn both (fun t => (t.working, t.now)) = some (false, 6000) ∧
    after .resetLineRelease { both with power := { resetLow := true } } (fun t => t.power) = some {} := by
  decide +kernel

theorem test_witness_StoreStaysSound :
    (saving .erasing).StoreOk ∧ (saving .checking).StoreOk ∧ (stored inDay).StoreOk := by
  refine ⟨?_, ⟨?_, ?_, ?_, fun _ => ⟨rfl, test_saved_sum_is_right⟩, ?_⟩, ?_, fun _ => ?_, ?_⟩
  case refine_7 => rw [test_stored_image]; rfl
  all_goals decide +kernel

theorem test_witness_RecordsStayInRange : (stored inDay).RecordsOk := by
  refine ⟨⟨?_, ?_, ?_, ?_, ?_, ?_, ?_, ?_, ?_, ?_⟩, ?_, ?_, ?_⟩
  case refine_13 =>
    intro c h
    obtain rfl : c = hall := by simpa [stored] using h
    refine ⟨?_, ?_, ?_, ?_, ?_, ?_, ?_, ?_, ?_, ?_⟩ <;> decide +kernel
  case refine_12 => intro c h; simp [stored] at h
  all_goals decide +kernel

theorem test_clock_stays_in_range :
    (atMinute 10079 inDay).ClockOk ∧ State.reset.ClockOk ∧
    after .uptimeSecond (atMinute 10079 inDay) (fun t => decide t.ClockOk) = some true := by decide +kernel

theorem test_witness_UptimeSecond :
    inDay.working = true ∧ inDay.ncc.clock.valid = false ∧
    after .uptimeSecond { inDay with ncc := { mode := day, uptime := 6059, clock := { valid := true, minute := 10079, second := 59 } } }
      (fun t => (t.now, t.ncc.clock, t.ncc.minuteDue, t.ncc.intervalDue)) =
      some (6060, { valid := true, minute := 0, second := 0 }, true, true) := by decide +kernel

theorem test_witness_MinuteBoundary :
    let s : State := { inNight with ncc := { mode := .night (some { minute := 1770, at_ := 106200 }) none 0,
                                             uptime := 6000, minuteDue := true } }
    let soon : State := { s with ncc := { s.ncc with mode := .night (some { minute := 330, at_ := 6060 }) none 0 } }
    let asks : State := lineAt (.call 0) highLine
      { inWindDown with ncc := { inWindDown.ncc with minuteDue := true } }
    let own : Hold := { byHand 7 .keepOn (.group 0) (some 110) with owner := .call 0 }
    inNight.working = true ∧ inNight.ncc.minuteDue = false ∧
    (s.working = true ∧ s.ncc.minuteDue = true ∧
      s.ncc.mode = .night (some { minute := 1770, at_ := 106200 }) none 0 ∧ s.callsAsking = [] ∧
      wakeBeginFor (some { minute := 1770, at_ := 106200 }) s.leadSeconds = some 105180) ∧
    (wakeBeginFor (some { minute := 330, at_ := 6060 }) soon.leadSeconds = some 5040 ∧ 5040 ≤ soon.now ∧
      soon.sweeps 12 ∧ ∀ l : CallId, (soon.lin.call[l]).level ≠ .active) ∧
    (asks.working = true ∧ asks.ncc.minuteDue = true ∧ asks.callsAsking = [0] ∧ asks.mode ≠ .night ∧
      (asks.group 0).inUse = true ∧ 1 ≤ asks.cfg.calls[0].callMin ∧ asks.cfg.calls[0].callMin ≤ 900 ∧
      asks.matching .keepOn (.group 0) (.call 0) = none ∧ asks.holds.length < 48 ∧
      asks.keepOnConflict (.group 0) = false) ∧
    (holding asks [own] 8).matching .keepOn (.group 0) (.call 0) = some own ∧
      (holding asks [own] 8).callsAsking = [0] := by decide +kernel

/-- A minute boundary due, call lines 0 and 1 both active and asking for group 0, and these holds live. -/
def twoAsk (m : ModeState) (holds : List Hold) (next : Nat) : State :=
  let s := lineAt (.call 1) highLine (lineAt (.call 0) highLine (holding (plant m fun _ => .watch) holds next))
  { s with
    cfg := { hall with calls := hall.calls.set 1 { inUse := true, group := 0, callMin := 5, callSamples := 200 } }
    ncc := { s.ncc with minuteDue := true } }

/-- A hold of a call line on group 0, placed at uptime minute 100. -/
def byCall (id : Nat) (l : CallId) : Hold :=
  { id := id, kind := .keepOn, target := .group 0, owner := .call l, expiry := some 101, placedAt := 100
    renewals := 0, reason := 0 }

def warn : ModeState := .windDown 7000 true

theorem test_witness_MinuteBoundary_lines :
    let one : State := lineAt (.call 0) highLine { inNight with ncc := { mode := night, uptime := 6000, minuteDue := true } }
    let s := twoAsk warn [] 1
    let both := twoAsk warn [byCall 7 0, byCall 8 1] 9
    let near := twoAsk warn (tableFull.take 47) 49
    (one.callsAsking = [0] ∧ one.ncc.mode = .night none none 0 ∧
      one.matching .keepOn (.group 0) (.call 0) = none ∧ one.keepOnConflict (.group 0) = false) ∧
    (holding one [byCall 7 0] 8).matching .keepOn (.group 0) (.call 0) = some (byCall 7 0) ∧
    wakeBeginFor none one.leadSeconds = none ∧
    (s.callsAsking = [0, 1] ∧ (s.group 0).inUse = true ∧ s.cfg.calls[1].callMin = 5 ∧
      s.matching .keepOn (.group 0) (.call 0) = none ∧ s.matching .keepOn (.group 0) (.call 1) = none ∧
      s.keepOnConflict (.group 0) = false) ∧
    (both.callsAsking = [0, 1] ∧
      both.matching .keepOn (.group 0) (.call 0) = some (byCall 7 0) ∧
      both.matching .keepOn (.group 0) (.call 1) = some (byCall 8 1)) ∧
    (near.callsAsking = [0, 1] ∧ near.holds.length = 47 ∧ near.keepOnConflict (.group 0) = false ∧
      near.matching .keepOn (.group 0) (.call 1) = none) := by decide +kernel

theorem test_asking_tables_are_sound :
    (twoAsk warn [] 1).HoldsOk ∧ (twoAsk warn [byCall 7 0, byCall 8 1] 9).HoldsOk ∧
      (twoAsk warn (tableFull.take 47) 49).HoldsOk :=
  ⟨by decide +kernel, by decide +kernel, by decide +kernel⟩

/-- R160, R162: two lines place two holds in ascending number, renew their own, or find one place left. -/
theorem test_two_lines_ask :
    let ids (s : State) := after .uptimeMinuteBoundary s fun t => t.holds.map fun h => (h.id, h.expiry, h.renewals)
    ids (twoAsk warn [] 1) = some [(1, some 130, 0), (2, some 105, 0)] ∧
    ids (twoAsk warn [byCall 7 0, byCall 8 1] 9) = some [(7, some 130, 1), (8, some 105, 1)] ∧
    after .uptimeMinuteBoundary (twoAsk warn (tableFull.take 47) 49)
      (fun t => (t.holds.length, t.atl.details[3])) = some (48, some (.callRefused 0 true)) := by decide +kernel

/-- R157: the lamp of a panel whose hold is live begins another pattern at its boundary. -/
theorem test_boundary_chooses_the_lamp :
    let s : State := { holding inDay [byPanel 7] 8 with ncc := { mode := day, uptime := 6000, minuteDue := true } }
    (s.callsAsking = [] ∧ s.mode = .day ∧ (s.lin.lamps[0]).pattern = .off ∧ s.lampPattern 0 ≠ .off) ∧
    after .uptimeMinuteBoundary s (fun t => (t.lin.lamps[0]).phaseMs) = some 0 := by decide +kernel

theorem test_witness_HoldExpiry :
    let s := holding inNight [byHand 7 .keepOff (.load 2) none, byHand 8 .keepOff (.load 3) (some 100)] 9
    (({ inNight with ncc := { mode := night, uptime := 6001 } } : State).now % 60 ≠ 0 ∧ State.reset.now = 0) ∧
    (s.working = true ∧ 0 < s.now ∧ s.now % 60 = 0 ∧ s.HoldsOk ∧
      after .holdExpiry s (fun t => (t.holds.map fun h => h.id, t.atl.details[4])) =
        some ([7], some (.holdRetired 8))) := by decide +kernel

/-- The plants of test_witness_FollowsRetirement stand at a boundary where hold 7 alone expires. -/
theorem test_witness_HoldExpiry_alone :
    (idleHeld.working = true ∧ 0 < idleHeld.now ∧ idleHeld.now % 60 = 0) ∧
    ∀ s ∈ [pending12, keptAir, backed12 true, backed12 false, backedAir, idleHeld, idleAir],
      (s.expiring.map Hold.id) = [7] := by decide +kernel

theorem test_witness_LoadDeadlines :
    let stop := nightWith 12 (.stopping 5940) true
    (stop.working = true ∧ (stop.load 12).phase = .stopping 5940 ∧
      5940 + (stop.config 12).stopTimeoutS ≤ stop.now) ∧
    ((nightWith 12 (.stopping 5941) true).now < 5941 + ((nightWith 12 (.stopping 5941) true).config 12).stopTimeoutS) ∧
    (((starting12 false).load 12).phase = .starting ∧ ((starting12 false).load 12).startedAt = some 5950 ∧
      5950 + ((starting12 false).config 12).startTimeoutS ≤ (starting12 false).now ∧
      ((starting12 false).load 12).feedback = false) ∧
    (((starting12 true).config 12).accelS ≤ (starting12 true).now - 5950 ∧ (starting12 true).offCount 12 = 0 ∧
      ((starting12 true).load 12).feedback = true ∧ 1 ≤ ((starting12 true).config 12).idleMin) ∧
    (idleFan.idleStopDue 9 = true ∧ idleFan.now = (idleFan.load 9).lastActivity + 60 * (idleFan.config 9).idleMin) ∧
    inDay.mode ≠ .night := by decide +kernel

/-- R92: the stop of an idle load that was up lowers D, which starts a scan. -/
theorem test_idle_stop_starts_a_scan :
    ((idleFan.load 9).feedback = true ∧ idleFan.inWindow 9 = false ∧ 0 < (idleFan.config 9).runKw) ∧
    after (.idleExpiry 9) idleFan (fun t => t.dgv.scanDue) = some true := by decide +kernel

/-- Load 12 at its stop deadline with its feedback off, a queued load needing it. -/
def failing12 : State :=
  let s := needing 9 [.load 12] (nightWith 12 (.stopping 5940) false)
  { s with
    loads := s.loads.set 9 { phase := .queued }
    dgv := { s.dgv with queue := [{ load := 9, origin := .command, key := 4, seq := 0 }], nextSeq := 1 } }

/-- Load 12 at the end of its window, kept off, its station as given. -/
def kept12 (station : Station) : State :=
  { holding (starting12 true) [byHand 7 .keepOff (.load 12) none] 8 with
    flm := { stations := (Vector.replicate 16 {}).set 3 station } }

def suspect : Station := { grade := .suspect, err := 96 }

theorem test_witness_LoadDeadlines_others :
    ((failing12.load 9).phase = .queued ∧ .load 12 ∈ (failing12.config 9).needs ∧
      (failing12.load 12).phase = .stopping 5940 ∧ (failing12.load 12).feedback = false) ∧
    (0 < (kept12 {}).offCount 12 ∧ (kept12 {}).stopConditions 12 = true) ∧
    (0 < (kept12 suspect).offCount 12 ∧ (kept12 suspect).stopConditions 12 = false ∧
      ((kept12 suspect).load 12).phase = .starting) := by decide +kernel

/-- R33: an unanswered stop deadline is FAULT(NO_STOP) with the feedback off too, and who needs the load is
withdrawn (R84). -/
theorem test_stop_deadline_without_feedback :
    after (.stopDeadline 12) failing12 (fun t => ((t.load 12).phase, (t.load 9).phase)) =
      some (.fault .noStop, .off) := by decide +kernel

theorem test_kept_off_at_the_windows_end :
    after (.inrushWindowEnd 12) (kept12 {}) (fun t => (t.load 12).phase) = some (.stopping 6000) ∧
    after (.inrushWindowEnd 12) (kept12 suspect) (fun t => ((t.load 12).phase, (t.load 12).stopPending)) =
      some (.watch, true) := by decide +kernel

theorem test_deadline_plants_are_sound :
    (nightWith 12 (.stopping 5940) true).LoadsOk ∧ (starting12 false).LoadsOk ∧ (starting12 true).LoadsOk ∧
      idleFan.LoadsOk ∧ failing12.LoadsOk ∧ (kept12 {}).LoadsOk ∧ (kept12 suspect).LoadsOk :=
  ⟨by decide +kernel, by decide +kernel, by decide +kernel, by decide +kernel, by decide +kernel, by decide +kernel,
    by decide +kernel⟩

theorem test_witness_PlainTimersAndEdges_timers :
    let s : State := { inDay with
      loads := inDay.loads.set 12
        { phase := .localRun, activityCount := 1, activityWindow := some 5940, startHistory := [2400, 2401] } }
    let m : State := { inDay with ncc := { mode := .day none (some 5999), uptime := 6000 } }
    s.working = true ∧ (s.load 12).activityWindow = some 5940 ∧ (s.load 0).activityWindow = none ∧
    after (.startHistoryAgeOut 12) s (fun t => (t.load 12).startHistory) = some [2401] ∧
    m.ncc.mode = .day none (some 5999) := by decide +kernel

theorem test_witness_ModeDeadlines :
    let d := plant (.day (some { nightStart := 7200, warnStart := 6000 }) none) fun _ => .localRun
    let e := plant (.day (some { nightStart := 7201, warnStart := 6001 }) none) fun _ => .localRun
    let f := plant (.day (some { nightStart := 6000, warnStart := 4800 }) none) fun _ => .localRun
    let w := plant (.windDown 6000 true) fun _ => .watch
    let v := atMinute 329 (plant (.windDown 6000 true) fun _ => .off)
    let n := plant (.night (some { minute := 0, at_ := 6900 }) (some 6000) 900) fun _ => .off
    let m := plant (.night (some { minute := 0, at_ := 6900 }) (some 6000) 900) fun _ => .watch
    let g := plant (.wake (some 6000)) fun _ => .watch
    (d.working = true ∧ 6000 ≤ d.now ∧ 0 < d.cfg.active.warningMin ∧ d.now < 7200) ∧ e.now < 6001 ∧
    (4800 ≤ f.now ∧ 6000 ≤ f.now) ∧ (w.ncc.mode = .windDown 6000 true ∧ 6000 ≤ w.now) ∧
    (v.ncc.mode = .windDown 6000 true ∧ v.quiet ∧ v.wakeTarget = some { minute := 330, at_ := 6060 } ∧
      wakeBeginFor (some { minute := 330, at_ := 6060 }) v.leadSeconds = some 5040 ∧ v.sweeps 12) ∧
    (n.ncc.mode = .night (some { minute := 0, at_ := 6900 }) (some 6000) 900 ∧ n.sweeps 12) ∧
    (m.ncc.mode = .night (some { minute := 0, at_ := 6900 }) (some 6000) 900 ∧ m.sweepsNone ∧ m.wakeWork = false) ∧
    (g.ncc.mode = .wake (some 6000) ∧ 6000 ≤ g.now) := by decide +kernel

theorem test_witness_ModeDeadlines_next :
    let f := atMinute 1350 (plant (.day (some { nightStart := 6000, warnStart := 4800 }) none) fun _ => .localRun)
    let w := plant (.windDown 6000 true) fun _ => .watch
    let g := plant (.wake (some 6000)) fun _ => .watch
    (f.nightStays ∧ w.nightStays) ∧ g.dayStays none ∧
    ((atMinute 1340 g).dayNight none = some { nightStart := 6600, warnStart := 5400 } ∧ 5400 ≤ g.now ∧ g.now < 6600) :=
  ⟨⟨Part.nightStays_of_some (b := 30300) (by decide +kernel) (by decide +kernel),
      Part.nightStays_of_none (by decide +kernel)⟩,
    Part.dayStays_of_none (by decide +kernel), by decide +kernel⟩

/-- The sleeping plants of SET MODE, the minute boundary and the deadlines are sound. -/
theorem test_sleeping_plants_are_sound :
    (plant (.night (some { minute := 0, at_ := 6900 }) (some 6000) 900) fun _ => .off).LoadsOk ∧
    (atMinute 329 (plant (.windDown 6000 true) fun _ => .off)).LoadsOk ∧
    ({ inNight with ncc := { mode := .night (some { minute := 330, at_ := 6060 }) none 0, uptime := 6000
                             minuteDue := true } } : State).LoadsOk :=
  ⟨by decide +kernel, by decide +kernel, by decide +kernel⟩

/-- R122, R123: the wake_begin reached at the deadline of WIND_DOWN passes NIGHT on to WAKE. -/
theorem test_wind_down_passes_on_to_wake :
    after .warningDeadline (atMinute 329 (plant (.windDown 6000 true) fun _ => .off)) (fun t => t.ncc.mode) =
      some (.wake (some 7860)) := by decide +kernel

theorem test_witness_MeterInterval :
    let s : State := { inDay with
      ncc := { mode := day, uptime := 6000, intervalDue := true, clock := { valid := true, minute := 15 } }
      dgv := { energy := 248000, isPartial := false, ceilingD := { value := 700 } } }
    inDay.ncc.intervalDue = false ∧ s.working = true ∧ s.ncc.intervalDue = true ∧
    after .intervalBoundary s (fun t => (t.dgv.lastIntervalKw, t.atl.details[2])) =
      some (some 992, some (.demand 992)) ∧
    ((lineAt .meter lowLine inDay).lin.meter.level = .inactive ∧
      (lineAt .meter lowLine inDay).cfg.meter.meterSamples ≤ (lineAt .meter lowLine inDay).lin.meter.run) ∧
    (lineAt .meter highLine inDay).lin.meter.level = .active := by decide +kernel

/-- A line known low counts the samples that show it high, and a sample that does not sets the count to 0. -/
theorem test_witness_LineSample :
    let high : LineLevels := { keep := 1, clear := 0, call := 0, meter := false }
    let low : LineLevels := { high with keep := 0 }
    let s := lineAt (.key 0 .keep) { level := .inactive, run := 3 } inDay
    s.working = true ∧ after (.lineSample high) s (fun t => (t.lin.keep[0]).run) = some 4 ∧
    after (.lineSample low) s (fun t => (t.lin.keep[0]).run) = some 0 := by decide +kernel

/-- Table 7-2, R158: on for 500 ms of SLOW's second, 125 ms of FAST's quarter and 100 ms of WINK's two seconds. -/
theorem test_lamp_outputs :
    let lit (pattern : Pattern) (phase : Nat) :=
      after (.lineSample { keep := 0, clear := 0, call := 0, meter := false })
        { inDay with lin := { lamps := (Vector.replicate 8 {}).set 0 { pattern := pattern, phaseMs := phase } } }
        fun t => t.lampOutput 0
    (lit .slow 490 = some true ∧ lit .slow 495 = some false ∧ lit .slow 995 = some true) ∧
    (lit .fast 115 = some true ∧ lit .fast 120 = some false ∧ lit .fast 245 = some true) ∧
    (lit .wink 90 = some true ∧ lit .wink 95 = some false ∧ lit .wink 1995 = some true) ∧
    lit .steady 0 = some true ∧ lit .off 0 = some false := by decide +kernel

theorem test_witness_PlainTimersAndEdges :
    let k := lineAt (.key 0 .keep) { level := .active, run := 8 } inDay
    let c := lineAt (.call 0) { level := .active, run := 200 } inDay
    let u := lineAt .meter { level := .unknown, run := 2, previous := some true } inDay
    (k.working = true ∧ k.cfg.panels[0].inUse = true ∧ (k.lin.debounce (.key 0 .keep)).level = .active ∧
      k.cfg.panels[0].keySamples ≤ (k.lin.debounce (.key 0 .keep)).run) ∧
    (c.cfg.calls[0].inUse = true ∧ (c.lin.call[0]).level = .active ∧
      c.cfg.calls[0].callSamples ≤ (c.lin.call[0]).run) ∧
    (u.cfg.lineInUse .meter = true ∧ (u.lin.debounce .meter).level = .unknown ∧
      (u.lin.debounce .meter).previous = some true ∧ u.cfg.sampleCount .meter ≤ (u.lin.debounce .meter).run) ∧
    ((inDay.lin.debounce .meter).run < inDay.cfg.sampleCount .meter ∧
      (inDay.lin.keep[0]).run < inDay.cfg.panels[0].keySamples) := by decide +kernel

theorem test_witness_PanelKeys :
    let keep (s : State) := lineAt (.key 0 .keep) { level := .inactive, run := 8 } s
    let clear := lineAt (.key 0 .clear) { level := .inactive, run := 8 } (holding inNight [byPanel 7] 8)
    let full := keep (holding inNight tableFull 49)
    let deaf := keep { inNight with cfg := { hall with active := { weekday with nightPanels := false } } }
    let again := keep (holding inNight [byPanel 7] 8)
    let timed : State := { inNight with lin := { refusal := (Vector.replicate 8 none).set 0 (some 6000) } }
    ((keep inSetup).working = true ∧ (keep inSetup).cfg.panels[0].inUse = true ∧ (keep inSetup).mode = .setup ∧
      ((keep inSetup).lin.keep[0]).level = .inactive ∧
      (keep inSetup).cfg.panels[0].keySamples ≤ ((keep inSetup).lin.keep[0]).run) ∧
    (deaf.mode = .night ∧ deaf.cfg.active.nightPanels = false ∧ (deaf.lin.keep[0]).level = .inactive) ∧
    ((keep inNight).mode = .night ∧ (keep inNight).cfg.active.valid = true ∧
      (keep inNight).cfg.active.nightPanels = true ∧ ((keep inNight).zoneMembers 1).isEmpty = false ∧
      (keep inNight).matching .keepOn (.zone 1) (.panel 0) = none ∧ (keep inNight).holds.length < 48 ∧
      (keep inNight).keepOnConflict (.zone 1) = false ∧ 1 ≤ (keep inNight).cfg.panels[0].keepMin ∧
      (keep inNight).cfg.panels[0].keepMin ≤ 900) ∧
    again.matching .keepOn (.zone 1) (.panel 0) = some (byPanel 7) ∧
    (full.mode = .night ∧ full.matching .keepOn (.zone 1) (.panel 0) = none ∧ 48 ≤ full.holds.length) ∧
    ((clear.lin.clear[0]).level = .inactive ∧ clear.cfg.panels[0].keySamples ≤ (clear.lin.clear[0]).run ∧
      clear.HoldsOk) ∧
    (timed.lin.refusal[0] = some 6000 ∧ 6000 ≤ timed.now) := by decide +kernel

/-- A CLEAR press retires the panel's hold and withdraws what it queued. -/
theorem test_clear_press_withdraws :
    let s := lineAt (.key 0 .clear) { level := .inactive, run := 8 }
      (holding (plant night (only 6 .queued .off)) [byPanel 7] 8)
    let queued : State :=
      { s with dgv := { s.dgv with queue := [{ load := 6, origin := .hold, key := 4, seq := 0 }], nextSeq := 1 } }
    ((queued.holds.filter fun h => h.owner = .panel 0 && h.target = .zone 1) = [byPanel 7] ∧ queued.HoldsOk ∧
      queued.ClockOk ∧ queued.covers (.zone 1) 6 = true ∧ queued.onCount 6 = 1 ∧ queued.firstWanting 6 = none) ∧
    after (.clearPress 0) queued (fun t => ((t.load 6).phase, t.dgv.queue.length)) = some (.off, 0) := by
  decide +kernel

theorem test_clear_plant_is_sound :
    let s := lineAt (.key 0 .clear) { level := .inactive, run := 8 }
      (holding (plant night (only 6 .queued .off)) [byPanel 7] 8)
    ({ s with dgv := { s.dgv with queue := [{ load := 6, origin := .hold, key := 4, seq := 0 }], nextSeq := 1 } } :
      State).LoadsOk := by decide +kernel

/-- R54, R56: a press renews the panel's hold from the present minute; without night_panels NIGHT ignores it. -/
theorem test_keep_press_renews_or_is_ignored :
    let keep (s : State) := lineAt (.key 0 .keep) { level := .inactive, run := 8 } s
    let deaf : State := { inNight with cfg := { hall with active := { weekday with nightPanels := false } } }
    after (.keepPress 0) (keep (holding inNight [byPanel 7] 8))
      (fun t => t.holds.map fun h => (h.id, h.expiry, h.renewals)) = some [(7, some 220, 1)] ∧
    after (.keepPress 0) (keep deaf) (fun t => t.holds) = some [] := by decide +kernel

theorem test_witness_CallRisingEdge :
    let rise (s : State) := lineAt (.call 0) { level := .inactive, run := 200 } s
    let full := rise (holding inNight tableFull 49)
    ((rise inDay).working = true ∧ (rise inDay).cfg.calls[0].inUse = true ∧
      ((rise inDay).lin.call[0]).level = .inactive ∧
      (rise inDay).cfg.calls[0].callSamples ≤ ((rise inDay).lin.call[0]).run ∧ (rise inDay).callEffective 0 = false) ∧
    ((rise inNight).callEffective 0 = true ∧ ((rise inNight).group 0).inUse = true ∧
      (rise inNight).matching .keepOn (.group 0) (.call 0) = none ∧ (rise inNight).holds.length < 48 ∧
      (rise inNight).keepOnConflict (.group 0) = false ∧ 1 ≤ (rise inNight).cfg.calls[0].callMin ∧
      (rise inNight).cfg.calls[0].callMin ≤ 900) ∧
    (full.callEffective 0 = true ∧ full.matching .keepOn (.group 0) (.call 0) = none ∧ 48 ≤ full.holds.length ∧
      full.wakeSettled) := by decide +kernel

/-- A rising edge finds the line's own hold still live, and renews it for 30 minutes from minute 100. -/
theorem test_witness_CallRisingEdge_renews :
    let own : Hold := { byHand 7 .keepOn (.group 0) (some 110) with owner := .call 0 }
    let s := lineAt (.call 0) { level := .inactive, run := 200 } (holding inNight [own] 8)
    s.callEffective 0 = true ∧ (s.group 0).inUse = true ∧ 1 ≤ s.cfg.calls[0].callMin ∧
    s.cfg.calls[0].callMin ≤ 900 ∧ s.matching .keepOn (.group 0) (.call 0) = some own ∧
    after (.callRisingEdge 0) s (fun t => t.holds.map fun h => (h.id, h.expiry, h.renewals)) =
      some [(7, some 130, 1)] := by decide +kernel

theorem test_witness_OnlyItsCommandsChangeIt :
    Instr.uptimeSecond.mayReset = false ∧ Instr.uptimeSecond.mayChangeHolds = false ∧
    Instr.uptimeSecond.mayChangeStore = false ∧ Instr.uptimeSecond.actsWhileHeld = false ∧
    (after .uptimeSecond inDay fun t => t.now) = some 6001 := by decide +kernel

end Sys2Proof.Tests
end

section
/-! What stays standing while the plant runs: the two causes of the held condition, the store, uptime and the clock,
the records other than the plan slots, the port settings in effect and the last reset; and the plan slots up to an
exchange. Most rows keep all of it, and all but the rows of the Hold Table keep the holds too. -/

namespace Sys2Proof.Machine

/-! ## Running a request or an event -/

/-- A request leaves the part as it was, or as its rule leaves it with its answer in the receiver (R171, R172). -/
theorem request_cases {c : Instr} {rule : Part → Part × Answer} {s t : State} {P : Part → Prop}
    (h : request c rule s = .next t) (lost : P s.toPart)
    (served : P ((rule s.toPart).1.answer c (rule s.toPart).2)) : P t.toPart := by
  cases can : s.canServe c with
  | false => rw [request_lost can] at h; cases h; exact lost
  | true => rw [request_served can] at h; cases h; exact served

/-- An event leaves the part as it was, or as its handling leaves it (R203). -/
theorem event_cases {handle : Part → Part} {s t : State} {P : Part → Prop}
    (h : event handle s = .next t) (held : P s.toPart) (taken : P (handle s.toPart)) : P t.toPart := by
  cases works : s.working with
  | false => rw [event_held works] at h; cases h; exact held
  | true => rw [event_taken works] at h; cases h; exact taken

/-! ## The plan slots -/

/-- The plan slots hold the plans they held, or have exchanged them (R112). -/
def Settings.PlansFrom (a b : Settings) : Prop :=
  (b.active = a.active ∧ b.staged = a.staged) ∨ (b.active = a.staged ∧ b.staged = a.active)

theorem Settings.PlansFrom.refl (a : Settings) : a.PlansFrom a := .inl ⟨rfl, rfl⟩

theorem Settings.PlansFrom.of_eq {a b : Settings} (h : b = a) : a.PlansFrom b := h ▸ .refl a

theorem Settings.PlansFrom.trans {a b c : Settings} (h : a.PlansFrom b) (g : b.PlansFrom c) : a.PlansFrom c := by
  unfold Settings.PlansFrom at *
  obtain ⟨active, staged⟩ | ⟨active, staged⟩ := g <;> simpa only [active, staged, and_comm, or_comm] using h

theorem Part.chooseLamps_cfg (s : Part) : s.chooseLamps.cfg = s.cfg := by
  suffices ∀ (l : List PanelId) (s : Part), (l.foldl Part.chooseLamp s).cfg = s.cfg from this allPanels s
  intro l
  induction l with
  | nil => exact fun _ => rfl
  | cons p l ih => exact fun s => (ih _).trans (s.chooseLamp_cfg p)

theorem Part.tellMode_cfg (s : Part) (m : ModeState) : (s.tellMode m).cfg = s.cfg := Part.chooseLamps_cfg _

theorem Part.clearHolds_cfg (s : Part) : s.clearHolds.cfg = s.cfg := by
  unfold Part.clearHolds
  split
  · rfl
  · exact Part.chooseLamps_cfg _

theorem Part.enterNight_cfg (s : Part) : s.enterNight.1.cfg = s.cfg := by
  simp only [Part.enterNight]
  split
  · rfl
  · split
    · exact (Part.loadWork_takeChecks _ _ _).cfg
    · exact (Part.loadWork_takeChecks _ _ _).cfg

theorem Part.swapPlans_plans (s : Part) : s.cfg.PlansFrom s.swapPlans.cfg := .inr ⟨rfl, rfl⟩

theorem Part.enterDay_plans (s : Part) (late : Bool) (mark : Option Nat) :
    s.cfg.PlansFrom (s.enterDay late mark).1.cfg := by
  show s.cfg.PlansFrom (s.setLate late).swapIfArmed.cfg
  unfold Part.swapIfArmed
  split
  · exact Part.swapPlans_plans _
  · exact .refl _

/-- A mode change exchanges the plan slots, or leaves them (R112, R116). -/
theorem Part.applyMove_plans (s : Part) (m : Move) : s.cfg.PlansFrom (s.applyMove m).1.cfg := by
  cases m with
  | setup => exact .of_eq ((Part.clearHolds_cfg _).trans (Part.tellMode_cfg _ _))
  | day late mark =>
    exact (Settings.PlansFrom.of_eq (s.tellMode_cfg _)).trans ((s.tellMode (.day none none)).enterDay_plans late mark)
  | windDown deadline scheduled =>
    exact .of_eq (by simp only [Part.applyMove, Part.raiseMode, Part.raise_cfg, Part.tellMode_cfg])
  | night =>
    exact .of_eq (by
      simp only [Part.applyMove, Part.raiseMode, Part.raise_cfg, Part.enterNight_cfg, Part.tellMode_cfg])
  | wake grace atOnce =>
    exact .of_eq (by
      simp only [Part.applyMove, Part.raiseMode, Part.raise_cfg, (Part.loadWork_sweep _).cfg, Part.tellMode_cfg])

theorem Part.runMoves_plans (fuel : Nat) (s : Part) (m : Option Move) : s.cfg.PlansFrom (s.runMoves fuel m).cfg := by
  induction fuel generalizing s m with
  | zero => cases m <;> exact .refl _
  | succ fuel ih =>
    cases m with
    | none => exact .refl _
    | some m => exact (s.applyMove_plans m).trans (ih _ _)

theorem Part.changeMode_plans (s : Part) (m : Move) : s.cfg.PlansFrom (s.changeMode m).cfg := s.runMoves_plans 8 _

theorem Part.finish_plans (before after : Part) : after.cfg.PlansFrom (before.finish after).cfg := by
  have work := (before.loadWork_recheck after).trans (Part.loadWork_recomputeDemand before _)
  rw [Part.finish, Part.settleChecks_cfg, Part.wakeEndTest]
  split
  · exact (Settings.PlansFrom.of_eq work.cfg).trans (Part.changeMode_plans _ _)
  · exact .of_eq work.cfg

theorem Part.reclassify_plans (s : Part) : s.cfg.PlansFrom s.reclassify.cfg := by
  unfold Part.reclassify
  split
  · split <;> exact .refl _
  · split
    · exact .refl _
    · exact .refl _
    · exact s.changeMode_plans _
    · exact s.changeMode_plans _
    · exact s.changeMode_plans _
    · exact .refl _
    · exact s.changeMode_plans _
    · exact s.changeMode_plans _
    · exact Part.runMoves_plans 8 _ _
    · exact Part.runMoves_plans 8 _ _
    · dsimp only
      split
      · split
        · exact Part.changeMode_plans _ _
        · exact .refl _
      · exact .refl _

/-! ## What stays -/

/-- From s to t the two causes of the held condition, the store, uptime and the clock, the records other than the plan
slots, the port settings in effect and the last reset are kept, and the plan slots up to an exchange. -/
structure Part.KeepsStanding (s t : Part) : Prop where
  power : t.power = s.power
  cfs : t.cfs = s.cfs
  uptime : t.ncc.uptime = s.ncc.uptime
  clock : t.ncc.clock = s.ncc.clock
  records : t.cfg = { s.cfg with active := t.cfg.active, staged := t.cfg.staged }
  plans : s.cfg.PlansFrom t.cfg
  inEffect : t.svp.inEffect = s.svp.inEffect
  lastReset : t.svp.lastReset = s.svp.lastReset

/-- From s to t all of that is kept, and the holds with the next id (R53). -/
structure Part.KeepsHolds (s t : Part) : Prop extends Part.KeepsStanding s t where
  holds : t.holds = s.holds
  nextId : t.nextId = s.nextId

theorem Part.KeepsStanding.refl (s : Part) : s.KeepsStanding s := ⟨rfl, rfl, rfl, rfl, rfl, .refl _, rfl, rfl⟩

theorem Part.KeepsStanding.trans {s t u : Part} (h : s.KeepsStanding t) (g : t.KeepsStanding u) :
    s.KeepsStanding u where
  power := g.power.trans h.power
  cfs := g.cfs.trans h.cfs
  uptime := g.uptime.trans h.uptime
  clock := g.clock.trans h.clock
  records := by have a := g.records; rw [h.records] at a; exact a
  plans := h.plans.trans g.plans
  inEffect := g.inEffect.trans h.inEffect
  lastReset := g.lastReset.trans h.lastReset

theorem Part.KeepsHolds.refl (s : Part) : s.KeepsHolds s := ⟨.refl s, rfl, rfl⟩

theorem Part.KeepsHolds.trans {s t u : Part} (h : s.KeepsHolds t) (g : t.KeepsHolds u) : s.KeepsHolds u :=
  ⟨h.toKeepsStanding.trans g.toKeepsStanding, g.holds.trans h.holds, g.nextId.trans h.nextId⟩

theorem Part.KeepsStanding.ite {s t u : Part} (c : Prop) [Decidable c] (h : s.KeepsStanding t)
    (g : s.KeepsStanding u) : s.KeepsStanding (if c then t else u) := by split <;> assumption

theorem Part.KeepsHolds.ite {s t u : Part} (c : Prop) [Decidable c] (h : s.KeepsHolds t)
    (g : s.KeepsHolds u) : s.KeepsHolds (if c then t else u) := by split <;> assumption

theorem Part.KeepsStanding.foldl {α : Type} (f : Part → α → Part) (h : ∀ s a, Part.KeepsStanding s (f s a)) (l : List α)
    (s : Part) : s.KeepsStanding (l.foldl f s) := by
  induction l generalizing s with
  | nil => exact .refl s
  | cons a l ih => exact (h s a).trans (ih _)

theorem Part.KeepsHolds.foldl {α : Type} (f : Part → α → Part) (h : ∀ s a, Part.KeepsHolds s (f s a)) (l : List α)
    (s : Part) : s.KeepsHolds (l.foldl f s) := by
  induction l generalizing s with
  | nil => exact .refl s
  | cons a l ih => exact (h s a).trans (ih _)

/-- An update of the loads, the Governor, the link, the lines, the causes, the receiver, or of the mode and its
flags. -/
theorem Part.KeepsHolds.of_eq {s t : Part} (power : t.power = s.power) (cfg : t.cfg = s.cfg)
    (holds : t.holds = s.holds) (nextId : t.nextId = s.nextId) (uptime : t.ncc.uptime = s.ncc.uptime)
    (clock : t.ncc.clock = s.ncc.clock) (inEffect : t.svp.inEffect = s.svp.inEffect)
    (lastReset : t.svp.lastReset = s.svp.lastReset) (cfs : t.cfs = s.cfs) : s.KeepsHolds t :=
  ⟨⟨power, cfs, uptime, clock, by rw [cfg], .of_eq cfg, inEffect, lastReset⟩, holds, nextId⟩

theorem Part.LoadWork.keepsHolds {s t : Part} (h : s.LoadWork t) : s.KeepsHolds t :=
  .of_eq h.power h.cfg h.holds h.nextId (by rw [h.ncc]) (by rw [h.ncc]) (by rw [h.svp]) (by rw [h.svp]) h.cfs

theorem Part.ModeWork.keepsStanding {s t : Part} (h : s.ModeWork t) (plans : s.cfg.PlansFrom t.cfg) :
    s.KeepsStanding t :=
  ⟨h.power, h.cfs, h.uptime, h.clock, h.records, plans, by rw [h.svp], by rw [h.svp]⟩

theorem Part.keepsStanding_changeMode (s : Part) (m : Move) : s.KeepsStanding (s.changeMode m) :=
  (s.modeWork_changeMode m).keepsStanding (s.changeMode_plans m)

theorem Part.keepsHolds_changeMode (s : Part) (m : Move) (h : m.isSetup = false) : s.KeepsHolds (s.changeMode m) :=
  ⟨s.keepsStanding_changeMode m, s.changeMode_holds m h, (s.modeWork_changeMode m).nextId⟩

theorem Part.keepsHolds_runMoves (fuel : Nat) (s : Part) (m : Option Move) (h : ∀ m' ∈ m.toList, m'.isSetup = false) :
    s.KeepsHolds (s.runMoves fuel m) :=
  ⟨(s.modeWork_runMoves fuel m).keepsStanding (s.runMoves_plans fuel m), s.runMoves_holds fuel m h,
    (s.modeWork_runMoves fuel m).nextId⟩

theorem Part.keepsHolds_finish (before after : Part) : after.KeepsHolds (before.finish after) :=
  ⟨(before.modeWork_finish after).keepsStanding (before.finish_plans after), before.finish_holds after,
    (before.modeWork_finish after).nextId⟩

theorem Part.KeepsHolds.finish {s u : Part} (before : Part) (h : s.KeepsHolds u) : s.KeepsHolds (before.finish u) :=
  h.trans (before.keepsHolds_finish u)

theorem Part.KeepsStanding.finish {s u : Part} (before : Part) (h : s.KeepsStanding u) :
    s.KeepsStanding (before.finish u) :=
  h.trans (before.keepsHolds_finish u).toKeepsStanding

/-! ## The lines and the receiver -/

theorem Part.keepsHolds_chooseLamp (s : Part) (p : PanelId) : s.KeepsHolds (s.chooseLamp p) :=
  .of_eq rfl rfl rfl rfl rfl rfl rfl rfl rfl

theorem Part.keepsHolds_chooseLamps (s : Part) : s.KeepsHolds s.chooseLamps :=
  .foldl _ Part.keepsHolds_chooseLamp _ s

theorem Part.keepsHolds_setRefusal (s : Part) (p : PanelId) (t : Option Nat) : s.KeepsHolds (s.setRefusal p t) :=
  .of_eq rfl rfl rfl rfl rfl rfl rfl rfl rfl

theorem Part.keepsHolds_setDebounce (s : Part) (line : Line) (d : Debounce) : s.KeepsHolds (s.setDebounce line d) :=
  .of_eq rfl rfl rfl rfl rfl rfl rfl rfl rfl

theorem Part.keepsHolds_setReceiver (s : Part) (r : Receiver) : s.KeepsHolds (s.setReceiver r) :=
  .of_eq rfl rfl rfl rfl rfl rfl rfl rfl rfl

theorem Part.keepsHolds_answer (s : Part) (c : Instr) (a : Answer) : s.KeepsHolds (s.answer c a) :=
  .of_eq rfl rfl rfl rfl rfl rfl rfl rfl rfl

theorem Part.keepsHolds_setMode (s : Part) (m : ModeState) : s.KeepsHolds (s.setMode m) :=
  .of_eq rfl rfl rfl rfl rfl rfl rfl rfl rfl

theorem Part.keepsHolds_examine (s : Part) (c : Received) : s.KeepsHolds (s.examine c) :=
  .ite _ (s.keepsHolds_setReceiver _) (s.keepsHolds_setReceiver _)

theorem Part.keepsHolds_accept (s : Part) (body : List Byte) : s.KeepsHolds (s.accept body) := by
  unfold Part.accept
  split <;> exact s.keepsHolds_setReceiver _

theorem Part.keepsHolds_receive (s : Part) (c : Received) : s.KeepsHolds (s.receive c) := by
  unfold Part.receive
  split
  · exact s.keepsHolds_examine c
  · exact .ite _ (s.keepsHolds_setReceiver _) (.ite _ (s.keepsHolds_accept _) (s.keepsHolds_setReceiver _))
  all_goals exact .refl s

theorem Part.keepsHolds_takeLine (s : Part) (line : Line) (due : Debounce → Nat → Bool) (level : Level)
    (then_ : Part → Part) (h : ∀ q : Part, q.KeepsHolds (then_ q)) :
    s.KeepsHolds (s.takeLine line due level then_) :=
  .ite _ ((s.keepsHolds_setDebounce _ _).trans (h _)) (.refl s)

theorem Part.keepsStanding_takeLine (s : Part) (line : Line) (due : Debounce → Nat → Bool) (level : Level)
    (then_ : Part → Part) (h : ∀ q : Part, q.KeepsStanding (then_ q)) :
    s.KeepsStanding (s.takeLine line due level then_) :=
  .ite _ ((s.keepsHolds_setDebounce _ _).toKeepsStanding.trans (h _)) (.refl s)

/-! ## The Hold Table -/

theorem Part.keepsHolds_ownerLamp (s : Part) (o : Owner) : s.KeepsHolds (s.ownerLamp o) := by
  cases o with
  | panel p => exact s.keepsHolds_chooseLamp p
  | supervisor | call => exact .refl s

/-- A change of the holds and the next id alone. -/
theorem Part.keepsStanding_holds (s : Part) (holds : List Hold) (id : Nat) :
    s.KeepsStanding { s with holds := holds, nextId := id } :=
  ⟨rfl, rfl, rfl, rfl, rfl, .refl _, rfl, rfl⟩

theorem Part.keepsStanding_updateHold (s : Part) (h : Hold) : s.KeepsStanding (s.updateHold h) :=
  s.keepsStanding_holds _ s.nextId

theorem Part.keepsStanding_createHold (s : Part) (h : Hold) : s.KeepsStanding (s.createHold h) :=
  ((s.keepsStanding_holds _ _).trans (Part.loadWork_reportPlacement _ h).keepsHolds.toKeepsStanding).trans
    (Part.keepsHolds_ownerLamp _ _).toKeepsStanding

theorem Part.keepsStanding_place (s : Part) (kind : HoldKind) (t : Target) (owner : Owner) (duration reason : Nat) :
    s.KeepsStanding (s.place kind t owner duration reason).1 := by
  unfold Part.place
  dsimp only
  split
  · exact .refl s
  · split
    · exact .refl s
    · split
      · exact (s.keepsStanding_updateHold _).trans (Part.keepsHolds_ownerLamp _ _).toKeepsStanding
      · split
        · exact .refl s
        · split
          · exact .refl s
          · exact s.keepsStanding_createHold _

theorem Part.keepsStanding_retire (s : Part) (h : Hold) : s.KeepsStanding (s.retire h) :=
  (((s.keepsStanding_holds _ s.nextId).trans (Part.loadWork_reportRetirement _ h).keepsHolds.toKeepsStanding).trans
    (s.loadWork_recheck _).keepsHolds.toKeepsStanding).trans (Part.keepsHolds_ownerLamp _ _).toKeepsStanding

theorem Part.keepsStanding_expire (s : Part) (h : Hold) : s.KeepsStanding (s.expire h) :=
  (s.keepsStanding_retire h).trans (Part.loadWork_raise _ _).keepsHolds.toKeepsStanding

theorem Part.keepsStanding_callRequest (s : Part) (c : CallId) : s.KeepsStanding (s.callRequest c) := by
  unfold Part.callRequest
  dsimp only
  split
  · exact (s.keepsStanding_place _ _ _ _ _).trans (Part.loadWork_raise _ _).keepsHolds.toKeepsStanding
  · exact (s.keepsStanding_place _ _ _ _ _).trans (Part.loadWork_raise _ _).keepsHolds.toKeepsStanding
  · exact s.keepsStanding_place _ _ _ _ _

theorem Part.keepsStanding_afterPlacement (s : Part) {r : Part × Placement} (h : s.KeepsStanding r.1) :
    s.KeepsStanding (s.afterPlacement r) := by
  unfold Part.afterPlacement
  split
  · exact h.finish s
  · exact h.finish s
  all_goals exact .refl s

theorem Part.keepsHolds_keepOutcome (s : Part) (p : PanelId) (r : Placement) : s.KeepsHolds (s.keepOutcome p r) := by
  unfold Part.keepOutcome
  split
  case h_5 | h_6 => exact .refl s
  all_goals exact (s.keepsHolds_setRefusal p _).trans (Part.keepsHolds_chooseLamp _ p)

theorem Part.keepsStanding_keepPressed (s : Part) (p : PanelId) : s.KeepsStanding (s.keepPressed p) :=
  .ite _ ((s.keepsStanding_place _ _ _ _ _).trans (Part.keepsHolds_keepOutcome _ p _).toKeepsStanding) (.refl s)

theorem Part.keepsStanding_panelRelease (s : Part) (p : PanelId) : s.KeepsStanding (s.panelRelease p) :=
  .foldl _ Part.keepsStanding_retire _ s

/-! ## The field link -/

/-- A change of the link's own state alone. -/
theorem Part.keepsHolds_flm (s : Part) (f : FieldLink) : s.KeepsHolds { s with flm := f } :=
  .of_eq rfl rfl rfl rfl rfl rfl rfl rfl rfl

theorem Part.keepsHolds_setStation (s : Part) (k : StationId) (r : Station) : s.KeepsHolds (s.setStation k r) :=
  s.keepsHolds_flm _

theorem Part.keepsHolds_pollNext (s : Part) : s.KeepsHolds s.pollNext := by
  unfold Part.pollNext
  split
  · exact s.keepsHolds_flm _
  · exact .of_eq rfl rfl rfl rfl rfl rfl rfl rfl rfl

theorem Part.keepsHolds_beginCycle (s : Part) : s.KeepsHolds s.beginCycle :=
  (s.keepsHolds_flm _).trans (Part.keepsHolds_pollNext _)

theorem Part.keepsHolds_failPoll (s : Part) (k : StationId) : s.KeepsHolds (s.failPoll k) := by
  have failed := s.keepsHolds_setStation k (s.station k).afterFailure
  have told := Part.KeepsHolds.ite ((s.station k).afterFailure.grade = (s.station k).grade) failed
    (failed.trans (Part.loadWork_raise _ (.station k)).keepsHolds)
  exact .ite _ (told.trans (Part.loadWork_loseLoads _ k).keepsHolds) told

theorem Part.keepsHolds_failTransaction (s : Part) (t : Transaction) : s.KeepsHolds (s.failTransaction t) :=
  ((s.keepsHolds_failPoll _).finish s).trans (Part.keepsHolds_pollNext _)

theorem Part.keepsHolds_gradeReply (s : Part) (k : StationId) (v : Vector Reading 4) :
    s.KeepsHolds (s.gradeReply k v) := by
  have graded := s.keepsHolds_setStation k
    { (s.station k).afterGood (s.recoversAuto k) with lastGood := some s.now, lastReply := some v }
  have told := Part.KeepsHolds.ite (((s.station k).afterGood (s.recoversAuto k)).grade = (s.station k).grade) graded
    (graded.trans (Part.loadWork_raise _ (.station k)).keepsHolds)
  exact (Part.KeepsHolds.ite _ (told.trans (Part.loadWork_startScan _).keepsHolds) told).trans
    (s.loadWork_recheck _).keepsHolds

theorem Part.keepsHolds_goodReply (s : Part) (k : StationId) (v : Vector Reading 4) : s.KeepsHolds (s.goodReply k v) :=
  ((s.keepsHolds_gradeReply k v).trans (Part.loadWork_useReply _ k _ v).keepsHolds).trans
    (Part.keepsHolds_setStation _ k _)

theorem Part.keepsHolds_haltStation (s : Part) (k : StationId) : s.KeepsHolds (s.haltStation k) := by
  have lost := s.keepsHolds_setStation k { s.station k with
    grade := .offline, err := Config.errMax, goodRun := 0, probeCount := 0, recoverArmed := false, forcedAuto := true }
  exact .ite _ (.ite _ lost ((lost.trans (Part.loadWork_raise _ _).keepsHolds).trans
    (Part.loadWork_loseLoads _ k).keepsHolds)) (.refl s)

theorem Part.keepsHolds_haltLink (s : Part) : s.KeepsHolds s.haltLink :=
  (s.keepsHolds_flm _).trans (.foldl _ Part.keepsHolds_haltStation _ _)

theorem Part.keepsHolds_repollStation (s : Part) (k : StationId) (was : Bool) :
    s.KeepsHolds (s.repollStation k was) := by
  have fresh := s.keepsHolds_setStation k {}
  unfold Part.repollStation
  split
  · exact .refl s
  · split
    · have left (f : FieldLink) : s.KeepsHolds { s.setStation k {} with flm := f } :=
        fresh.trans (Part.keepsHolds_flm _ f)
      dsimp only
      split
      · split
        · exact (left _).trans (Part.keepsHolds_pollNext _)
        · exact left _
      · exact left _
    · split
      · exact fresh
      · exact (s.keepsHolds_setStation k _).trans (Part.loadWork_raise _ _).keepsHolds

theorem Part.keepsHolds_changeUse (s : Part) (n : LoadId) : s.KeepsHolds (s.changeUse n) :=
  ((s.loadWork_setLoad n _).trans (Part.loadWork_setStartingOrigin _ n none)).keepsHolds

/-! ## The rows -/

theorem keepsHolds_of_request {c : Instr} {rule : Part → Part × Answer} {s t : State}
    (h : request c rule s = .next t) (ruled : s.KeepsHolds (rule s.toPart).1) : s.KeepsHolds t.toPart :=
  request_cases h (.refl _) (ruled.trans (Part.keepsHolds_answer _ _ _))

theorem keepsStanding_of_request {c : Instr} {rule : Part → Part × Answer} {s t : State}
    (h : request c rule s = .next t) (ruled : s.KeepsStanding (rule s.toPart).1) : s.KeepsStanding t.toPart :=
  request_cases h (.refl _) (ruled.trans (Part.keepsHolds_answer _ _ _).toKeepsStanding)

theorem keepsHolds_of_event {handle : Part → Part} {s t : State} (h : event handle s = .next t)
    (handled : s.KeepsHolds (handle s.toPart)) : s.KeepsHolds t.toPart := event_cases h (.refl _) handled

theorem keepsStanding_of_event {handle : Part → Part} {s t : State} (h : event handle s = .next t)
    (handled : s.KeepsStanding (handle s.toPart)) : s.KeepsStanding t.toPart := event_cases h (.refl _) handled

/-- A request that reads its data off the part and changes nothing. -/
theorem keepsHolds_of_read {c : Instr} {rule : Part → Part × Answer} {s t : State}
    (h : request c rule s = .next t) (read : ∀ p, (rule p).1 = p) : s.KeepsHolds t.toPart :=
  keepsHolds_of_request h (by rw [read]; exact .refl _)

theorem keepsHolds_onLoad (load : Byte) (rule : LoadId → Part → Part × Answer) (s : Part)
    (h : ∀ n, s.KeepsHolds (rule n s).1) : s.KeepsHolds (onLoad load rule s).1 := by
  unfold onLoad
  split
  · exact h _
  · exact .refl s

theorem saveGate_cases {P : Part → Prop} {rule : Part → Part × Answer} {s : Part} (busy : P s) (taken : P (rule s).1) :
    P (saveGate rule s).1 := by
  unfold saveGate
  split <;> assumption

theorem writeGate_cases {P : Part → Prop} {rule : Part → Part × Answer} {s : Part} (refused : P s)
    (taken : P (rule s).1) : P (writeGate rule s).1 := by
  refine saveGate_cases refused ?_
  split <;> assumption

theorem onRecord_cases {P : Part → Prop} {n : Nat} {number : Byte} {rule : Fin n → Part → Part × Answer} {s : Part}
    (refused : P s) (taken : ∀ i, P (rule i s).1) : P (onRecord number rule s).1 := by
  unfold onRecord
  split
  · exact taken _
  · exact refused

theorem readRecord_fst {n : Nat} (number : Byte) (s : Part) (data : Fin n → List Byte) :
    (readRecord number s data).1 = s := by
  unfold readRecord
  split <;> rfl

theorem Part.keepsHolds_swapInDay (s : Part) : s.KeepsHolds s.swapInDay := by
  unfold Part.swapInDay
  split
  · have swapped : s.KeepsHolds s.swapPlans :=
      ⟨s.modeWork_swapPlans.keepsStanding s.swapPlans_plans, rfl, rfl⟩
    exact (swapped.trans (Part.keepsHolds_setMode _ _)).trans
      (Part.keepsHolds_runMoves 8 _ _ (nextNightMove_notSetup _ _))
  · exact .refl s

/-- The armed flag stands beside what is kept. -/
theorem Part.keepsHolds_armed (s : Part) (armed : Bool) : s.KeepsHolds { s with ncc := { s.ncc with armed := armed } } :=
  .of_eq rfl rfl rfl rfl rfl rfl rfl rfl rfl

theorem Part.keepsHolds_arm (s : Part) (armed : Bool) : s.KeepsHolds (s.arm armed).1 := by
  unfold Part.arm
  dsimp only
  split
  · exact (s.keepsHolds_armed armed).trans (Part.keepsHolds_swapInDay _)
  · exact s.keepsHolds_armed armed

theorem Part.keepsStanding_moveMode (s : Part) (m : Move) : s.KeepsStanding (s.moveMode m).1 :=
  (s.keepsStanding_changeMode m).finish s

theorem Part.keepsHolds_takeCeilings (s : Part) (i d : Nat) : s.KeepsHolds (s.takeCeilings i d).1 := by
  unfold Part.takeCeilings Part.setCeilings
  exact .of_eq rfl rfl rfl rfl rfl rfl rfl rfl rfl

theorem Part.keepsHolds_takeLead (s : Part) (target : Option WakeTarget) : s.KeepsHolds (s.takeLead target).1 :=
  s.keepsHolds_setMode _

theorem Part.keepsHolds_renewLead (s : Part) : s.KeepsHolds s.renewLead := by
  unfold Part.renewLead
  split
  · exact (s.keepsHolds_takeLead _).trans (Part.keepsHolds_runMoves 8 _ _ (s.takeLead_notSetup _))
  · exact .refl s

theorem Part.keepsStanding_renewCalls (s : Part) : s.KeepsStanding s.renewCalls :=
  .foldl _ Part.keepsStanding_callRequest _ s

theorem Part.keepsStanding_minuteBoundary (s : Part) : s.KeepsStanding s.minuteBoundary := by
  have taken : s.KeepsHolds { s with ncc := { s.ncc with minuteDue := false } } :=
    .of_eq rfl rfl rfl rfl rfl rfl rfl rfl rfl
  have lead (u : Part) := u.keepsHolds_renewLead.toKeepsStanding
  have calls := Part.keepsStanding_renewCalls
  have choice (u : Part) := u.loadWork_nextChoice.keepsHolds.toKeepsStanding
  refine Part.KeepsStanding.trans ?_ (Part.keepsHolds_chooseLamps _).toKeepsStanding
  exact taken.toKeepsStanding.trans (.ite _ ((lead _).trans (calls _))
    (.ite _ (((choice _).trans (lead _)).trans (calls _)) (((choice _).trans (calls _)).trans (lead _))))

theorem Part.keepsHolds_closeInterval (s : Part) : s.KeepsHolds s.closeInterval := by
  unfold Part.closeInterval
  dsimp only
  split
  · exact .of_eq rfl rfl rfl rfl rfl rfl rfl rfl rfl
  · split
    · exact .of_eq rfl rfl rfl rfl rfl rfl rfl rfl rfl
    · split <;> exact .of_eq rfl rfl rfl rfl rfl rfl rfl rfl rfl

end Sys2Proof.Machine

namespace Sys2Proof

/-- The rows that write the records, the store, uptime, the clock or the causes of the held condition, or may carry
out a reset. -/
def Instr.mayChangeStanding : Instr → Bool
  | .setClock _ _ | .writePlan _ _ | .setAttentionEnable _ | .save | .resultEnd | .powerOn | .supplyLow _
  | .resetLineAssert _ | .resetLineRelease | .uptimeSecond | .erasingComplete | .writingComplete
  | .checkingComplete _ => true
  | c => c.isConfigWrite

end Sys2Proof

namespace Sys2Proof.Machine

/-- Every row but those that write what stays, and those of the Hold Table, keeps what stays and the holds. -/
theorem exec_keepsHolds {c : Instr} {s t : State} (standing : c.mayChangeStanding = false)
    (holds : c.mayChangeHolds = false) (h : exec c s = .next t) : s.KeepsHolds t.toPart := by
  unfold exec at h
  cases c with
  | setClock | writePlan | setAttentionEnable | save | resultEnd | powerOn | supplyLow | resetLineAssert
  | resetLineRelease | uptimeSecond | erasingComplete | writingComplete | checkingComplete | writeLoadConfig
  | writeGroup | writeZone | writePanel | writeCall | writeMeter | writeLink | writePort =>
    cases standing
  | placeHold | renewHold | releaseHold | setMode | holdExpiry | keepPress | clearPress | callRisingEdge
  | uptimeMinuteBoundary => cases holds
  | identify | readStatus | readClock | readDemand | readAttention => exact keepsHolds_of_read h fun _ => rfl
  | readPlan | readHold | readStation => exact keepsHolds_of_read h fun p => by split <;> rfl
  | listHolds | readQueue => exact keepsHolds_of_read h fun p => by split <;> rfl
  | readConfig kind number =>
    refine keepsHolds_of_read h fun p => ?_
    split
    case h_9 => rfl
    all_goals exact readRecord_fst _ _ _
  | reset => exact keepsHolds_of_request h (saveGate_cases (.refl _) (.refl _))
  | readLoad n => exact keepsHolds_of_request h (keepsHolds_onLoad _ _ _ fun n => (Part.loadWork_setLoad _ n _).keepsHolds)
  | startLoad n =>
    refine keepsHolds_of_request h (keepsHolds_onLoad _ _ _ fun n => ?_)
    have asked := (s.loadWork_enqueue n .command).keepsHolds.finish s.toPart
    split
    · split
      · exact .refl _
      · exact asked
    · exact asked
    all_goals exact .refl _
  | stopLoad n =>
    refine keepsHolds_of_request h (keepsHolds_onLoad _ _ _ fun n => ?_)
    split
    · exact .refl _
    · exact (Part.LoadWork.ite _ (s.loadWork_withdraw n _) (s.loadWork_enterStopping n)).keepsHolds.finish _
  | clearFault n =>
    refine keepsHolds_of_request h (keepsHolds_onLoad _ _ _ fun n => ?_)
    split
    · exact (s.loadWork_enterOff n).keepsHolds.finish _
    · exact .refl _
    · exact .refl _
  | armPlan v =>
    refine keepsHolds_of_request h ?_
    dsimp only
    split
    · exact .refl _
    · split
      · exact .refl _
      · split
        · exact .refl _
        · exact (s.keepsHolds_arm _).finish _
  | setCeiling i d => exact keepsHolds_of_request h (s.keepsHolds_takeCeilings _ _)
  | recoverStation k =>
    refine keepsHolds_of_request h ?_
    dsimp only
    split
    · exact .refl _
    · split
      · exact .refl _
      · split
        · exact .refl _
        · split
          · exact .refl _
          · exact s.keepsHolds_setStation _ _
  | linkHalt =>
    refine keepsHolds_of_request h ?_
    dsimp only
    split
    · exact .refl _
    · exact s.keepsHolds_haltLink.finish _
  | linkRun =>
    refine keepsHolds_of_request h ?_
    dsimp only
    split
    · exact .refl _
    · exact (s.keepsHolds_flm _).trans (Part.keepsHolds_beginCycle _)
  | ackAttention => exact keepsHolds_of_request h (.of_eq rfl rfl rfl rfl rfl rfl rfl rfl rfl)
  | characterReceived c => exact keepsHolds_of_event h (s.keepsHolds_receive c)
  | frameDiscard c =>
    refine keepsHolds_of_event h ?_
    split
    · exact .ite _ (s.keepsHolds_setReceiver _) (.refl _)
    · exact .refl _
  | frameGapTimeout c =>
    refine keepsHolds_of_event h ?_
    split
    · exact s.keepsHolds_examine c
    · exact .refl _
  | resultBegin =>
    refine keepsHolds_of_event h ?_
    split
    · exact s.keepsHolds_setReceiver _
    · exact .refl _
  | idleExpiry n =>
    exact keepsHolds_of_event h (.ite _ ((s.loadWork_enterStopping n).keepsHolds.finish _) (.refl _))
  | stopDeadline n => exact keepsHolds_of_event h (.ite _ ((s.loadWork_failStop n).keepsHolds.finish _) (.refl _))
  | startDeadline n => exact keepsHolds_of_event h (.ite _ ((s.loadWork_failStart n).keepsHolds.finish _) (.refl _))
  | inrushWindowEnd n =>
    exact keepsHolds_of_event h (.ite _ ((s.loadWork_completeStart n).keepsHolds.finish _) (.refl _))
  | activityWindowExpiry n =>
    refine keepsHolds_of_event h ?_
    dsimp only
    split
    · exact .ite _ (s.loadWork_setLoad n _).keepsHolds (.refl _)
    · exact .refl _
  | startHistoryAgeOut n => exact keepsHolds_of_event h (s.loadWork_setLoad n _).keepsHolds
  | cancelledMarkPassed =>
    refine keepsHolds_of_event h ?_
    split
    · exact .ite _ (s.keepsHolds_setMode _) (.refl _)
    · exact .refl _
  | warnStartReached =>
    refine keepsHolds_of_event h ?_
    split
    · refine .ite _ ((s.keepsHolds_changeMode _ ?_).finish _) (.refl _)
      split <;> rfl
    · exact .refl _
  | warningDeadline =>
    refine keepsHolds_of_event h ?_
    split
    · exact .ite _ ((s.keepsHolds_changeMode _ rfl).finish _) (.refl _)
    · exact .refl _
  | wakeBegin =>
    refine keepsHolds_of_event h ?_
    split
    · refine .ite _ ((s.keepsHolds_changeMode _ ?_).finish _) (.refl _)
      unfold Part.wakeMove
      split <;> rfl
    · exact .refl _
  | graceDeadline =>
    refine keepsHolds_of_event h ?_
    split
    · exact .ite _ ((s.keepsHolds_changeMode _ rfl).finish _) (.refl _)
    · exact .refl _
  | intervalBoundary => exact keepsHolds_of_event h (.ite _ s.keepsHolds_closeInterval (.refl _))
  | admissionScan => exact keepsHolds_of_event h (.ite _ (s.loadWork_scan.keepsHolds.finish _) (.refl _))
  | pollCycleStart => exact keepsHolds_of_event h (.ite _ s.keepsHolds_beginCycle (.refl _))
  | pollReplyGood bytes =>
    refine keepsHolds_of_event h ?_
    split
    · split
      · exact ((s.keepsHolds_goodReply _ _).finish _).trans (Part.keepsHolds_pollNext _)
      · exact .refl _
    · exact .refl _
  | pollReplyBad chars =>
    refine keepsHolds_of_event h ?_
    split
    · exact .ite _ (.refl _) (s.keepsHolds_failTransaction _)
    · exact .refl _
  | replyTimeout | replyGapTimeout =>
    refine keepsHolds_of_event h ?_
    split
    · exact s.keepsHolds_failTransaction _
    · exact .refl _
  | keyRelease | callFallingEdge | meterFallingEdge | levelQualifiedFromUnknown =>
    exact keepsHolds_of_event h (s.keepsHolds_takeLine _ _ _ _ .refl)
  | meterPulse =>
    exact keepsHolds_of_event h (s.keepsHolds_takeLine _ _ _ _ fun _ => .of_eq rfl rfl rfl rfl rfl rfl rfl rfl rfl)
  | refusalTimerExpiry p =>
    refine keepsHolds_of_event h ?_
    split
    · exact .ite _ ((s.keepsHolds_setRefusal _ _).trans (Part.keepsHolds_chooseLamp _ _)) (.refl _)
    · exact .refl _
  | lineSample v => exact keepsHolds_of_event h (.of_eq rfl rfl rfl rfl rfl rfl rfl rfl rfl)

/-- Every row but those that write it keeps what stays. -/
theorem exec_keepsStanding {c : Instr} {s t : State} (standing : c.mayChangeStanding = false)
    (h : exec c s = .next t) : s.KeepsStanding t.toPart := by
  cases holds : c.mayChangeHolds with
  | false => exact (exec_keepsHolds standing holds h).toKeepsStanding
  | true =>
    unfold exec at h
    cases c with
    | setMode b =>
      refine keepsStanding_of_request h ?_
      split
      · exact .refl _
      · split
        · exact .refl _
        · split
          · exact .refl _
          · exact s.keepsStanding_moveMode _
          · split
            · exact s.keepsStanding_moveMode _
            · exact .refl _
    | placeHold =>
      refine keepsStanding_of_request h ?_
      dsimp only
      split
      · exact .refl _
      · split
        · exact .refl _
        · exact s.keepsStanding_afterPlacement (s.keepsStanding_place _ _ _ _ _)
    | renewHold =>
      refine keepsStanding_of_request h ?_
      dsimp only
      split
      · exact .refl _
      · split
        · exact .refl _
        · split
          · exact .refl _
          · exact s.keepsStanding_updateHold _
    | releaseHold =>
      refine keepsStanding_of_request h ?_
      split
      · exact .refl _
      · split
        · exact .refl _
        · split
          · exact .refl _
          · split
            · exact (s.keepsStanding_retire _).finish _
            · exact .refl _
    | holdExpiry =>
      exact keepsStanding_of_event h (.ite _ ((Part.KeepsStanding.foldl _ Part.keepsStanding_expire _ _).finish _)
        (.refl _))
    | uptimeMinuteBoundary =>
      exact keepsStanding_of_event h (.ite _ (s.keepsStanding_minuteBoundary.finish _) (.refl _))
    | keepPress p =>
      exact keepsStanding_of_event h (s.keepsStanding_takeLine _ _ _ _ fun q =>
        (q.keepsStanding_keepPressed p).finish _)
    | clearPress p =>
      exact keepsStanding_of_event h (s.keepsStanding_takeLine _ _ _ _ fun q =>
        ((q.keepsStanding_panelRelease p).trans ((Part.keepsHolds_setRefusal _ p none).trans
          (Part.keepsHolds_chooseLamp _ p)).toKeepsStanding).finish _)
    | callRisingEdge l =>
      exact keepsStanding_of_event h (s.keepsStanding_takeLine _ _ _ _ fun q =>
        .ite _ ((q.keepsStanding_callRequest l).finish _) (.refl _))
    | resultEnd | powerOn | resetLineRelease => cases standing
    | _ => cases holds

end Sys2Proof.Machine
end

section
/-! The record checks row by row. A check follows a list of rows where it answers the first row out of range, or, every
row being in range, a record that stands for what was sent (R3). -/

namespace Sys2Proof.Machine

/-- One row's check: out of range it answers the row, in range a value that has the property. -/
def Checked.Row {α : Type} (x : Checked α) (row : Byte) (good : Bool) (held : α → Prop) : Prop :=
  (good = false → x = .error row.toNat) ∧ (good = true → ∃ a, x = .ok a ∧ held a)

/-- A check answers the first of the rows that is out of range, or a record that has the property. -/
def Checked.Follows {α : Type} (x : Checked α) (rows : List (Byte × Bool)) (held : α → Prop) : Prop :=
  match rows.find? fun row => !row.2 with
  | some row => x = .error row.1.toNat
  | none => ∃ a, x = .ok a ∧ held a

theorem Checked.Follows.pure {α : Type} {a : α} {held : α → Prop} (h : held a) :
    Checked.Follows (Except.ok a) [] held := ⟨a, rfl, h⟩

/-- A row's check before the checks of the rows that come after it. -/
theorem Checked.Follows.row {α β : Type} {x : Checked α} {f : α → Checked β} {row : Byte} {good : Bool}
    {rows : List (Byte × Bool)} {held : α → Prop} {heldAfter : β → Prop} (first : x.Row row good held)
    (rest : ∀ a, held a → (f a).Follows rows heldAfter) :
    Checked.Follows (x >>= f) ((row, good) :: rows) heldAfter := by
  cases good with
  | false => rw [first.1 rfl]; exact rfl
  | true =>
    obtain ⟨a, rfl, ha⟩ := first.2 rfl
    exact rest a ha

/-- The check of the last row. -/
theorem Checked.Follows.last {α : Type} {x : Checked α} {row : Byte} {good : Bool} {held : α → Prop}
    (h : x.Row row good held) : x.Follows [(row, good)] held := by
  cases good with
  | false => exact h.1 rfl
  | true => exact h.2 rfl

/-- A run of rows before the rows that come after it. -/
theorem Checked.Follows.bind {α β : Type} {x : Checked α} {f : α → Checked β} {first rows : List (Byte × Bool)}
    {held : α → Prop} {heldAfter : β → Prop} (before : x.Follows first held)
    (rest : ∀ a, held a → (f a).Follows rows heldAfter) :
    Checked.Follows (x >>= f) (first ++ rows) heldAfter := by
  unfold Checked.Follows at before ⊢
  rw [List.find?_append]
  cases bad : first.find? fun row => !row.2 with
  | some row => rw [bad] at before; rw [before]; exact rfl
  | none =>
    rw [bad] at before
    obtain ⟨a, rfl, ha⟩ := before
    exact rest a ha

theorem Checked.Follows.error {α : Type} {x : Checked α} {rows : List (Byte × Bool)} {held : α → Prop}
    {row : Byte × Bool} (h : x.Follows rows held) (bad : (rows.find? fun row => !row.2) = some row) :
    x = .error row.1.toNat := by
  unfold Checked.Follows at h
  rwa [bad] at h

/-- The check passes exactly where every row is in range. -/
theorem Checked.Follows.passes {α : Type} {x : Checked α} {rows : List (Byte × Bool)} {held : α → Prop}
    (h : x.Follows rows held) : (∃ a, x = .ok a) ↔ ∀ row ∈ rows, row.2 = true := by
  unfold Checked.Follows at h
  cases bad : rows.find? fun row => !row.2 with
  | some row =>
    have out := List.find?_some bad
    rw [bad] at h
    simp only [h, reduceCtorEq, exists_false, false_iff]
    intro good
    simp [good row (List.mem_of_find?_eq_some bad)] at out
  | none =>
    rw [bad] at h
    obtain ⟨a, ok, -⟩ := h
    simpa [ok] using bad

theorem Checked.Follows.holds {α : Type} {x : Checked α} {rows : List (Byte × Bool)} {held : α → Prop}
    (h : x.Follows rows held) {a : α} (ok : x = .ok a) : held a := by
  unfold Checked.Follows at h
  cases bad : rows.find? fun row => !row.2 with
  | some row => rw [bad] at h; cases ok.symm.trans h
  | none =>
    rw [bad] at h
    obtain ⟨b, ok', hb⟩ := h
    cases ok.symm.trans ok'
    exact hb

/-! ## The rows of one field -/

theorem within_row (row : Byte) {lo hi n : Nat} {good : Bool} (range : good = true ↔ lo ≤ n ∧ n ≤ hi) :
    Checked.Row (within row.toNat lo hi n) row good fun a => a = n ∧ lo ≤ n ∧ n ≤ hi := by
  refine ⟨fun bad => if_neg fun h => ?_, fun ok => ⟨n, if_pos (range.1 ok), rfl, range.1 ok⟩⟩
  exact Bool.false_ne_true (bad.symm.trans (range.2 h))

theorem tagField_row (row : Byte) {lo : Nat} {t : List Byte} {good : Bool} (range : good = true ↔ tagOk lo t) :
    Checked.Row (tagField row.toNat lo t) row good fun a => a = t ∧ tagOk lo t := by
  have printed : (lo ≤ t.length ∧ t.length ≤ 8 ∧ t.all printable = true) ↔ tagOk lo t := by
    simp [tagOk, printable]
  refine ⟨fun bad => if_neg fun h => ?_, fun ok => ⟨t, if_pos (printed.2 (range.1 ok)), rfl, range.1 ok⟩⟩
  exact Bool.false_ne_true (bad.symm.trans (range.2 (printed.1 h)))

/-- A field whose code names a value exactly in its range. -/
theorem field_row {α : Type} (row : Byte) {o : Option α} {good : Bool} (range : good = true ↔ o.isSome = true) :
    Checked.Row (field row.toNat o) row good fun a => o = some a := by
  cases o with
  | none => exact ⟨fun _ => rfl, fun ok => absurd (range.1 ok) (by simp)⟩
  | some a => exact ⟨fun bad => absurd (range.2 rfl) (by simp [bad]), fun _ => ⟨a, rfl, rfl⟩⟩

theorem below_isSome {n : Nat} {b : Byte} : (below n b).isSome = true ↔ b.toNat < n := by
  by_cases h : b.toNat < n <;> simp [below, h]

theorem below_eq_some {n : Nat} {b : Byte} {i : Fin n} : below n b = some i ↔ b.toNat = i.val := by
  unfold below
  split
  · simp [Fin.ext_iff]
  · simp only [reduceCtorEq, false_iff]; omega

theorem yesNo_isSome {b : Byte} : (yesNo b).isSome = true ↔ b.toNat ≤ 1 := by
  unfold yesNo
  match b.toNat with
  | 0 | 1 | _ + 2 => simp

theorem byte_eq_one {b : Byte} : b = 1 ↔ b.toNat = 1 := by
  rw [← BitVec.toNat_inj]; rfl

theorem yesNo_eq_some {b : Byte} {v : Bool} (h : yesNo b = some v) : v = decide (b = 1) := by
  simp only [byte_eq_one]
  unfold yesNo at h
  match b.toNat, h with
  | 0, rfl | 1, rfl => rfl

/-- The check of a record in use goes on to the rows after in_use. -/
theorem useField_bind {α : Type} {f : Bool → Checked α} : (field 1 (yesNo 1) >>= f) = f true := rfl

theorem yesNo_none {b : Byte} (h : 1 < b.toNat) : yesNo b = none := by
  rw [← Option.not_isSome_iff_eq_none, yesNo_isSome]
  omega

theorem yesNo_row (row : Byte) {b : Byte} {good : Bool} (range : good = true ↔ b.toNat ≤ 1) :
    Checked.Row (field row.toNat (yesNo b)) row good fun a => a = decide (b = 1) := by
  obtain ⟨out, ok⟩ := field_row row (range.trans yesNo_isSome.symm)
  exact ⟨out, fun h => (ok h).imp fun a ha => ⟨ha.1, yesNo_eq_some ha.2⟩⟩

theorem below_row (row : Byte) {n : Nat} {b : Byte} {good : Bool} (range : good = true ↔ b.toNat < n) :
    Checked.Row (field row.toNat (below n b)) row good fun a => a.val = b.toNat := by
  obtain ⟨out, ok⟩ := field_row row (range.trans below_isSome.symm)
  exact ⟨out, fun h => (ok h).imp fun a ha => ⟨ha.1, (below_eq_some.1 ha.2).symm⟩⟩

theorem groupField_row (row : Byte) {b : Byte} {good : Bool} (range : good = true ↔ b = 0xFF ∨ b.toNat < 8) :
    Checked.Row (groupField row.toNat b) row good fun a =>
      (a.map fun g => g.val) = if b = 0xFF then none else some b.toNat := by
  unfold groupField
  by_cases none : b = 0xFF
  · exact ⟨fun bad => absurd (range.2 (.inl none)) (by simp [bad]), fun _ => ⟨_, if_pos none, by simp [none]⟩⟩
  · obtain ⟨out, ok⟩ := below_row row (range.trans (or_iff_right none))
    rw [if_neg none, if_neg none]
    refine ⟨fun bad => by rw [out bad]; rfl, fun good => ?_⟩
    obtain ⟨g, named, value⟩ := ok good
    exact ⟨some g, by rw [named]; rfl, by simp [value]⟩

theorem activityField_row (row : Byte) {b : Byte} {good : Bool} (range : good = true ↔ b.toNat ≤ 1) :
    Checked.Row (activityField row.toNat b) row good fun a => a = if b = 1 then .level else .pulse := by
  simp only [byte_eq_one]
  unfold activityField
  match b.toNat, range with
  | 0, range | 1, range => exact ⟨fun bad => absurd (range.2 (by decide)) (by simp [bad]), fun _ => ⟨_, rfl, rfl⟩⟩
  | _ + 2, range => exact ⟨fun _ => rfl, fun ok => absurd (range.1 ok) (by omega)⟩

/-! ## The needs of a load -/

/-- A needs item as a request carries it (Table 10-6). -/
def Need.item : Need → Byte × Nat
  | .load j => (0, j.val)
  | .group g => (1, g.val)

/-- The item names a load or a group (Table 10-6). -/
abbrev namesNeed (i : Byte × Byte) : Prop := (i.1 = 0 ∧ i.2.toNat < 64) ∨ (i.1 = 1 ∧ i.2.toNat < 8)

theorem needItem_isSome {i : Byte × Byte} : (needItem i).isSome = true ↔ namesNeed i := by
  obtain ⟨kind, number⟩ := i
  have zero : kind = 0 ↔ kind.toNat = 0 := by rw [← BitVec.toNat_inj]; rfl
  simp only [namesNeed, zero, byte_eq_one]
  unfold needItem
  match kind.toNat with
  | 0 | 1 | _ + 2 => simp [below_isSome]

theorem needItem_eq_some {i : Byte × Byte} {need : Need} (h : needItem i = some need) :
    need.item = (i.1, i.2.toNat) := by
  obtain ⟨kind, number⟩ := i
  have spells (n : Nat) (k : Byte) (e : kind.toNat = n) (hk : k.toNat = n) : kind = k := by
    rw [← BitVec.toNat_inj, e, hk]
  unfold needItem at h
  dsimp only at h
  split at h
  · next e =>
    obtain ⟨j, hj, rfl⟩ := Option.map_eq_some_iff.1 h
    simp [Need.item, below_eq_some.1 hj, spells 0 0 e rfl]
  · next e =>
    obtain ⟨g, hg, rfl⟩ := Option.map_eq_some_iff.1 h
    simp [Need.item, below_eq_some.1 hg, spells 1 1 e rfl]
  · cases h

theorem mapM_needItem_isSome {l : List (Byte × Byte)} : (l.mapM needItem).isSome = true ↔ ∀ i ∈ l, namesNeed i := by
  induction l with
  | nil => simp
  | cons i l ih =>
    rw [List.forall_mem_cons, ← ih, ← needItem_isSome, List.mapM_cons]
    cases needItem i <;> cases l.mapM needItem <;> simp

theorem mapM_needItem_eq_some {l : List (Byte × Byte)} {needs : List Need} (h : l.mapM needItem = some needs) :
    needs.map Need.item = l.map fun i => (i.1, i.2.toNat) := by
  induction l generalizing needs with
  | nil => cases h; rfl
  | cons i l ih =>
    rw [List.mapM_cons] at h
    obtain ⟨need, hn, h⟩ := Option.bind_eq_some_iff.1 h
    obtain ⟨rest, hr, h⟩ := Option.bind_eq_some_iff.1 h
    cases h
    rw [List.map_cons, List.map_cons, ih hr, needItem_eq_some hn]

theorem Need.item_injective : Function.Injective Need.item := by
  intro a b h
  cases a <;> cases b <;> simp_all [Need.item, Fin.ext_iff]

/-- The items are as unlike as the needs they name. -/
theorem needs_nodup_iff {l : List (Byte × Byte)} {needs : List Need}
    (h : needs.map Need.item = l.map fun i => (i.1, i.2.toNat)) : needs.Nodup ↔ l.Nodup := by
  have sent : Function.Injective fun i : Byte × Byte => (i.1, i.2.toNat) := by
    intro a b e
    simp only [Prod.mk.injEq, BitVec.toNat_inj] at e
    exact Prod.ext e.1 e.2
  rw [← List.nodup_map_iff Need.item_injective, h, List.nodup_map_iff sent]

theorem needsField_row (row : Byte) {l : List (Byte × Byte)} {good : Bool}
    (range : good = true ↔ l.length ≤ 3 ∧ l.Nodup ∧ ∀ i ∈ l, namesNeed i) :
    Checked.Row (needsField row.toNat l) row good fun needs =>
      needs.map Need.item = (l.map fun i => (i.1, i.2.toNat)) ∧ needs.length ≤ 3 ∧ needs.Nodup := by
  unfold needsField
  cases named : l.mapM needItem with
  | none =>
    refine ⟨fun _ => rfl, fun ok => ?_⟩
    have := mapM_needItem_isSome.2 (range.1 ok).2.2
    simp [named] at this
  | some needs =>
    have items := mapM_needItem_eq_some named
    have length : needs.length = l.length := by simpa using congrArg List.length items
    have all := mapM_needItem_isSome.1 (Option.isSome_iff_exists.2 ⟨_, named⟩)
    have range : good = true ↔ needs.length ≤ 3 ∧ needs.Nodup := by
      rw [range, length, needs_nodup_iff items]
      exact ⟨fun h => ⟨h.1, h.2.1⟩, fun h => ⟨h.1, h.2, all⟩⟩
    exact ⟨fun bad => if_neg fun h => absurd (range.2 h) (by simp [bad]),
      fun ok => ⟨needs, if_pos (range.1 ok), items, range.1 ok⟩⟩

end Sys2Proof.Machine
end
section
/-! The record checks of the configuration writes against their tables: the rows each looks at, and the record it
answers, row for row as sent and in range (Tables 1-1, 1-2, 5-1, 6-2, 7-1, 7-3, 7-4, 8-1). -/

namespace Sys2Proof.Machine

/-- A tag of lo to 8 printable characters, as a row of a record (R2). -/
abbrev tagRow (lo : Nat) (tag : List Byte) : Bool :=
  lo ≤ tag.length ∧ tag.length ≤ 8 ∧ ∀ b ∈ tag, 0x20 ≤ b.toNat ∧ b.toNat ≤ 0x7E

/-! ## Loads (Table 1-1) -/

/-- The rows of a load record in use, each with whether it is in range (Table 1-1). -/
def loadRows (r : RawLoad) : List (Byte × Bool) :=
  [(2, tagRow 1 r.tag), (3, r.zone.toNat < 8), (4, r.group = 0xFF ∨ r.group.toNat < 8),
    (5, r.needs.length ≤ 3 ∧ r.needs.Nodup ∧
      ∀ i ∈ r.needs, (i.1 = 0 ∧ i.2.toNat < 64) ∨ (i.1 = 1 ∧ i.2.toNat < 8)),
    (6, r.nightExempt.toNat ≤ 1), (7, r.wakePriority.toNat ≤ 7), (8, r.runKw.toNat ≤ 2000),
    (9, r.runKw.toNat ≤ r.inrushKw.toNat ∧ r.inrushKw.toNat ≤ 8000),
    (10, 1 ≤ r.accelS.toNat ∧ r.accelS.toNat ≤ 120),
    (11, 5 ≤ r.startTimeoutS.toNat ∧ r.startTimeoutS.toNat ≤ 600),
    (12, 5 ≤ r.stopTimeoutS.toNat ∧ r.stopTimeoutS.toNat ≤ 900), (13, r.minRunS.toNat ≤ 3600),
    (14, r.minOffS.toNat ≤ 3600), (15, 1 ≤ r.startsPerHour.toNat ∧ r.startsPerHour.toNat ≤ 8),
    (16, 1 ≤ r.idleMin.toNat ∧ r.idleMin.toNat ≤ 240), (17, r.activityMode.toNat ≤ 1),
    (18, 1 ≤ r.activityThreshold.toNat),
    (19, 1 ≤ r.feedbackFilter.toNat ∧ r.feedbackFilter.toNat ≤ 8)]

/-- The record holds every row of a load record in use as it was sent. -/
structure LoadConfig.Carries (c : LoadConfig) (r : RawLoad) : Prop where
  inUse : c.inUse = true
  tag : c.tag = r.tag
  zone : c.zone.val = r.zone.toNat
  group : (c.group.map fun g => g.val) = if r.group = 0xFF then none else some r.group.toNat
  needs : c.needs.map Need.item = r.needs.map fun i => (i.1, i.2.toNat)
  nightExempt : c.nightExempt = decide (r.nightExempt = 1)
  wakePriority : c.wakePriority = r.wakePriority.toNat
  runKw : c.runKw = r.runKw.toNat
  inrushKw : c.inrushKw = r.inrushKw.toNat
  accelS : c.accelS = r.accelS.toNat
  startTimeoutS : c.startTimeoutS = r.startTimeoutS.toNat
  stopTimeoutS : c.stopTimeoutS = r.stopTimeoutS.toNat
  minRunS : c.minRunS = r.minRunS.toNat
  minOffS : c.minOffS = r.minOffS.toNat
  startsPerHour : c.startsPerHour = r.startsPerHour.toNat
  idleMin : c.idleMin = r.idleMin.toNat
  activityMode : c.activityMode = if r.activityMode = 1 then .level else .pulse
  activityThreshold : c.activityThreshold = r.activityThreshold.toNat
  feedbackFilter : c.feedbackFilter = r.feedbackFilter.toNat

theorem checkLoad_follows {r : RawLoad} (inUse : r.inUse = 1) :
    (checkLoad r).Follows (loadRows r) fun c => c.Carries r ∧ c.ok := by
  unfold checkLoad
  rw [inUse, useField_bind, if_pos rfl]
  refine .row (tagField_row 2 (by simp)) ?_
  rintro _ ⟨rfl, tag⟩
  refine .row (below_row 3 (by simp)) fun zone zoneSent => ?_
  refine .row (groupField_row 4 (by simp)) fun group groupSent => ?_
  refine .row (needsField_row 5 decide_eq_true_iff) ?_
  rintro needs ⟨needsSent, needsLength, needsNodup⟩
  refine .row (yesNo_row 6 (by simp)) fun nightExempt exemptSent => ?_
  refine .row (within_row 7 (by simp)) ?_
  rintro _ ⟨rfl, -, wakePriority⟩
  refine .row (within_row 8 (by simp)) ?_
  rintro _ ⟨rfl, -, runKw⟩
  refine .row (within_row 9 (by simp)) ?_
  rintro _ ⟨rfl, runInrush, inrushKw⟩
  refine .row (within_row 10 (by simp)) ?_
  rintro _ ⟨rfl, accelS⟩
  refine .row (within_row 11 (by simp)) ?_
  rintro _ ⟨rfl, startTimeoutS⟩
  refine .row (within_row 12 (by simp)) ?_
  rintro _ ⟨rfl, stopTimeoutS⟩
  refine .row (within_row 13 (by simp)) ?_
  rintro _ ⟨rfl, -, minRunS⟩
  refine .row (within_row 14 (by simp)) ?_
  rintro _ ⟨rfl, -, minOffS⟩
  refine .row (within_row 15 (by simp)) ?_
  rintro _ ⟨rfl, startsPerHour⟩
  refine .row (within_row 16 (by simp)) ?_
  rintro _ ⟨rfl, idleMin⟩
  refine .row (activityField_row 17 (by simp)) fun activityMode modeSent => ?_
  have byte := r.activityThreshold.isLt
  refine .row (within_row 18 (by simp; omega)) ?_
  rintro _ ⟨rfl, activityThreshold⟩
  refine .row (within_row 19 (by simp)) ?_
  rintro _ ⟨rfl, feedbackFilter⟩
  exact .pure ⟨⟨rfl, rfl, zoneSent, groupSent, needsSent, exemptSent, rfl, rfl, rfl, rfl, rfl, rfl, rfl, rfl, rfl, rfl,
    modeSent, rfl, rfl⟩, .inr ⟨rfl, tag, needsLength, needsNodup, wakePriority, runKw, runInrush, inrushKw, accelS,
    startTimeoutS, stopTimeoutS, minRunS, minOffS, startsPerHour, idleMin, activityThreshold, feedbackFilter⟩⟩

theorem checkLoad_unused {r : RawLoad} (h : r.inUse = 0) : checkLoad r = .ok {} := by
  unfold checkLoad
  rw [h]
  rfl

theorem checkLoad_badUse {r : RawLoad} (h : 1 < r.inUse.toNat) : checkLoad r = .error 1 := by
  unfold checkLoad
  rw [yesNo_none h]
  rfl

/-- An in_use byte is one of those three. -/
theorem useByte_cases (b : Byte) : b = 0 ∨ b = 1 ∨ 1 < b.toNat := by
  rw [byte_eq_one, ← BitVec.toNat_inj]
  exact (show b.toNat = 0 ∨ b.toNat = 1 ∨ 1 < b.toNat by omega)

theorem checkLoad_ok {r : RawLoad} {c : LoadConfig} (h : checkLoad r = .ok c) : c.ok := by
  rcases useByte_cases r.inUse with unused | used | bad
  · cases (checkLoad_unused unused).symm.trans h
    exact .inl rfl
  · exact ((checkLoad_follows used).holds h).2
  · cases (checkLoad_badUse bad).symm.trans h

/-! ## Groups (Table 1-2) -/

/-- The rows of a group record in use (Table 1-2). -/
def groupRows (r : RawGroup) : List (Byte × Bool) :=
  [(2, tagRow 1 r.tag), (3, 1 ≤ r.required.toNat ∧ r.required.toNat ≤ 64)]

theorem checkGroup_follows {r : RawGroup} (inUse : r.inUse = 1) :
    (checkGroup r).Follows (groupRows r) fun c =>
      (c.inUse = true ∧ c.tag = r.tag ∧ c.required = r.required.toNat) ∧ c.ok := by
  unfold checkGroup
  rw [inUse, useField_bind, if_pos rfl]
  refine .row (tagField_row 2 (by simp)) ?_
  rintro _ ⟨rfl, tag⟩
  refine .row (within_row 3 (by simp)) ?_
  rintro _ ⟨rfl, required⟩
  exact .pure ⟨⟨rfl, rfl, rfl⟩, .inr ⟨rfl, tag, required⟩⟩

theorem checkGroup_unused {r : RawGroup} (h : r.inUse = 0) : checkGroup r = .ok {} := by
  unfold checkGroup
  rw [h]
  rfl

theorem checkGroup_badUse {r : RawGroup} (h : 1 < r.inUse.toNat) : checkGroup r = .error 1 := by
  unfold checkGroup
  rw [yesNo_none h]
  rfl

theorem checkGroup_ok {r : RawGroup} {c : GroupConfig} (h : checkGroup r = .ok c) : c.ok := by
  rcases useByte_cases r.inUse with unused | used | bad
  · cases (checkGroup_unused unused).symm.trans h
    exact .inl rfl
  · exact ((checkGroup_follows used).holds h).2
  · cases (checkGroup_badUse bad).symm.trans h

/-! ## Panels (Table 7-1), call lines (Table 7-3) and the meter (Table 7-4) -/

/-- The rows of a panel record in use (Table 7-1). -/
def panelRows (r : RawPanel) : List (Byte × Bool) :=
  [(2, r.zone.toNat < 8), (3, 15 ≤ r.keepMin.toNat ∧ r.keepMin.toNat ≤ 900),
    (4, 2 ≤ r.keySamples.toNat ∧ r.keySamples.toNat ≤ 32)]

theorem checkPanel_follows {r : RawPanel} (inUse : r.inUse = 1) :
    (checkPanel r).Follows (panelRows r) fun c =>
      (c.inUse = true ∧ c.zone.val = r.zone.toNat ∧ c.keepMin = r.keepMin.toNat ∧
        c.keySamples = r.keySamples.toNat) ∧ c.ok := by
  unfold checkPanel
  rw [inUse, useField_bind, if_pos rfl]
  refine .row (below_row 2 (by simp)) fun zone zoneSent => ?_
  refine .row (within_row 3 (by simp)) ?_
  rintro _ ⟨rfl, keepMin⟩
  refine .row (within_row 4 (by simp)) ?_
  rintro _ ⟨rfl, keySamples⟩
  exact .pure ⟨⟨rfl, zoneSent, rfl, rfl⟩, .inr ⟨rfl, keepMin, keySamples⟩⟩

theorem checkPanel_unused {r : RawPanel} (h : r.inUse = 0) : checkPanel r = .ok {} := by
  unfold checkPanel
  rw [h]
  rfl

theorem checkPanel_badUse {r : RawPanel} (h : 1 < r.inUse.toNat) : checkPanel r = .error 1 := by
  unfold checkPanel
  rw [yesNo_none h]
  rfl

theorem checkPanel_ok {r : RawPanel} {c : PanelConfig} (h : checkPanel r = .ok c) : c.ok := by
  rcases useByte_cases r.inUse with unused | used | bad
  · cases (checkPanel_unused unused).symm.trans h
    exact .inl rfl
  · exact ((checkPanel_follows used).holds h).2
  · cases (checkPanel_badUse bad).symm.trans h

/-- The rows of a call record in use (Table 7-3). -/
def callRows (r : RawCall) : List (Byte × Bool) :=
  [(2, r.group.toNat < 8), (3, 5 ≤ r.callMin.toNat ∧ r.callMin.toNat ≤ 240), (4, r.activeLow.toNat ≤ 1),
    (5, 20 ≤ r.callSamples.toNat ∧ r.callSamples.toNat ≤ 400)]

theorem checkCall_follows {r : RawCall} (inUse : r.inUse = 1) :
    (checkCall r).Follows (callRows r) fun c =>
      (c.inUse = true ∧ c.group.val = r.group.toNat ∧ c.callMin = r.callMin.toNat ∧
        c.activeLow = decide (r.activeLow = 1) ∧ c.callSamples = r.callSamples.toNat) ∧ c.ok := by
  unfold checkCall
  rw [inUse, useField_bind, if_pos rfl]
  refine .row (below_row 2 (by simp)) fun group groupSent => ?_
  refine .row (within_row 3 (by simp)) ?_
  rintro _ ⟨rfl, callMin⟩
  refine .row (yesNo_row 4 (by simp)) fun activeLow lowSent => ?_
  refine .row (within_row 5 (by simp)) ?_
  rintro _ ⟨rfl, callSamples⟩
  exact .pure ⟨⟨rfl, groupSent, rfl, lowSent, rfl⟩, .inr ⟨rfl, callMin, callSamples⟩⟩

theorem checkCall_unused {r : RawCall} (h : r.inUse = 0) : checkCall r = .ok {} := by
  unfold checkCall
  rw [h]
  rfl

theorem checkCall_badUse {r : RawCall} (h : 1 < r.inUse.toNat) : checkCall r = .error 1 := by
  unfold checkCall
  rw [yesNo_none h]
  rfl

theorem checkCall_ok {r : RawCall} {c : CallConfig} (h : checkCall r = .ok c) : c.ok := by
  rcases useByte_cases r.inUse with unused | used | bad
  · cases (checkCall_unused unused).symm.trans h
    exact .inl rfl
  · exact ((checkCall_follows used).holds h).2
  · cases (checkCall_badUse bad).symm.trans h

/-- The rows of a meter record in use (Table 7-4). -/
def meterRows (r : RawMeter) : List (Byte × Bool) :=
  [(2, 1 ≤ r.whPerPulse.toNat ∧ r.whPerPulse.toNat ≤ 1000), (3, r.intervalMin = 15 ∨ r.intervalMin = 30),
    (4, 2 ≤ r.meterSamples.toNat ∧ r.meterSamples.toNat ≤ 8)]

/-- The row of interval_min, 15 or 30 (Table 7-4). -/
theorem intervalMin_follows {b : Byte} {f : Nat → Checked MeterConfig} {rows : List (Byte × Bool)}
    {held : MeterConfig → Prop} (rest : b.toNat = 15 ∨ b.toNat = 30 → (f b.toNat).Follows rows held) :
    Checked.Follows (if b.toNat = 15 ∨ b.toNat = 30 then .ok b.toNat >>= f else .error 3 >>= f)
      ((3, decide (b = 15 ∨ b = 30)) :: rows) held := by
  have range : (b = 15 ∨ b = 30) ↔ b.toNat = 15 ∨ b.toNat = 30 := by simp only [← BitVec.toNat_inj]; rfl
  simp only [range]
  split
  · next h => simp only [h, decide_true]; exact rest h
  · next h => simp only [h, decide_false]; exact rfl

theorem checkMeter_follows {r : RawMeter} (inUse : r.inUse = 1) :
    (checkMeter r).Follows (meterRows r) fun c =>
      (c.inUse = true ∧ c.whPerPulse = r.whPerPulse.toNat ∧ c.intervalMin = r.intervalMin.toNat ∧
        c.meterSamples = r.meterSamples.toNat) ∧ c.ok := by
  unfold checkMeter
  rw [inUse, useField_bind, if_pos rfl]
  refine .row (within_row 2 (by simp)) ?_
  rintro _ ⟨rfl, whPerPulse⟩
  refine intervalMin_follows fun intervalMin => ?_
  refine .row (within_row 4 (by simp)) ?_
  rintro _ ⟨rfl, meterSamples⟩
  exact .pure ⟨⟨rfl, rfl, rfl, rfl⟩, .inr ⟨rfl, whPerPulse, intervalMin, meterSamples⟩⟩

theorem checkMeter_unused {r : RawMeter} (h : r.inUse = 0) : checkMeter r = .ok {} := by
  unfold checkMeter
  rw [h]
  rfl

theorem checkMeter_badUse {r : RawMeter} (h : 1 < r.inUse.toNat) : checkMeter r = .error 1 := by
  unfold checkMeter
  rw [yesNo_none h]
  rfl

theorem checkMeter_ok {r : RawMeter} {c : MeterConfig} (h : checkMeter r = .ok c) : c.ok := by
  rcases useByte_cases r.inUse with unused | used | bad
  · cases (checkMeter_unused unused).symm.trans h
    exact .inl rfl
  · exact ((checkMeter_follows used).holds h).2
  · cases (checkMeter_badUse bad).symm.trans h

/-! ## The link (Table 6-2) -/

/-- The two rows of station k (Table 6-2). -/
abbrev stationRows (k : Nat) (b : Byte × Byte) : List (Byte × Bool) :=
  [(BitVec.ofNat 8 (3 + 2 * k), decide (b.1.toNat ≤ 1)), (BitVec.ofNat 8 (4 + 2 * k), decide (b.2.toNat ≤ 1))]

/-- The rows of a link record (Table 6-2). -/
def linkRows (r : RawLink) : List (Byte × Bool) :=
  (1, 100 ≤ r.pollPeriodMs.toNat ∧ r.pollPeriodMs.toNat ≤ 1000) ::
    (2, 5 ≤ r.replyTimeoutMs.toNat ∧ r.replyTimeoutMs.toNat ≤ 50) ::
    allStations.flatMap fun k => stationRows k.val r.stations[k]

/-- A station's settings, as the two bytes sent give them (Table 6-2). -/
def stationSent (b : Byte × Byte) : StationConfig where
  recovery := if b.1 = 1 then .manual else .auto
  silenceCountsIdle := decide (b.2 = 1)

theorem recoveryOf_row (row : Byte) (b : Byte) :
    Checked.Row (field row.toNat (recoveryOf b)) row (decide (b.toNat ≤ 1)) fun a =>
      a = if b = 1 then .manual else .auto := by
  simp only [byte_eq_one]
  unfold recoveryOf
  match b.toNat with
  | 0 | 1 => exact ⟨fun bad => by simp at bad, fun _ => ⟨_, rfl, rfl⟩⟩
  | _ + 2 => exact ⟨fun _ => rfl, fun ok => by simp at ok⟩

theorem stationField_follows {k : Nat} (h : k < 16) (b : Byte × Byte) :
    (stationField k b).Follows (stationRows k b) fun c => c = stationSent b := by
  have row3 : 3 + 2 * k = (BitVec.ofNat 8 (3 + 2 * k)).toNat := by simp; omega
  have row4 : 4 + 2 * k = (BitVec.ofNat 8 (4 + 2 * k)).toNat := by simp; omega
  unfold stationField
  rw [row3, row4]
  refine .row (recoveryOf_row _ _) ?_
  rintro _ rfl
  refine .row (yesNo_row _ (by simp)) ?_
  rintro _ rfl
  exact .pure rfl

theorem stationFields_follows (l : List (Byte × Byte)) {k : Nat} (h : k + l.length ≤ 16) :
    (stationFields k l).Follows ((l.zipIdx k).flatMap fun b => stationRows b.2 b.1) fun cs =>
      cs = l.map stationSent := by
  induction l generalizing k with
  | nil => exact .pure rfl
  | cons b l ih =>
    rw [List.length_cons] at h
    rw [List.zipIdx_cons, List.flatMap_cons]
    refine .bind (stationField_follows (by omega) b) ?_
    rintro _ rfl
    rw [← List.append_nil (List.flatMap _ _)]
    refine .bind (ih (by omega)) ?_
    rintro _ rfl
    exact .pure rfl

theorem stationRows_eq (r : RawLink) :
    (r.stations.toList.zipIdx 0).flatMap (fun b => stationRows b.2 b.1) =
      allStations.flatMap fun k => stationRows k.val r.stations[k] := by
  have listed : r.stations.toList.zipIdx 0 = allStations.map fun k => (r.stations[k], k.val) := by
    apply List.ext_getElem
    · simp [allStations]
    · intro i hi hj
      simp [allStations]
  rw [listed, List.flatMap_map]

theorem checkLink_follows (r : RawLink) :
    (checkLink r).Follows (linkRows r) fun c =>
      (c.pollPeriodMs = r.pollPeriodMs.toNat ∧ c.replyTimeoutMs = r.replyTimeoutMs.toNat ∧
        ∀ k : StationId, c.stations[k] = stationSent r.stations[k]) ∧ c.ok := by
  unfold checkLink
  refine .row (within_row 1 (by simp)) ?_
  rintro _ ⟨rfl, pollPeriodMs⟩
  refine .row (within_row 2 (by simp)) ?_
  rintro _ ⟨rfl, replyTimeoutMs⟩
  rw [← stationRows_eq, ← List.append_nil (List.flatMap _ _)]
  refine .bind (stationFields_follows _ (by simp)) ?_
  rintro _ rfl
  refine .pure ⟨⟨rfl, rfl, fun k => ?_⟩, pollPeriodMs, replyTimeoutMs⟩
  simp [List.getD_eq_getElem?_getD]

theorem checkLink_ok {r : RawLink} {c : LinkConfig} (h : checkLink r = .ok c) : c.ok :=
  ((checkLink_follows r).holds h).2

/-! ## The port (Table 8-1) -/

/-- The rows of a port record (Table 8-1). -/
def portRows (address speed parity : Byte) : List (Byte × Bool) :=
  [(1, 1 ≤ address.toNat ∧ address.toNat ≤ 31), (2, speed.toNat ≤ 4), (3, parity.toNat ≤ 1)]

theorem speedOf_row (b : Byte) :
    Checked.Row (field 2 (speedOf b)) 2 (decide (b.toNat ≤ 4)) fun a =>
      [Speed.b9600, .b19200, .b38400, .b57600, .b115200][b.toNat]? = some a := by
  unfold speedOf
  match b.toNat with
  | 0 | 1 | 2 | 3 | 4 => exact ⟨fun bad => by simp at bad, fun _ => ⟨_, rfl, rfl⟩⟩
  | _ + 5 => exact ⟨fun _ => rfl, fun ok => by simp at ok⟩

theorem parityOf_row (b : Byte) :
    Checked.Row (field 3 (parityOf b)) 3 (decide (b.toNat ≤ 1)) fun a => a = if b = 1 then .even else .none := by
  simp only [byte_eq_one]
  unfold parityOf
  match b.toNat with
  | 0 | 1 => exact ⟨fun bad => by simp at bad, fun _ => ⟨_, rfl, rfl⟩⟩
  | _ + 2 => exact ⟨fun _ => rfl, fun ok => by simp at ok⟩

theorem checkPort_follows (address speed parity : Byte) :
    (checkPort address speed parity).Follows (portRows address speed parity) fun c =>
      (c.address = address.toNat ∧
        [Speed.b9600, .b19200, .b38400, .b57600, .b115200][speed.toNat]? = some c.speed ∧
        c.parity = if parity = 1 then .even else .none) ∧ c.ok := by
  unfold checkPort
  refine .row (within_row 1 (by simp)) ?_
  rintro _ ⟨rfl, range⟩
  refine .row (speedOf_row _) fun speed speedSent => ?_
  refine .row (parityOf_row _) ?_
  rintro _ rfl
  exact .pure ⟨⟨rfl, speedSent, rfl⟩, range⟩

theorem checkPort_ok {address speed parity : Byte} {c : PortConfig} (h : checkPort address speed parity = .ok c) :
    c.ok := ((checkPort_follows address speed parity).holds h).2

/-! ## Zones (R5) and plans (Table 5-1) -/

/-- The one row of a zone record (R5). -/
def zoneRows (tag : List Byte) : List (Byte × Bool) := [(1, tagRow 0 tag)]

theorem tagField_follows (tag : List Byte) :
    (tagField 1 0 tag).Follows (zoneRows tag) fun t => t = tag ∧ tagOk 0 tag := by
  have one := tagField_row 1 (lo := 0) (t := tag) (good := tagRow 0 tag) (by simp)
  unfold Checked.Follows zoneRows
  cases good : tagRow 0 tag with
  | false => exact one.1 good
  | true => exact one.2 good

/-- The set of work days leaves bit 7 clear (R206). -/
theorem daysField_row (b : Byte) :
    Checked.Row (daysField 4 b) 4 (!b.getLsbD 7) fun a => a = b.setWidth 7 := by
  unfold daysField
  cases b.getLsbD 7 with
  | true => exact ⟨fun _ => rfl, nofun⟩
  | false => exact ⟨nofun, fun _ => ⟨_, rfl, rfl⟩⟩

/-- The span check, field 14 (R109). -/
theorem span_row {span need : Nat} {p : Plan} {held : Plan → Prop} (h : need ≤ span → held p) :
    Checked.Row (if span < need then (.error 14 : Checked Plan) else .ok p) 14 (decide (need ≤ span)) held :=
  ⟨fun bad => if_pos (Nat.lt_of_not_le (of_decide_eq_false bad)), fun ok =>
    ⟨p, if_neg (Nat.not_lt.2 (of_decide_eq_true ok)), h (of_decide_eq_true ok)⟩⟩

/-- The rows of a valid plan record, with the span check of field 14 (Table 5-1, R109). -/
def planRows (r : RawPlan) : List (Byte × Bool) :=
  [(3, tagRow 1 r.tag), (4, !r.workDays.getLsbD 7), (5, r.windDownTime.toNat ≤ 1439), (6, r.warningMin.toNat ≤ 60),
    (7, r.wakeTime.toNat ≤ 1439), (8, r.wakeGraceMin.toNat ≤ 120), (9, r.baseLeadS.toNat ≤ 3600),
    (10, 1 ≤ r.ceilingKw.toNat ∧ r.ceilingKw.toNat ≤ 60000), (11, r.intervalCeilingKw.toNat ≤ 60000),
    (12, r.nightPanels.toNat ≤ 1), (13, r.nightCalls.toNat ≤ 1),
    (14, r.warningMin.toNat + 30 ≤ planSpan r.windDownTime.toNat r.wakeTime.toNat)]

theorem checkPlan_follows {r : RawPlan} (valid : r.valid = 1) : (checkPlan r).Follows (planRows r) Plan.ok := by
  unfold checkPlan
  rw [valid, useField_bind, if_pos rfl]
  refine .row (tagField_row 3 (by simp)) ?_
  rintro _ ⟨rfl, tag⟩
  refine .row (daysField_row _) ?_
  rintro _ rfl
  refine .row (within_row 5 (by simp)) ?_
  rintro _ ⟨rfl, -, windDownTime⟩
  refine .row (within_row 6 (by simp)) ?_
  rintro _ ⟨rfl, -, warningMin⟩
  refine .row (within_row 7 (by simp)) ?_
  rintro _ ⟨rfl, -, wakeTime⟩
  refine .row (within_row 8 (by simp)) ?_
  rintro _ ⟨rfl, -, wakeGraceMin⟩
  refine .row (within_row 9 (by simp)) ?_
  rintro _ ⟨rfl, -, baseLeadS⟩
  refine .row (within_row 10 (by simp)) ?_
  rintro _ ⟨rfl, ceilingKw⟩
  refine .row (within_row 11 (by simp)) ?_
  rintro _ ⟨rfl, -, intervalCeilingKw⟩
  refine .row (yesNo_row 12 (by simp)) fun nightPanels _ => ?_
  refine .row (yesNo_row 13 (by simp)) fun nightCalls _ => ?_
  have number := r.planNo.isLt
  exact .last (span_row fun span => .inr ⟨rfl, by dsimp only; omega, tag, windDownTime, warningMin, wakeTime,
    wakeGraceMin, baseLeadS, ceilingKw, intervalCeilingKw, span⟩)

/-- A plan record that passes its check is in range (Table 5-1, R109). -/
theorem checkPlan_ok {r : RawPlan} {c : Plan} (h : checkPlan r = .ok c) : c.ok := by
  rcases useByte_cases r.valid with unused | used | bad
  · have empty : checkPlan r = .ok {} := by unfold checkPlan; rw [unused]; rfl
    cases empty.symm.trans h
    exact .inl rfl
  · exact (checkPlan_follows used).holds h
  · have refused : checkPlan r = .error 1 := by unfold checkPlan; rw [yesNo_none bad]; rfl
    cases refused.symm.trans h

end Sys2Proof.Machine
end

section
/-! What the rows that write the records, the store, uptime, the clock or the causes of the held condition make of
them; all else that stays is kept. -/

namespace Sys2Proof.Machine

/-! ## The records -/

/-- The default settings, those of an empty image, are in range (R2). -/
theorem Settings.default_ok : ({} : Settings).ok := by
  have tag : tagOk 0 [] := ⟨Nat.zero_le _, Nat.zero_le _, nofun⟩
  refine ⟨fun n => ?_, fun g => ?_, fun z => ?_, .inl rfl, .inl rfl, by decide, fun p => ?_, fun l => ?_, .inl rfl,
    by decide⟩
  · exact .inl (by simp)
  · exact .inl (by simp)
  · simpa using tag
  · exact .inl (by simp)
  · exact .inl (by simp)

/-- One record replaced, every record of a table keeps a property that it and the others have. -/
theorem forall_set {α : Type} {n : Nat} {P : α → Prop} {v : Vector α n} {i : Fin n} {a : α}
    (all : ∀ j : Fin n, P v[j]) (new : P a) (j : Fin n) : P (v.set i a)[j] := by
  simp only [Fin.getElem_fin, Vector.getElem_set]
  split
  · exact new
  · exact all j

theorem Settings.ok_of_plans {a b : Settings} (plans : a.PlansFrom b)
    (records : b = { a with active := b.active, staged := b.staged }) (h : a.ok) : b.ok := by
  obtain ⟨loads, groups, zones, active, staged, rest⟩ := h
  rw [records]
  obtain ⟨ea, es⟩ | ⟨ea, es⟩ := plans
  · exact ⟨loads, groups, zones, ea ▸ active, es ▸ staged, rest⟩
  · exact ⟨loads, groups, zones, ea ▸ staged, es ▸ active, rest⟩

theorem Part.KeepsStanding.recordsOk {s t : Part} (k : s.KeepsStanding t) (h : s.RecordsOk) : t.RecordsOk := by
  obtain ⟨held, inEffect, stored⟩ := h
  exact ⟨Settings.ok_of_plans k.plans k.records held, k.inEffect ▸ inEffect, k.cfs ▸ stored⟩

theorem Part.KeepsStanding.clockOk {s t : Part} (k : s.KeepsStanding t) (h : s.ClockOk) : t.ClockOk := by
  unfold Part.ClockOk
  rwa [k.clock]

/-- The records other than the plan slots, one by one. -/
theorem Part.KeepsStanding.records_each {s t : Part} (k : s.KeepsStanding t) :
    t.cfg.loads = s.cfg.loads ∧ t.cfg.groups = s.cfg.groups ∧ t.cfg.zones = s.cfg.zones ∧
      t.cfg.link = s.cfg.link ∧ t.cfg.panels = s.cfg.panels ∧ t.cfg.calls = s.cfg.calls ∧
      t.cfg.meter = s.cfg.meter ∧ t.cfg.port = s.cfg.port ∧ t.cfg.enable = s.cfg.enable := by
  rw [k.records]
  exact ⟨rfl, rfl, rfl, rfl, rfl, rfl, rfl, rfl, rfl⟩

/-- From s to t the records have been rewritten as `held` says, staying in range, and what else stays is kept. -/
def Part.Rewrites (s t : Part) (held : Settings → Prop) : Prop :=
  ∃ cfg, held cfg ∧ (s.cfg.ok → cfg.ok) ∧ Part.KeepsHolds { s with cfg := cfg } t

theorem Part.Rewrites.same {s : Part} {held : Settings → Prop} (h : held s.cfg) : s.Rewrites s held :=
  ⟨s.cfg, h, id, .refl s⟩

theorem rewrites_of_request {c : Instr} {rule : Part → Part × Answer} {s t : State} {held : Settings → Prop}
    (h : request c rule s = .next t) (same : held s.cfg) (ruled : s.Rewrites (rule s.toPart).1 held) :
    s.Rewrites t.toPart held := by
  refine request_cases (P := fun p => s.Rewrites p held) h (.same same) ?_
  obtain ⟨cfg, is, ok, kept⟩ := ruled
  exact ⟨cfg, is, ok, kept.trans (Part.keepsHolds_answer _ _ _)⟩

theorem rewrites_of_write {c : Instr} {rule : Part → Part × Answer} {s t : State} {held : Settings → Prop}
    (h : request c (writeGate rule) s = .next t) (same : held s.cfg) (ruled : s.Rewrites (rule s.toPart).1 held) :
    s.Rewrites t.toPart held :=
  rewrites_of_request h same (writeGate_cases (P := fun p => s.Rewrites p held) (.same same) ruled)

theorem rewrites_onRecord {n : Nat} {number : Byte} {rule : Fin n → Part → Part × Answer} {s : Part}
    {held : Settings → Prop} (same : held s.cfg) (ruled : ∀ i, s.Rewrites (rule i s).1 held) :
    s.Rewrites (onRecord number rule s).1 held :=
  onRecord_cases (P := fun p => s.Rewrites p held) (.same same) ruled

theorem Part.keepsHolds_writeLoad (s : Part) (n : LoadId) (c : LoadConfig) :
    Part.KeepsHolds { s with cfg := { s.cfg with loads := s.cfg.loads.set n c } } (s.writeLoad n c) :=
  .ite _ ((Part.keepsHolds_repollStation _ _ _).trans (Part.keepsHolds_changeUse _ n))
    (.ite _ (Part.loadWork_setLoad _ n _).keepsHolds (.refl _))

theorem exec_writeLoadConfig {s t : State} {number : Byte} {r : RawLoad}
    (h : exec (.writeLoadConfig number r) s = .next t) :
    s.Rewrites t.toPart fun cfg => ∃ loads, cfg = { s.cfg with loads := loads } := by
  have same : ∃ loads, s.cfg = { s.cfg with loads := loads } := ⟨_, rfl⟩
  refine rewrites_of_write h same (rewrites_onRecord same fun n => ?_)
  split
  · exact .same same
  · next c checked =>
    split
    · exact .same same
    · refine ⟨_, ⟨_, rfl⟩, fun ok => ?_, (s.keepsHolds_writeLoad n c).finish _⟩
      obtain ⟨loads, rest⟩ := ok
      exact ⟨forall_set loads (checkLoad_ok checked), rest⟩

theorem exec_writeGroup {s t : State} {number : Byte} {r : RawGroup} (h : exec (.writeGroup number r) s = .next t) :
    s.Rewrites t.toPart fun cfg => ∃ groups, cfg = { s.cfg with groups := groups } := by
  have same : ∃ groups, s.cfg = { s.cfg with groups := groups } := ⟨_, rfl⟩
  refine rewrites_of_write h same (rewrites_onRecord same fun g => ?_)
  split
  · exact .same same
  · next c checked =>
    refine ⟨_, ⟨_, rfl⟩, fun ok => ?_, .refl _⟩
    obtain ⟨loads, groups, rest⟩ := ok
    exact ⟨loads, forall_set groups (checkGroup_ok checked), rest⟩

theorem exec_writeZone {s t : State} {number : Byte} {tag : List Byte}
    (h : exec (.writeZone number tag) s = .next t) :
    s.Rewrites t.toPart fun cfg => ∃ zones, cfg = { s.cfg with zones := zones } := by
  have same : ∃ zones, s.cfg = { s.cfg with zones := zones } := ⟨_, rfl⟩
  refine rewrites_of_write h same (rewrites_onRecord same fun z => ?_)
  split
  · exact .same same
  · next c checked =>
    refine ⟨_, ⟨_, rfl⟩, fun ok => ?_, .refl _⟩
    obtain ⟨loads, groups, zones, rest⟩ := ok
    obtain ⟨rfl, inRange⟩ := (tagField_follows tag).holds checked
    exact ⟨loads, groups, forall_set (P := tagOk 0) zones inRange, rest⟩

theorem Part.keepsHolds_writePanel (s : Part) (q : PanelId) (c : PanelConfig) :
    Part.KeepsHolds { s with cfg := { s.cfg with panels := s.cfg.panels.set q c } } (s.writePanel q c) := by
  have lines (u : Part) (d d' : Debounce) : u.KeepsHolds ((u.setDebounce (.key q .keep) d).setDebounce (.key q .clear) d') :=
    (u.keepsHolds_setDebounce _ d).trans (Part.keepsHolds_setDebounce _ _ d')
  exact .ite _ ((lines _ _ _).trans ((Part.keepsHolds_setRefusal _ q none).trans (Part.keepsHolds_chooseLamp _ q)))
    (lines _ _ _)

theorem exec_writePanel {s t : State} {number : Byte} {r : RawPanel} (h : exec (.writePanel number r) s = .next t) :
    s.Rewrites t.toPart fun cfg => ∃ panels, cfg = { s.cfg with panels := panels } := by
  have same : ∃ panels, s.cfg = { s.cfg with panels := panels } := ⟨_, rfl⟩
  refine rewrites_of_write h same (rewrites_onRecord same fun q => ?_)
  split
  · exact .same same
  · next c checked =>
    refine ⟨_, ⟨_, rfl⟩, fun ok => ?_, s.keepsHolds_writePanel q c⟩
    obtain ⟨loads, groups, zones, active, staged, link, panels, rest⟩ := ok
    exact ⟨loads, groups, zones, active, staged, link, forall_set panels (checkPanel_ok checked), rest⟩

theorem exec_writeCall {s t : State} {number : Byte} {r : RawCall} (h : exec (.writeCall number r) s = .next t) :
    s.Rewrites t.toPart fun cfg => ∃ calls, cfg = { s.cfg with calls := calls } := by
  have same : ∃ calls, s.cfg = { s.cfg with calls := calls } := ⟨_, rfl⟩
  refine rewrites_of_write h same (rewrites_onRecord same fun l => ?_)
  split
  · exact .same same
  · next c checked =>
    refine ⟨_, ⟨_, rfl⟩, fun ok => ?_, Part.keepsHolds_setDebounce _ (.call l) _⟩
    obtain ⟨loads, groups, zones, active, staged, link, panels, calls, rest⟩ := ok
    exact ⟨loads, groups, zones, active, staged, link, panels, forall_set calls (checkCall_ok checked), rest⟩

theorem Part.keepsHolds_writeMeter (s : Part) (c : MeterConfig) :
    Part.KeepsHolds { s with cfg := { s.cfg with meter := c } } (s.writeMeter c) := by
  unfold Part.writeMeter
  dsimp only
  split <;> exact .of_eq rfl rfl rfl rfl rfl rfl rfl rfl rfl

theorem exec_writeMeter {s t : State} {r : RawMeter} (h : exec (.writeMeter r) s = .next t) :
    s.Rewrites t.toPart fun cfg => ∃ meter, cfg = { s.cfg with meter := meter } := by
  have same : ∃ meter, s.cfg = { s.cfg with meter := meter } := ⟨_, rfl⟩
  refine rewrites_of_write h same ?_
  split
  · exact .same same
  · next c checked =>
    refine ⟨_, ⟨_, rfl⟩, fun ok => ?_, s.keepsHolds_writeMeter c⟩
    obtain ⟨loads, groups, zones, active, staged, link, panels, calls, -, port⟩ := ok
    exact ⟨loads, groups, zones, active, staged, link, panels, calls, checkMeter_ok checked, port⟩

theorem exec_writeLink {s t : State} {r : RawLink} (h : exec (.writeLink r) s = .next t) :
    s.Rewrites t.toPart fun cfg => ∃ link, cfg = { s.cfg with link := link } := by
  have same : ∃ link, s.cfg = { s.cfg with link := link } := ⟨_, rfl⟩
  refine rewrites_of_write h same ?_
  split
  · exact .same same
  · next c checked =>
    refine ⟨{ s.cfg with link := c }, ⟨c, rfl⟩, fun ok => ?_, .of_eq rfl rfl rfl rfl rfl rfl rfl rfl rfl⟩
    obtain ⟨loads, groups, zones, active, staged, -, rest⟩ := ok
    exact ⟨loads, groups, zones, active, staged, checkLink_ok checked, rest⟩

theorem exec_writePort {s t : State} {a b d : Byte} (h : exec (.writePort a b d) s = .next t) :
    s.Rewrites t.toPart fun cfg => ∃ port, cfg = { s.cfg with port := port } := by
  have same : ∃ port, s.cfg = { s.cfg with port := port } := ⟨_, rfl⟩
  refine rewrites_of_write h same ?_
  split
  · exact .same same
  · next c checked =>
    split
    · exact .same same
    · refine ⟨_, ⟨_, rfl⟩, fun ok => ?_, .refl _⟩
      obtain ⟨loads, groups, zones, active, staged, link, panels, calls, meter, -⟩ := ok
      exact ⟨loads, groups, zones, active, staged, link, panels, calls, meter, checkPort_ok checked⟩

theorem exec_writePlan {s t : State} {arm : Byte} {r : RawPlan} (h : exec (.writePlan arm r) s = .next t) :
    s.Rewrites t.toPart fun cfg => ∃ staged, cfg = { s.cfg with staged := staged } := by
  have same : ∃ staged, s.cfg = { s.cfg with staged := staged } := ⟨_, rfl⟩
  refine rewrites_of_request h same (saveGate_cases (P := fun p => s.Rewrites p _) (.same same) ?_)
  split
  · exact .same same
  · split
    · exact .same same
    · next c checked =>
      refine ⟨_, ⟨_, rfl⟩, fun ok => ?_, (Part.keepsHolds_arm _ _).finish _⟩
      obtain ⟨loads, groups, zones, active, -, rest⟩ := ok
      exact ⟨loads, groups, zones, active, checkPlan_ok checked, rest⟩

theorem exec_setAttentionEnable {s t : State} {causes : Byte} (h : exec (.setAttentionEnable causes) s = .next t) :
    s.Rewrites t.toPart fun cfg => ∃ enable, cfg = { s.cfg with enable := enable } :=
  rewrites_of_request h ⟨_, rfl⟩ ⟨{ s.cfg with enable := causes }, ⟨causes, rfl⟩, id, .refl _⟩

/-! ## Uptime and the clock -/

theorem Part.reclassify_holds (s : Part) : s.reclassify.holds = s.holds := by
  unfold Part.reclassify
  split
  · split <;> rfl
  · split
    · rfl
    · rfl
    · exact s.changeMode_holds _ rfl
    · exact s.changeMode_holds _ rfl
    · exact s.changeMode_holds _ rfl
    · rfl
    · exact s.changeMode_holds _ rfl
    · exact s.changeMode_holds _ rfl
    · exact Part.runMoves_holds 8 _ _ (s.takeLead_notSetup _)
    · exact Part.runMoves_holds 8 _ _ (s.takeLead_notSetup _)
    · dsimp only
      split
      · split
        · exact Part.changeMode_holds _ _ rfl
        · rfl
      · rfl

theorem Part.keepsHolds_reclassify (s : Part) : s.KeepsHolds s.reclassify :=
  ⟨s.modeWork_reclassify.keepsStanding s.reclassify_plans, s.reclassify_holds, s.modeWork_reclassify.nextId⟩

/-- From s to t uptime and the clock have been set, the clock in range, and what else stays is kept. -/
def Part.Retimes (s t : Part) : Prop :=
  ∃ uptime clock, (s.ClockOk → clock.minute ≤ 10079 ∧ clock.second ≤ 59) ∧
    Part.KeepsHolds { s with ncc := { s.ncc with uptime := uptime, clock := clock } } t

theorem Part.Retimes.same (s : Part) : s.Retimes s := ⟨s.ncc.uptime, s.ncc.clock, id, .refl s⟩

theorem Part.Retimes.answered (s : Part) (c : Instr) (a : Answer) : s.Retimes (s.answer c a) :=
  ⟨s.ncc.uptime, s.ncc.clock, id, s.keepsHolds_answer c a⟩

theorem exec_setClock {s t : State} {minute : Half} {second : Byte} (h : exec (.setClock minute second) s = .next t) :
    s.Retimes t.toPart ∧ t.ncc.uptime = s.ncc.uptime := by
  refine request_cases (P := fun p => s.Retimes p ∧ p.ncc.uptime = s.ncc.uptime) h ⟨.same _, rfl⟩ ?_
  split
  · exact ⟨.answered _ _ _, rfl⟩
  · split
    · exact ⟨.answered _ _ _, rfl⟩
    · next hm hs =>
      have taken : Part.KeepsHolds { s.toPart with ncc := { s.ncc with
          uptime := s.ncc.uptime, clock := { valid := true, minute := minute.toNat, second := second.toNat } } }
          (s.clockTaken minute.toNat second.toNat) := .of_eq rfl rfl rfl rfl rfl rfl rfl rfl rfl
      have kept := (taken.trans (Part.keepsHolds_reclassify _)).finish s.toPart
      refine ⟨⟨_, _, fun _ => ?_, kept.trans (Part.keepsHolds_answer _ _ _)⟩, kept.uptime⟩
      simp only [Config.weekMinutes] at hm
      dsimp only
      omega

theorem Clock.tick_range {c : Clock} (h : c.minute ≤ 10079 ∧ c.second ≤ 59) :
    c.tick.minute ≤ 10079 ∧ c.tick.second ≤ 59 := by
  unfold Clock.tick
  split
  · exact h
  · split
    · exact ⟨h.1, by dsimp only; omega⟩
    · exact ⟨by dsimp only [Config.weekMinutes]; omega, by dsimp only; omega⟩

theorem exec_uptimeSecond {s t : State} (h : exec .uptimeSecond s = .next t) : s.Retimes t.toPart := by
  refine event_cases (P := fun p => s.Retimes p) h (.same _)
    ⟨min Config.counterMax (s.ncc.uptime + 1), s.ncc.clock.tick, fun range => Clock.tick_range range, ?_⟩
  refine Part.KeepsHolds.trans ?_ (s.loadWork_recomputeDemand _).keepsHolds
  exact .ite _ (.of_eq rfl rfl rfl rfl rfl rfl rfl rfl rfl) (.of_eq rfl rfl rfl rfl rfl rfl rfl rfl rfl)

/-! ## The store and the causes of the held condition -/

/-- What is asked of stored records holds where there are none. -/
theorem forall_mem_none {P : Settings → Prop} : ∀ d ∈ (none : Option Settings).toList, P d :=
  fun _ h => absurd h List.not_mem_nil

/-- The copy of a SAVE and the contents of the storage are in range (R196). -/
def ConfigStore.RecordsOk (c : ConfigStore) : Prop :=
  (∀ d ∈ c.copy.toList, Settings.ok d) ∧ ∀ d ∈ c.storage.contents.toList, Settings.ok d

/-- From s to t the causes have become those given and the store has been set, the records stored staying in range,
and what else stays is kept. -/
def Part.Restores (s t : Part) (power : Power) : Prop :=
  ∃ cfs, (s.cfg.ok → s.cfs.RecordsOk → cfs.RecordsOk) ∧ Part.KeepsHolds { s with power := power, cfs := cfs } t

theorem Part.Restores.same (s : Part) : s.Restores s s.power := ⟨s.cfs, fun _ => id, .refl s⟩

theorem Part.Restores.answer {s t : Part} {power : Power} (h : s.Restores t power) (c : Instr) (a : Answer) :
    s.Restores (t.answer c a) power :=
  h.imp fun _ kept => ⟨kept.1, kept.2.trans (t.keepsHolds_answer c a)⟩

/-- The store alone is set. -/
theorem Part.Restores.of_store (s : Part) {cfs : ConfigStore}
    (ok : s.cfg.ok → s.cfs.RecordsOk → cfs.RecordsOk) : s.Restores { s with cfs := cfs } s.power :=
  ⟨cfs, ok, .refl _⟩

theorem exec_save {s t : State} (h : exec .save s = .next t) : s.Restores t.toPart s.power := by
  refine request_cases (P := fun p => s.Restores p s.power) h (.same _) (.answer ?_ _ _)
  refine saveGate_cases (P := fun p => s.Restores p s.power) (.same _) ?_
  split
  · exact .of_store _ fun held _ => ⟨by simpa using held, forall_mem_none⟩
  · exact .same _

theorem exec_erasingComplete {s t : State} (h : exec .erasingComplete s = .next t) : s.Restores t.toPart s.power := by
  refine event_cases (P := fun p => s.Restores p s.power) h (.same _) ?_
  split
  · exact .of_store _ fun _ stored => stored
  · exact .same _

theorem exec_writingComplete {s t : State} (h : exec .writingComplete s = .next t) :
    s.Restores t.toPart s.power := by
  refine event_cases (P := fun p => s.Restores p s.power) h (.same _) ?_
  split
  · exact .of_store _ fun _ stored => ⟨stored.1, stored.1⟩
  · exact .same _

theorem Storage.afterCheck_contents (t : Storage) (r : CheckResult) :
    ∀ d ∈ (t.afterCheck r).contents.toList, d ∈ t.contents.toList := by
  cases r with
  | agrees | markWrong => exact fun _ => id
  | wordDiffers => exact fun _ h => absurd h List.not_mem_nil

theorem exec_checkingComplete {s t : State} {r : CheckResult} (h : exec (.checkingComplete r) s = .next t) :
    s.Restores t.toPart s.power := by
  refine event_cases (P := fun p => s.Restores p s.power) h (.same _) ?_
  split
  · refine (Part.Restores.of_store s.toPart fun _ stored => ⟨forall_mem_none, ?_⟩).imp fun _ kept =>
      ⟨kept.1, kept.2.trans (Part.loadWork_raise _ _).keepsHolds⟩
    exact fun d hd => stored.2 d (s.cfs.storage.afterCheck_contents r d hd)
  · exact .same _

theorem ConfigStore.cutShort_recordsOk {c : ConfigStore} (marked : Bool) (h : c.RecordsOk) :
    (c.cutShort marked).RecordsOk := by
  refine ⟨forall_mem_none, ?_⟩
  unfold ConfigStore.cutShort
  dsimp only
  split <;> exact h.2

/-- A cause of the held condition sets in: the store is cut short, and the causes change (R199, R203). -/
theorem Part.restores_hold (s : Part) (marked : Bool) (power : Power) :
    s.Restores { (if s.working then s.hold marked else s) with power := power } power := by
  split
  · exact ⟨s.cfs.cutShort marked, fun _ => ConfigStore.cutShort_recordsOk marked,
      .of_eq rfl rfl rfl rfl rfl rfl rfl rfl rfl⟩
  · exact ⟨s.cfs, fun _ => id, .of_eq rfl rfl rfl rfl rfl rfl rfl rfl rfl⟩

theorem exec_supplyLow {s t : State} {marked : Bool} (h : exec (.supplyLow marked) s = .next t) :
    ∃ power, s.Restores t.toPart power := by
  cases h
  exact ⟨_, s.restores_hold marked _⟩

theorem exec_resetLineAssert {s t : State} {marked : Bool} (h : exec (.resetLineAssert marked) s = .next t) :
    ∃ power, s.Restores t.toPart power := by
  cases h
  exact ⟨_, s.restores_hold marked _⟩

/-! ## Resets -/

/-- The records loaded at a reset, those of the image or the defaults, are in range (R196, R200). -/
theorem Storage.loaded_ok {c : Storage} (h : ∀ d ∈ c.contents.toList, Settings.ok d) : (c.image?.getD {}).ok := by
  cases image : c.image? with
  | none => exact Settings.default_ok
  | some d => exact h d (by simp [(Storage.image?_eq_some.1 image).2.2])

/-- The part as a RESET command reloads it from an image, before its mode is entered (R187, R201). -/
def Part.reloaded (s : Part) (image : Option Settings) : Part :=
  let cfg := image.getD {}
  { cfg := cfg
    loads := commandLoads cfg s.loads s.now
    dgv := resetGovernor cfg
    ncc := { s.ncc.keepBoundary cfg.meter.intervalMin with mode := .setup, late := false, armed := false }
    svp := { inEffect := cfg.port, lastReset := .command, lastResetAt := s.now }
    cfs := { storage := s.cfs.storage, image := loadedState image }
    freeCount := s.freeCount }

/-- The part as the supply or the reset line reloads it from an image, before its mode is entered (R200). -/
def Part.repowered (s : Part) (image : Option Settings) : Part :=
  let cfg := image.getD {}
  { cfg := cfg
    loads := powerLoads cfg
    dgv := resetGovernor cfg
    svp := { inEffect := cfg.port }
    cfs := { storage := s.cfs.storage, image := loadedState image }
    freeCount := s.freeCount }

/-- The part in the first mode of a reset, its lamps chosen (R130). -/
def Part.entered (s : Part) (good : Bool) : Part := (s.firstMode good).chooseLamps

theorem Part.commandResetFrom_eq (s : Part) (image : Option Settings) :
    s.commandResetFrom image =
      ((s.reloaded image).entered image.isSome).finish ((s.reloaded image).entered image.isSome).reclassify := rfl

theorem Part.powerResetFrom_eq (s : Part) (image : Option Settings) :
    s.powerResetFrom image =
      if image.isSome then (s.repowered image).entered image.isSome
      else ((s.repowered image).entered image.isSome).raise (.store false true) := rfl

theorem Part.keepsHolds_entered (s : Part) (good : Bool) : s.KeepsHolds (s.entered good) :=
  (s.keepsHolds_setMode _).trans (Part.keepsHolds_chooseLamps _)

theorem Part.keepsHolds_commandResetFrom (s : Part) (image : Option Settings) :
    (s.reloaded image).KeepsHolds (s.commandResetFrom image) :=
  ((Part.keepsHolds_entered _ _).trans (Part.keepsHolds_reclassify _)).finish _

theorem Part.keepsHolds_powerResetFrom (s : Part) (image : Option Settings) :
    (s.repowered image).KeepsHolds (s.powerResetFrom image) := by
  rw [Part.powerResetFrom_eq]
  exact .ite _ (Part.keepsHolds_entered _ _)
    ((Part.keepsHolds_entered _ _).trans (Part.loadWork_raise _ _).keepsHolds)

theorem Part.keepsHolds_commandReset (s : Part) : (s.reloaded s.cfs.storage.image?).KeepsHolds s.commandReset :=
  s.keepsHolds_commandResetFrom _

theorem Part.keepsHolds_powerReset (s : Part) : (s.repowered s.cfs.storage.image?).KeepsHolds s.powerReset :=
  s.keepsHolds_powerResetFrom _

/-- A RESET command keeps uptime and the clock (R105, R106). -/
theorem Part.commandReset_time (s : Part) :
    s.commandReset.ncc.uptime = s.ncc.uptime ∧ s.commandReset.ncc.clock = s.ncc.clock :=
  ⟨s.keepsHolds_commandReset.uptime, s.keepsHolds_commandReset.clock⟩

theorem Part.commandReset_recordsOk {s : Part} (h : s.RecordsOk) : s.commandReset.RecordsOk := by
  obtain ⟨-, -, -, contents⟩ := h
  have loaded := Storage.loaded_ok contents
  obtain ⟨-, -, -, -, -, -, -, -, -, port⟩ := id loaded
  exact s.keepsHolds_commandReset.recordsOk ⟨loaded, port, forall_mem_none, contents⟩

theorem Part.powerReset_recordsOk {s : Part} (h : s.RecordsOk) : s.powerReset.RecordsOk := by
  obtain ⟨-, -, -, contents⟩ := h
  have loaded := Storage.loaded_ok contents
  obtain ⟨-, -, -, -, -, -, -, -, -, port⟩ := id loaded
  exact s.keepsHolds_powerReset.recordsOk ⟨loaded, port, forall_mem_none, contents⟩

theorem Part.powerReset_clockOk (s : Part) : s.powerReset.ClockOk :=
  s.keepsHolds_powerReset.clockOk ⟨Nat.zero_le _, Nat.zero_le _⟩

/-- The end of a result keeps uptime and the clock, and the records in range (R168, R187). -/
theorem exec_resultEnd {s t : State} (h : exec .resultEnd s = .next t) :
    (t.ncc.uptime = s.ncc.uptime ∧ t.ncc.clock = s.ncc.clock) ∧ (s.RecordsOk → t.RecordsOk) := by
  unfold exec at h
  refine event_cases (P := fun p => (p.ncc.uptime = s.ncc.uptime ∧ p.ncc.clock = s.ncc.clock) ∧
    (s.RecordsOk → p.RecordsOk)) h ⟨⟨rfl, rfl⟩, id⟩ ?_
  split
  · next r _ =>
    cases r.after with
    | nothing => exact ⟨⟨rfl, rfl⟩, id⟩
    | takePort =>
      refine ⟨⟨rfl, rfl⟩, fun ⟨held, _, stored⟩ => ⟨held, ?_, stored⟩⟩
      obtain ⟨-, -, -, -, -, -, -, -, -, port⟩ := held
      exact port
    | carryOutReset =>
      rw [Part.endResult]
      exact ⟨s.commandReset_time, Part.commandReset_recordsOk⟩
  · exact ⟨⟨rfl, rfl⟩, id⟩

/-- The end of a cause resets the part, or changes the causes alone (R203, R204). -/
theorem Part.leaveHold_cases {P : Part → Prop} (s : Part) (reset : P s.powerReset) (same : P s) : P s.leaveHold := by
  unfold Part.leaveHold
  split <;> assumption

/-- POWER ON and RESET LINE RELEASE leave the part, but for its causes, or reset it (R203, R204). -/
theorem exec_endOfCause {s t : State} {c : Instr} (row : c = .powerOn ∨ c = .resetLineRelease)
    (h : exec c s = .next t) :
    ∃ power : Power, t.toPart = { s.toPart with power := power } ∨
      t.toPart = Part.powerReset { s.toPart with power := power } := by
  obtain rfl | rfl := row <;> cases h
  · by_cases low : s.power.supplyLow = true
    · refine ⟨{ s.power with supplyLow := false }, ?_⟩
      simp only [low, if_true]
      exact Part.leaveHold_cases (P := fun p => p = _ ∨ p = _) _ (.inr rfl) (.inl rfl)
    · exact ⟨s.power, .inl (if_neg low)⟩
  · by_cases low : s.power.resetLow = true
    · refine ⟨{ s.power with resetLow := false }, ?_⟩
      simp only [low, if_true]
      exact Part.leaveHold_cases (P := fun p => p = _ ∨ p = _) _ (.inr rfl) (.inl rfl)
    · exact ⟨s.power, .inl (if_neg low)⟩

end Sys2Proof.Machine
end

section
/-! What every step keeps of the records and the clock, and which rows may change what stays. -/

namespace Sys2Proof.Machine

theorem Part.Rewrites.recordsOk {s t : Part} {held : Settings → Prop} (h : s.Rewrites t held) (ok : s.RecordsOk) :
    t.RecordsOk := by
  obtain ⟨cfg, -, kept, stays⟩ := h
  exact stays.recordsOk ⟨kept ok.1, ok.2⟩

theorem Part.Retimes.recordsOk {s t : Part} (h : s.Retimes t) (ok : s.RecordsOk) : t.RecordsOk := by
  obtain ⟨uptime, clock, -, stays⟩ := h
  exact stays.recordsOk ok

theorem Part.Restores.recordsOk {s t : Part} {power : Power} (h : s.Restores t power) (ok : s.RecordsOk) :
    t.RecordsOk := by
  obtain ⟨cfs, stored, stays⟩ := h
  obtain ⟨held, inEffect, old⟩ := ok
  exact stays.recordsOk ⟨held, inEffect, stored held old⟩

theorem Part.Rewrites.clockOk {s t : Part} {held : Settings → Prop} (h : s.Rewrites t held) (ok : s.ClockOk) :
    t.ClockOk := by
  obtain ⟨cfg, -, -, stays⟩ := h
  exact stays.clockOk ok

theorem Part.Retimes.clockOk {s t : Part} (h : s.Retimes t) (ok : s.ClockOk) : t.ClockOk := by
  obtain ⟨uptime, clock, range, stays⟩ := h
  exact stays.clockOk (range ok)

theorem Part.Restores.clockOk {s t : Part} {power : Power} (h : s.Restores t power) (ok : s.ClockOk) :
    t.ClockOk := by
  obtain ⟨cfs, -, stays⟩ := h
  exact stays.clockOk ok

/-- Every row keeps the records in range and the clock inside the week (R2, R106). -/
theorem exec_keepsRanges {c : Instr} {s t : State} (h : exec c s = .next t) :
    (s.RecordsOk → t.RecordsOk) ∧ (s.ClockOk → t.ClockOk) := by
  cases standing : c.mayChangeStanding with
  | false => exact ⟨(exec_keepsStanding standing h).recordsOk, (exec_keepsStanding standing h).clockOk⟩
  | true =>
    cases c with
    | writeLoadConfig => exact ⟨(exec_writeLoadConfig h).recordsOk, (exec_writeLoadConfig h).clockOk⟩
    | writeGroup => exact ⟨(exec_writeGroup h).recordsOk, (exec_writeGroup h).clockOk⟩
    | writeZone => exact ⟨(exec_writeZone h).recordsOk, (exec_writeZone h).clockOk⟩
    | writePanel => exact ⟨(exec_writePanel h).recordsOk, (exec_writePanel h).clockOk⟩
    | writeCall => exact ⟨(exec_writeCall h).recordsOk, (exec_writeCall h).clockOk⟩
    | writeMeter => exact ⟨(exec_writeMeter h).recordsOk, (exec_writeMeter h).clockOk⟩
    | writeLink => exact ⟨(exec_writeLink h).recordsOk, (exec_writeLink h).clockOk⟩
    | writePort => exact ⟨(exec_writePort h).recordsOk, (exec_writePort h).clockOk⟩
    | writePlan => exact ⟨(exec_writePlan h).recordsOk, (exec_writePlan h).clockOk⟩
    | setAttentionEnable => exact ⟨(exec_setAttentionEnable h).recordsOk, (exec_setAttentionEnable h).clockOk⟩
    | setClock => exact ⟨(exec_setClock h).1.recordsOk, (exec_setClock h).1.clockOk⟩
    | uptimeSecond => exact ⟨(exec_uptimeSecond h).recordsOk, (exec_uptimeSecond h).clockOk⟩
    | save => exact ⟨(exec_save h).recordsOk, (exec_save h).clockOk⟩
    | erasingComplete => exact ⟨(exec_erasingComplete h).recordsOk, (exec_erasingComplete h).clockOk⟩
    | writingComplete => exact ⟨(exec_writingComplete h).recordsOk, (exec_writingComplete h).clockOk⟩
    | checkingComplete => exact ⟨(exec_checkingComplete h).recordsOk, (exec_checkingComplete h).clockOk⟩
    | supplyLow =>
      obtain ⟨power, held⟩ := exec_supplyLow h
      exact ⟨held.recordsOk, held.clockOk⟩
    | resetLineAssert =>
      obtain ⟨power, held⟩ := exec_resetLineAssert h
      exact ⟨held.recordsOk, held.clockOk⟩
    | resultEnd =>
      obtain ⟨⟨-, clock⟩, records⟩ := exec_resultEnd h
      refine ⟨records, fun ok => ?_⟩
      unfold Part.ClockOk
      rwa [clock]
    | powerOn | resetLineRelease =>
      obtain ⟨power, left | reset⟩ := exec_endOfCause (by simp) h
      · exact ⟨fun ok => left ▸ ok, fun ok => left ▸ ok⟩
      · exact ⟨fun ok => reset ▸ Part.powerReset_recordsOk ok, fun _ => reset ▸ Part.powerReset_clockOk _⟩
    | _ => cases standing

/-- A property that every row keeps is kept by every step (R104). -/
theorem step_keeps {P : Part → Prop} (row : ∀ (c : Instr) (s t : State), exec c s = .next t → P s.toPart → P t.toPart)
    {s t : State} (h : step s = .next t) (ok : P s.toPart) : P t.toPart := by
  unfold step at h
  split at h
  · cases h; exact ok
  · exact row _ _ t h ok

/-- Settles O47: every row keeps the records, held, in effect, copied and stored, and the clock in range. -/
theorem recordsStayInRange : Obligations.RecordsStayInRange :=
  ⟨fun _ _ ok h => step_keeps (P := Part.RecordsOk) (fun _ _ _ row => (exec_keepsRanges row).1) h ok,
    fun _ _ ok h => step_keeps (P := Part.ClockOk) (fun _ _ _ row => (exec_keepsRanges row).2) h ok⟩

/-! ## Who may change what -/

/-- The records that the row may not rewrite are in b what they are in a (R10, R194). -/
def LeavesRecords (c : Instr) (a b : Settings) : Prop :=
  ((∀ n r, c ≠ .writeLoadConfig n r) → b.loads = a.loads) ∧
  ((∀ n r, c ≠ .writeGroup n r) → b.groups = a.groups) ∧
  ((∀ n r, c ≠ .writeZone n r) → b.zones = a.zones) ∧
  ((∀ r, c ≠ .writeLink r) → b.link = a.link) ∧
  ((∀ n r, c ≠ .writePanel n r) → b.panels = a.panels) ∧
  ((∀ n r, c ≠ .writeCall n r) → b.calls = a.calls) ∧
  ((∀ r, c ≠ .writeMeter r) → b.meter = a.meter) ∧
  ((∀ x y z, c ≠ .writePort x y z) → b.port = a.port) ∧
  ((∀ e, c ≠ .setAttentionEnable e) → b.enable = a.enable)

/-- What a row may change of the records, the port settings, the time, the holds, the store and the causes. -/
def ChangesOnly (c : Instr) (s t : Part) : Prop :=
  (c.mayReset = false →
    LeavesRecords c s.cfg t.cfg ∧ t.svp.inEffect = s.svp.inEffect ∧ t.svp.lastReset = s.svp.lastReset) ∧
  (c ≠ .uptimeSecond → c ≠ .powerOn → c ≠ .resetLineRelease →
    t.ncc.uptime = s.ncc.uptime ∧ ((∀ m x, c ≠ .setClock m x) → t.ncc.clock = s.ncc.clock)) ∧
  (c.mayChangeHolds = false → t.holds = s.holds ∧ t.nextId = s.nextId) ∧
  (c.mayChangeStore = false → t.cfs = s.cfs) ∧
  (c.actsWhileHeld = false → c.mayReset = false → t.power = s.power)

theorem leavesRecords_refl (c : Instr) (a : Settings) : LeavesRecords c a a := by
  simp [LeavesRecords]

theorem Part.KeepsStanding.leavesRecords {c : Instr} {a : Settings} {u t : Part} (kept : u.KeepsStanding t)
    (h : LeavesRecords c a u.cfg) : LeavesRecords c a t.cfg := by
  rw [kept.records]
  exact h

/-- A row that rewrites records other than the plan slots at most in its own table, and keeps the rest. -/
theorem Part.Rewrites.changesOnly {c : Instr} {s t : Part} {held : Settings → Prop} (h : s.Rewrites t held)
    (leaves : ∀ cfg, held cfg → LeavesRecords c s.cfg cfg) : ChangesOnly c s t := by
  obtain ⟨cfg, is, -, kept⟩ := h
  exact ⟨fun _ => ⟨kept.leavesRecords (leaves cfg is), kept.inEffect, kept.lastReset⟩,
    fun _ _ _ => ⟨kept.uptime, fun _ => kept.clock⟩, fun _ => ⟨kept.holds, kept.nextId⟩, fun _ => kept.cfs,
    fun _ _ => kept.power⟩

/-- A row of the store that leaves the causes. -/
theorem Part.Restores.changesOnly {c : Instr} {s t : Part} {power : Power} (h : s.Restores t power)
    (store : c.mayChangeStore = true) (causes : c.actsWhileHeld = false → power = s.power) :
    ChangesOnly c s t := by
  obtain ⟨cfs, -, kept⟩ := h
  refine ⟨fun _ => ⟨kept.leavesRecords (leavesRecords_refl c _), kept.inEffect, kept.lastReset⟩,
    fun _ _ _ => ⟨kept.uptime, fun _ => kept.clock⟩, fun _ => ⟨kept.holds, kept.nextId⟩, fun no => ?_,
    fun free _ => kept.power.trans (causes free)⟩
  rw [store] at no
  cases no

theorem exec_changesOnly {c : Instr} {s t : State} (h : exec c s = .next t) : ChangesOnly c s.toPart t.toPart := by
  cases standing : c.mayChangeStanding with
  | false =>
    have kept := exec_keepsStanding standing h
    exact ⟨fun _ => ⟨kept.leavesRecords (leavesRecords_refl c _), kept.inEffect, kept.lastReset⟩,
      fun _ _ _ => ⟨kept.uptime, fun _ => kept.clock⟩,
      fun may => ⟨(exec_keepsHolds standing may h).holds, (exec_keepsHolds standing may h).nextId⟩,
      fun _ => kept.cfs, fun _ _ => kept.power⟩
  | true =>
    cases c with
    | writeLoadConfig => exact (exec_writeLoadConfig h).changesOnly fun _ ⟨_, e⟩ => by simp [LeavesRecords, e]
    | writeGroup => exact (exec_writeGroup h).changesOnly fun _ ⟨_, e⟩ => by simp [LeavesRecords, e]
    | writeZone => exact (exec_writeZone h).changesOnly fun _ ⟨_, e⟩ => by simp [LeavesRecords, e]
    | writePanel => exact (exec_writePanel h).changesOnly fun _ ⟨_, e⟩ => by simp [LeavesRecords, e]
    | writeCall => exact (exec_writeCall h).changesOnly fun _ ⟨_, e⟩ => by simp [LeavesRecords, e]
    | writeMeter => exact (exec_writeMeter h).changesOnly fun _ ⟨_, e⟩ => by simp [LeavesRecords, e]
    | writeLink => exact (exec_writeLink h).changesOnly fun _ ⟨_, e⟩ => by simp [LeavesRecords, e]
    | writePort => exact (exec_writePort h).changesOnly fun _ ⟨_, e⟩ => by simp [LeavesRecords, e]
    | writePlan => exact (exec_writePlan h).changesOnly fun _ ⟨_, e⟩ => by simp [LeavesRecords, e]
    | setAttentionEnable =>
      exact (exec_setAttentionEnable h).changesOnly fun _ ⟨_, e⟩ => by simp [LeavesRecords, e]
    | setClock m x =>
      obtain ⟨⟨_, _, -, kept⟩, uptime⟩ := exec_setClock h
      exact ⟨fun _ => ⟨kept.leavesRecords (leavesRecords_refl _ _), kept.inEffect, kept.lastReset⟩,
        fun _ _ _ => ⟨uptime, fun other => absurd rfl (other m x)⟩, fun _ => ⟨kept.holds, kept.nextId⟩,
        fun _ => kept.cfs, fun _ _ => kept.power⟩
    | uptimeSecond =>
      obtain ⟨_, _, -, kept⟩ := exec_uptimeSecond h
      exact ⟨fun _ => ⟨kept.leavesRecords (leavesRecords_refl _ _), kept.inEffect, kept.lastReset⟩,
        fun other => absurd rfl other, fun _ => ⟨kept.holds, kept.nextId⟩, fun _ => kept.cfs, fun _ _ => kept.power⟩
    | save => exact (exec_save h).changesOnly rfl fun _ => rfl
    | erasingComplete => exact (exec_erasingComplete h).changesOnly rfl fun _ => rfl
    | writingComplete => exact (exec_writingComplete h).changesOnly rfl fun _ => rfl
    | checkingComplete => exact (exec_checkingComplete h).changesOnly rfl fun _ => rfl
    | supplyLow => exact (exec_supplyLow h).elim fun _ held => held.changesOnly rfl nofun
    | resetLineAssert => exact (exec_resetLineAssert h).elim fun _ held => held.changesOnly rfl nofun
    | resultEnd =>
      obtain ⟨⟨uptime, clock⟩, -⟩ := exec_resultEnd h
      exact ⟨nofun, fun _ _ _ => ⟨uptime, fun _ => clock⟩, nofun, nofun, nofun⟩
    | powerOn => exact ⟨nofun, fun _ other => absurd rfl other, nofun, nofun, nofun⟩
    | resetLineRelease => exact ⟨nofun, fun _ _ other => absurd rfl other, nofun, nofun, nofun⟩
    | _ => cases standing

/-- Settles O59: the rows that keep what stays change nothing of it, and each of the others its own part alone. -/
theorem onlyItsCommandsChangeIt : Obligations.OnlyItsCommandsChangeIt := by
  intro s t c h
  obtain ⟨records, time, holds, store, causes⟩ := exec_changesOnly h
  refine ⟨fun still => ?_, time, holds, store, causes⟩
  obtain ⟨⟨loads, groups, zones, link, panels, calls, meter, port, enable⟩, inEffect, lastReset⟩ := records still
  exact ⟨loads, groups, zones, link, panels, calls, meter, port, enable, inEffect, lastReset⟩

end Sys2Proof.Machine
end

section
/-! The configuration writes: their gates and refusals, the load record's check, and WRITE GROUP, ZONE, PORT and LINK
(R2 to R6, R10, R133, R168, R173). -/

namespace Sys2Proof.Machine

/-! ## Gates and refusals -/

/-- The request is refused with RANGE and the row, and nothing changes (R3, R174). -/
def State.refuses (s : State) (c : Instr) (row : Byte) : Prop :=
  s.canServe c = true → exec c s = .next (s.answered c s.toPart { status := .range, data := [row] })

theorem Answer.range_toNat (row : Byte) : Answer.range row.toNat = { status := .range, data := [row] } := by
  simp [Answer.range]

theorem saveGate_answers_busy {c : Instr} {rule : Part → Part × Answer} {s : State} (can : s.canServe c = true)
    (saving : s.saving = true) :
    request c (saveGate rule) s = .next (s.answered c s.toPart { status := .busy }) := by
  rw [request_served can, saveGate_busy saving]

theorem writeGate_answers_wrongMode {c : Instr} {rule : Part → Part × Answer} {s : State} (can : s.canServe c = true)
    (still : s.saving = false) (mode : s.mode ≠ .setup) :
    request c (writeGate rule) s = .next (s.answered c s.toPart { status := .wrongMode }) := by
  rw [request_served can, writeGate_wrongMode still mode]

/-- A configuration write that passes its gates is answered by its rule. -/
theorem writeGate_served {c : Instr} {rule : Part → Part × Answer} {s : State} (open_ : s.writable)
    (can : s.canServe c = true) :
    request c (writeGate rule) s = .next (s.answered c (rule s.toPart).1 (rule s.toPart).2) := by
  rw [request_served can, writeGate_open open_]

theorem onRecord_refused {n : Nat} {number : Byte} (rule : Fin n → Part → Part × Answer) (s : Part)
    (h : n ≤ number.toNat) : onRecord number rule s = (s, .range 0) := by
  simp [onRecord, below, Nat.not_lt.2 h]

theorem onRecord_eq {n : Nat} {number : Byte} {i : Fin n} (rule : Fin n → Part → Part × Answer) (s : Part)
    (h : number.toNat = i.val) : onRecord number rule s = rule i s := by
  simp [onRecord, below_eq_some.2 h]

/-- A write without a record number is refused at the row at which its check ends. -/
theorem refuses_of_error {c : Instr} {rule : Part → Part × Answer} {s : State} {row : Byte} (open_ : s.writable)
    (row_of_c : exec c s = request c (writeGate rule) s) (refused : rule s.toPart = (s.toPart, .range row.toNat)) :
    s.refuses c row := by
  intro can
  rw [row_of_c, writeGate_served open_ can, refused, Answer.range_toNat]

/-- A write of a numbered record is refused at field 0 where no record has the number, and else at the row at which
the check of its record ends (R3, R182). -/
theorem refuses_numbered {α : Type} {n : Nat} {c : Instr} {number : Byte} {check : Checked α}
    {rule : Fin n → Part → Part × Answer} {s : State} (open_ : s.writable)
    (row_of_c : exec c s = request c (writeGate (onRecord number rule)) s)
    (checked : ∀ i row, check = .error row → rule i s.toPart = (s.toPart, .range row)) :
    (n ≤ number.toNat → s.refuses c 0) ∧
      ∀ row : Byte, number.toNat < n → check = .error row.toNat → s.refuses c row := by
  refine ⟨fun none => refuses_of_error open_ row_of_c (onRecord_refused rule _ none), fun row named bad => ?_⟩
  refine refuses_of_error open_ row_of_c ?_
  rw [onRecord_eq (i := ⟨number.toNat, named⟩) rule _ rfl, checked _ _ bad]

/-- Settles O7: the two gates answer before the rule, and a rule that ends its check at a row answers that row. -/
theorem configurationGates : Obligations.ConfigurationGates := by
  refine ⟨fun c s can => ⟨fun which saving => ?_, fun write still mode => ?_⟩, fun s open_ => ?_⟩
  · obtain write | ⟨a, p, rfl⟩ | rfl | rfl := which
    · cases c with
      | writeLoadConfig | writeGroup | writeZone | writePanel | writeCall | writeMeter | writeLink | writePort =>
        exact saveGate_answers_busy can saving
      | _ => cases write
    all_goals exact saveGate_answers_busy can saving
  · cases c with
    | writeLoadConfig | writeGroup | writeZone | writePanel | writeCall | writeMeter | writeLink | writePort =>
      exact writeGate_answers_wrongMode can still mode
    | _ => cases write
  · refine ⟨fun number r => ?_, fun number r => ?_, fun number tag => ?_, fun number r => ?_, fun number r => ?_,
      fun r => ?_, fun r row bad => ?_, fun a b d row bad => ?_⟩
    · obtain ⟨unnamed, refused⟩ := refuses_numbered (c := .writeLoadConfig number r) (check := checkLoad r) open_ rfl
        fun i row bad => by simp only [bad]
      exact ⟨unnamed, fun named => ⟨fun bad => refused 1 (by omega) (checkLoad_badUse bad),
        fun used row bad => refused _ (by omega) ((checkLoad_follows used).error bad)⟩⟩
    · obtain ⟨unnamed, refused⟩ := refuses_numbered (c := .writeGroup number r) (check := checkGroup r) open_ rfl
        fun i row bad => by simp only [bad]
      exact ⟨unnamed, fun named => ⟨fun bad => refused 1 (by omega) (checkGroup_badUse bad),
        fun used row bad => refused _ (by omega) ((checkGroup_follows used).error bad)⟩⟩
    · obtain ⟨unnamed, refused⟩ := refuses_numbered (c := .writeZone number tag) (check := tagField 1 0 tag) open_ rfl
        fun i row bad => by simp only [bad]
      exact ⟨unnamed, fun named row bad => refused _ (by omega) ((tagField_follows tag).error bad)⟩
    · obtain ⟨unnamed, refused⟩ := refuses_numbered (c := .writePanel number r) (check := checkPanel r) open_ rfl
        fun i row bad => by simp only [bad]
      exact ⟨unnamed, fun named => ⟨fun bad => refused 1 (by omega) (checkPanel_badUse bad),
        fun used row bad => refused _ (by omega) ((checkPanel_follows used).error bad)⟩⟩
    · obtain ⟨unnamed, refused⟩ := refuses_numbered (c := .writeCall number r) (check := checkCall r) open_ rfl
        fun i row bad => by simp only [bad]
      exact ⟨unnamed, fun named => ⟨fun bad => refused 1 (by omega) (checkCall_badUse bad),
        fun used row bad => refused _ (by omega) ((checkCall_follows used).error bad)⟩⟩
    · exact ⟨fun bad => refuses_of_error (row := 1) open_ rfl (by simp only [checkMeter_badUse bad]; rfl),
        fun used row bad => refuses_of_error open_ rfl (by simp only [(checkMeter_follows used).error bad])⟩
    · exact refuses_of_error open_ rfl (by simp only [(checkLink_follows r).error bad])
    · exact refuses_of_error open_ rfl (by simp only [(checkPort_follows a b d).error bad])

/-! ## Records against their tables -/

/-- Settles O8: the check follows the rows of Table 1-1, and what passes carries them. -/
theorem loadRecordRanges : Obligations.LoadRecordRanges := by
  refine fun r => ⟨fun used => ⟨?_, fun c passed => ?_⟩, checkLoad_unused, checkLoad_badUse⟩
  · rw [(checkLoad_follows used).passes]
    simp only [loadRows, List.forall_mem_cons, List.not_mem_nil, false_imp_iff, implies_true, and_true,
      decide_eq_true_eq]
  · have carried := ((checkLoad_follows used).holds passed).1
    exact ⟨carried.inUse, carried.tag, carried.zone, carried.wakePriority, carried.runKw, carried.inrushKw,
      carried.accelS, carried.startTimeoutS, carried.stopTimeoutS, carried.minRunS, carried.minOffS,
      carried.startsPerHour, carried.idleMin, carried.activityThreshold, carried.feedbackFilter, carried.group,
      carried.needs, carried.nightExempt, carried.activityMode⟩

theorem okIf_ne {α : Type} [DecidableEq α] [BEq α] [LawfulBEq α] (a b : α) : okIf (a != b) = if a = b then .noChange else .ok := by
  by_cases h : a = b <;> simp [okIf, h]

theorem u8_of_toNat {number : Byte} {n : Nat} (h : number.toNat = n) : u8 n = [number] := by
  simp [u8, byte, ← h]

/-- What WRITE LINK leaves, and that it leaves all else (R133). -/
theorem Part.writeLink_station (s : Part) (c : LinkConfig) (k : StationId) :
    (s.writeLink c).station k =
      if (s.cfg.link.stations[k]).recovery = (c.stations[k]).recovery then s.station k
      else { s.station k with goodRun := 0, recoverArmed := false } := by
  have written : (s.writeLink c).station k =
      if (s.cfg.link.stations[k]).recovery != (c.stations[k]).recovery then
        { s.station k with goodRun := 0, recoverArmed := false } else s.station k :=
    tabulate_getElem _ k.val k.isLt
  rw [written]
  by_cases h : (s.cfg.link.stations[k]).recovery = (c.stations[k]).recovery
  · rw [if_pos h, if_neg fun ne => (bne_iff_ne.1 ne) h]
  · rw [if_neg h, if_pos (bne_iff_ne.2 h)]

/-- Settles O11: the checks follow Tables 1-2, 8-1 and 6-2, and each rule replaces its record. -/
theorem writeGroupZonePortLink : Obligations.WriteGroupZonePortLink := by
  refine ⟨fun r => ⟨checkGroup_unused, checkGroup_badUse, fun used => ⟨?_, fun c passed => ?_⟩⟩,
    fun a b d => ⟨?_, fun c passed => ?_⟩, fun r => ⟨?_, fun c passed => ?_⟩, fun s open_ =>
    ⟨fun number r g c can named passed => ?_, fun number tag z can named length chars => ?_,
      fun a b d c can passed => ?_, fun r c can passed => ?_⟩⟩
  · rw [(checkGroup_follows used).passes]
    simp only [groupRows, List.forall_mem_cons, List.not_mem_nil, false_imp_iff, implies_true, and_true,
      decide_eq_true_eq]
  · exact ((checkGroup_follows used).holds passed).1
  · rw [(checkPort_follows a b d).passes]
    simp only [portRows, List.forall_mem_cons, List.not_mem_nil, false_imp_iff, implies_true, and_true,
      decide_eq_true_eq]
  · exact ((checkPort_follows a b d).holds passed).1
  · rw [(checkLink_follows r).passes]
    simp only [linkRows, List.forall_mem_cons, List.forall_mem_flatMap, List.not_mem_nil, false_imp_iff, implies_true,
      and_true, decide_eq_true_eq, allStations, List.mem_finRange, true_imp_iff]
  · exact ((checkLink_follows r).holds passed).1
  · refine (writeGate_served open_ can).trans ?_
    rw [onRecord_eq _ _ named]
    simp only [passed, okIf_ne, u8_of_toNat named]
  · have ok : tagField 1 0 tag = .ok tag := if_pos ⟨Nat.zero_le _, length, by simpa [printable] using chars⟩
    refine (writeGate_served open_ can).trans ?_
    rw [onRecord_eq _ _ named]
    simp only [ok, okIf_ne, u8_of_toNat named]
  · refine (writeGate_served open_ can).trans ?_
    simp only [passed]
    split <;> rfl
  · refine ⟨_, writeGate_served open_ can, ?_⟩
    simp only [passed, okIf_ne]
    exact ⟨rfl, rfl, s.writeLink_station c, rfl, rfl, rfl, rfl, rfl, rfl, rfl, rfl, rfl, rfl, rfl, rfl⟩

end Sys2Proof.Machine
end

section
/-! SET MODE: what it answers, and what it refuses (R13, R14, R117, Table 5-3). -/

namespace Sys2Proof.Machine

/-! ## The request and the mode it names -/

theorem Mode.ofByte_eq_some {b : Byte} {m : Mode} (named : b.toNat = m.code) : Mode.ofByte b = some m := by
  unfold Mode.ofByte
  rw [named]
  cases m <;> rfl

theorem Mode.ofByte_eq_none {b : Byte} (above : 4 < b.toNat) : Mode.ofByte b = none := by
  unfold Mode.ofByte
  split
  case h_6 => rfl
  all_goals omega

/-- What SET MODE makes of the part, and answers, for the mode it names (R117). -/
def Part.askMode (s : Part) (m : Mode) : Part × Answer :=
  if m = s.mode then (s, { status := .noChange, data := s.modeData })
  else
    match s.modeRequest m with
    | .wrongMode => (s, { status := .wrongMode })
    | .move v => s.moveMode v
    | .validate =>
      match s.validate with
      | none => s.moveMode (.day false none)
      | some f => (s, { status := .config, data := f.bytes })

theorem exec_setMode_named {b : Byte} {m : Mode} {s : State} (can : s.canServe (.setMode b) = true)
    (named : b.toNat = m.code) :
    exec (.setMode b) s = .next (s.answered (.setMode b) (s.askMode m).1 (s.askMode m).2) := by
  refine (request_served can).trans ?_
  simp only [Mode.ofByte_eq_some named]
  rfl

theorem exec_setMode_unnamed {b : Byte} {s : State} (can : s.canServe (.setMode b) = true) (above : 4 < b.toNat) :
    exec (.setMode b) s = .next (s.answered (.setMode b) s.toPart { status := .range, data := [1] }) := by
  refine (request_served can).trans ?_
  simp only [Mode.ofByte_eq_none above]
  rfl

theorem Part.askMode_same {s : Part} {m : Mode} (same : m = s.mode) :
    s.askMode m = (s, { status := .noChange, data := s.modeData }) := if_pos same

theorem Part.askMode_other {s : Part} {m : Mode} (other : m ≠ s.mode) :
    s.askMode m =
      match s.modeRequest m with
      | .wrongMode => (s, { status := .wrongMode })
      | .move v => s.moveMode v
      | .validate =>
        match s.validate with
        | none => s.moveMode (.day false none)
        | some f => (s, { status := .config, data := f.bytes }) := if_neg other

/-! ## Table 5-3 -/

/-- The changes that Table 5-3 gives as WRONG_MODE. -/
def Mode.cannotAsk : Mode → Mode → Bool
  | .setup, .windDown | .setup, .night | .setup, .wake => true
  | .day, .wake => true
  | .windDown, .setup => true
  | .night, .setup | .night, .day | .night, .windDown => true
  | .wake, .setup | .wake, .windDown | .wake, .night => true
  | _, _ => false

theorem Part.modeRequest_wrongMode {s : Part} {m : Mode} (refused : s.mode.cannotAsk m = true) :
    s.modeRequest m = .wrongMode := by
  unfold Part.mode at refused
  unfold Part.modeRequest
  split <;> simp_all [Mode.cannotAsk]

theorem Mode.ne_of_cannotAsk {held asked : Mode} (refused : held.cannotAsk asked = true) : asked ≠ held := by
  rintro rfl
  cases asked <;> cases refused

theorem Part.askMode_refused {s : Part} {m : Mode} (refused : s.mode.cannotAsk m = true) :
    s.askMode m = (s, { status := .wrongMode }) := by
  rw [Part.askMode_other (Mode.ne_of_cannotAsk refused), Part.modeRequest_wrongMode refused]

theorem Part.modeRequest_validate {s : Part} (setup : s.mode = .setup) : s.modeRequest .day = .validate := by
  unfold Part.mode at setup
  unfold Part.modeRequest
  split at setup <;> simp_all

/-- From SETUP, DAY is asked for, and the plant validation answers (R13). -/
theorem Part.askMode_day {s : Part} (setup : s.mode = .setup) :
    s.askMode .day =
      match s.validate with
      | none => s.moveMode (.day false none)
      | some f => (s, { status := .config, data := f.bytes }) := by
  rw [Part.askMode_other (by simp [setup]), Part.modeRequest_validate setup]

/-- The bytes of the modes that Table 5-3 refuses name such modes. -/
theorem Mode.cannotAsk_of_table {held : Mode} {b : Byte}
    (h : (held = .setup ∧ 2 ≤ b.toNat ∧ b.toNat ≤ 4) ∨ (held = .day ∧ b = 4) ∨ (held = .windDown ∧ b = 0) ∨
      (held = .night ∧ b.toNat ≤ 2) ∨ (held = .wake ∧ (b = 0 ∨ b = 2 ∨ b = 3))) :
    ∃ m : Mode, b.toNat = m.code ∧ held.cannotAsk m = true := by
  obtain ⟨rfl, low, high⟩ | ⟨rfl, rfl⟩ | ⟨rfl, rfl⟩ | ⟨rfl, high⟩ | ⟨rfl, rfl | rfl | rfl⟩ := h
  · obtain two | three | four : b.toNat = 2 ∨ b.toNat = 3 ∨ b.toNat = 4 := by omega
    · exact ⟨.windDown, two, rfl⟩
    · exact ⟨.night, three, rfl⟩
    · exact ⟨.wake, four, rfl⟩
  · exact ⟨.wake, rfl, rfl⟩
  · exact ⟨.setup, rfl, rfl⟩
  · obtain zero | one | two : b.toNat = 0 ∨ b.toNat = 1 ∨ b.toNat = 2 := by omega
    · exact ⟨.setup, zero, rfl⟩
    · exact ⟨.day, one, rfl⟩
    · exact ⟨.windDown, two, rfl⟩
  · exact ⟨.setup, rfl, rfl⟩
  · exact ⟨.windDown, rfl, rfl⟩
  · exact ⟨.night, rfl, rfl⟩

/-- Settles O16: the request names no mode, the present one, or one that Table 5-3 or the validation refuses. -/
theorem setModeRefusals : Obligations.SetModeRefusals := by
  refine fun s b can => ⟨exec_setMode_unnamed can, fun same => ?_, fun table => ?_, fun f setup day failed => ?_⟩
  · rw [exec_setMode_named can same, Part.askMode_same rfl]
  · obtain ⟨m, named, refused⟩ := Mode.cannotAsk_of_table table
    rw [exec_setMode_named can named, Part.askMode_refused refused]
  · subst day
    rw [exec_setMode_named (m := .day) can rfl, Part.askMode_day setup, failed]

end Sys2Proof.Machine
end

section
/-! The held condition and the return from it, and the new part (R16, R199, R200, R203, R204). -/

namespace Sys2Proof.Machine

/-! ## Lamps chosen afresh (R157, R158) -/

/-- The lamps after each is chosen again. -/
def Part.lampsChosen (s : Part) : Vector Lamp 8 := tabulate fun p => (s.lin.lamps[p]).choose (s.lampPattern p)

/-- Choosing lamps leaves all but the lamps, and every lamp but those chosen. -/
theorem Part.foldl_chooseLamp (l : List PanelId) (s : Part) (once : l.Nodup) :
    ∃ lamps : Vector Lamp 8, l.foldl Part.chooseLamp s = { s with lin := { s.lin with lamps := lamps } } ∧
      ∀ p : PanelId, lamps[p] = if p ∈ l then (s.lin.lamps[p]).choose (s.lampPattern p) else s.lin.lamps[p] := by
  induction l generalizing s with
  | nil => exact ⟨s.lin.lamps, rfl, fun p => (if_neg List.not_mem_nil).symm⟩
  | cons q l ih =>
    obtain ⟨fresh, once⟩ := List.nodup_cons.1 once
    obtain ⟨lamps, folded, read⟩ := ih (s.chooseLamp q) once
    refine ⟨lamps, folded, fun p => ?_⟩
    have pattern : (s.chooseLamp q).lampPattern p = s.lampPattern p := rfl
    have chosen : (s.chooseLamp q).lin.lamps[p] =
        if p = q then (s.lin.lamps[p]).choose (s.lampPattern p) else s.lin.lamps[p] := by
      simp only [Part.chooseLamp, Fin.getElem_fin, Vector.getElem_set, Fin.ext_iff, eq_comm (a := p.val)]
      split
      · next same => cases Fin.ext same; rfl
      · rfl
    rw [read, pattern, chosen]
    by_cases same : p = q
    · subst same; simp [fresh]
    · simp [same]

theorem Part.chooseLamps_eq (s : Part) :
    s.chooseLamps = { s with lin := { s.lin with lamps := s.lampsChosen } } := by
  obtain ⟨lamps, folded, read⟩ := Part.foldl_chooseLamp allPanels s (List.nodup_finRange 8)
  have all : lamps = s.lampsChosen := by
    refine Vector.ext fun i h => ?_
    exact ((read ⟨i, h⟩).trans (if_pos (List.mem_finRange _))).trans
      (tabulate_getElem (fun p : PanelId => (s.lin.lamps[p]).choose (s.lampPattern p)) i h).symm
  rw [Part.chooseLamps, folded, all]

theorem Lamp.choose_pattern (l : Lamp) (p : Pattern) : (l.choose p).pattern = p := by
  unfold Lamp.choose
  split
  · assumption
  · rfl

/-- Every lamp then shows the pattern of Table 7-2. -/
theorem Part.chooseLamps_pattern (s : Part) (p : PanelId) :
    (s.chooseLamps.lin.lamps[p]).pattern = s.chooseLamps.lampPattern p := by
  have same : s.chooseLamps.lampPattern p = s.lampPattern p := by rw [s.chooseLamps_eq]; rfl
  rw [same, s.chooseLamps_eq]
  exact (congrArg Lamp.pattern (tabulate_getElem _ p.val p.isLt)).trans (Lamp.choose_pattern _ _)

/-- The part in the first mode of a reset, whole. -/
theorem Part.entered_eq (s : Part) (good : Bool) :
    s.entered good =
      { s.firstMode good with lin := { s.lin with lamps := (s.firstMode good).lampsChosen } } :=
  (s.firstMode good).chooseLamps_eq

/-! ## The return from the held condition (R200) -/

/-- The rows that end the last cause reset the part from the image in storage (R203, R204). -/
theorem exec_endsHold {s : State} {c : Instr} {image : Option Settings}
    (last : (c = .powerOn ∧ s.power = { supplyLow := true, resetLow := false }) ∨
      (c = .resetLineRelease ∧ s.power = { supplyLow := false, resetLow := true }))
    (h : s.cfs.storage.image? = image) :
    exec c s = .next (s.withPart (Part.powerResetFrom { s.toPart with power := {} } image)) := by
  obtain ⟨rfl, low⟩ | ⟨rfl, low⟩ := last
  · exact execPowerOn_last low h
  · exact execResetLineRelease_last low h

theorem Part.lampPattern_unused {s : Part} {p : PanelId} (h : (s.cfg.panels[p]).inUse = false) :
    s.lampPattern p = .off := by
  simp only [Part.lampPattern, h, Bool.not_false, if_true]

/-- Lamps that were off stay off where no panel is in use. -/
theorem Part.lampsChosen_unused {s : Part} (off : s.lin.lamps = Vector.replicate 8 {})
    (panels : s.cfg.panels = Vector.replicate 8 {}) : s.lampsChosen = s.lin.lamps := by
  refine Vector.ext fun i h => (tabulate_getElem _ i h).trans ?_
  rw [Part.lampPattern_unused (by simp [panels])]
  simp [off, Lamp.choose]

theorem powerLoads_default : powerLoads {} = Vector.replicate 64 {} := by
  refine Vector.ext fun i h => (tabulate_getElem _ i h).trans ?_
  simp [freshLoad]

/-- STORE with FAULT, LOAD is all a new part has pending (R200). -/
theorem newPart_attention :
    ({ pending := (0 : BitVec 8) ||| (Detail.store false true).cause.bit
       details := (Vector.replicate 8 none).set (Detail.store false true).cause.index
         (some (.store false true)) } : AttentionLogic) = State.reset.atl := by
  decide

/-- From a bad image the part is a new one, its storage and its count of choices kept (R200). -/
theorem Part.powerResetFrom_none (s : Part) :
    s.powerResetFrom none =
      { State.reset.toPart with cfs := { storage := s.cfs.storage }, freeCount := s.freeCount } := by
  have blank : (s.repowered none).firstMode false =
      { cfs := { storage := s.cfs.storage }, freeCount := s.freeCount } := by
    simp only [Part.repowered, Option.getD_none, powerLoads_default]
    rfl
  have lamps := Part.lampsChosen_unused (s := (s.repowered none).firstMode false) rfl rfl
  rw [blank] at lamps
  rw [Part.powerResetFrom_eq, if_neg (by simp), Part.entered_eq]
  simp only [Option.isSome_none, blank, lamps, Part.raise, newPart_attention]
  rfl

theorem resetGovernor_eq (c : Settings) :
    resetGovernor c = {
      ceilingI := { value := if c.active.valid then c.active.ceilingKw else 60000 }
      ceilingD := { value := if c.active.valid then c.active.intervalCeilingKw else 0 } } := by
  unfold resetGovernor Settings.planCeilings
  split <;> rfl

/-- The first mode, DAY from a good image whose plant is valid (R13, R130). -/
theorem Part.firstMode_good (s : Part) :
    s.firstMode true = s.setMode (if s.validate = none then .day none none else .setup) := by
  unfold Part.firstMode
  cases s.validate <;> rfl

/-- From a good image every block takes its power-on values, and every lamp shows its pattern (R200). -/
theorem Part.powerResetFrom_some (s : Part) (cfg : Settings) :
    ∃ lamps : Vector Lamp 8,
      s.powerResetFrom (some cfg) =
        { cfg := cfg, loads := powerLoads cfg, dgv := resetGovernor cfg
          ncc := { mode := if (s.repowered (some cfg)).validate = none then .day none none else .setup }
          lin := { lamps := lamps }, svp := { inEffect := cfg.port }
          cfs := { storage := s.cfs.storage, image := .good }, freeCount := s.freeCount } ∧
      ∀ p : PanelId, (lamps[p]).pattern = (s.powerResetFrom (some cfg)).lampPattern p := by
  have entered : s.powerResetFrom (some cfg) = ((s.repowered (some cfg)).firstMode true).chooseLamps := rfl
  refine ⟨((s.repowered (some cfg)).firstMode true).lampsChosen, ?_, fun p => ?_⟩
  · rw [entered, Part.chooseLamps_eq]
    congr 1
    rw [Part.firstMode_good]
    rfl
  · rw [entered, ← Part.chooseLamps_pattern, Part.chooseLamps_eq]

/-- Settles O45: the causes set in, add up, and end, and the last to end resets the part. -/
theorem supplyAndResetLine : Obligations.SupplyAndResetLine := by
  intro s
  refine ⟨fun marked working => ?_, fun marked held => ?_, fun both => ?_, fun high => ?_, fun high => ?_,
    fun c last => ⟨fun bad => ?_, fun cfg good => ?_⟩⟩
  · simp only [exec, execSupplyLow, execResetLineAssert, working, if_true, Part.hold, ConfigStore.cutShort,
      Bool.and_eq_true, decide_eq_true_eq]
    exact ⟨rfl, rfl⟩
  · simp only [exec, execSupplyLow, execResetLineAssert, held]
    exact ⟨rfl, rfl⟩
  · simp [exec, execPowerOn, execResetLineRelease, both, Part.leaveHold, Part.working, State.withPart]
  · simp [exec, execPowerOn, high]
  · simp [exec, execResetLineRelease, high]
  · rw [exec_endsHold last bad, Part.powerResetFrom_none]
  · obtain ⟨lamps, whole, pattern⟩ := Part.powerResetFrom_some { s.toPart with power := {} } cfg
    have ran := exec_endsHold last good
    rw [whole] at ran pattern
    have mode := congrArg
      (fun failure : Option Failure => ({ mode := if failure = none then .day none none else .setup } : NightCycle))
      (Part.validate_of_records (s := { cfg := cfg }) (t := Part.repowered { s.toPart with power := {} } cfg) rfl)
    exact ⟨_, ran, rfl, rfl, rfl, rfl, mode.trans (by rw [Part.validate_of_records]; rfl), fun n => tabulate_getElem _ n.val n.isLt, resetGovernor_eq cfg, rfl, rfl, pattern, rfl, rfl, rfl⟩

/-! ## The new part (R16) -/

theorem State.reset_load (n : LoadId) : State.reset.load n = {} := Vector.getElem_replicate n.isLt

theorem State.reset_station (k : StationId) : State.reset.station k = {} := Vector.getElem_replicate k.isLt

theorem State.reset_inUse (n : LoadId) : State.reset.inUse n = false :=
  congrArg LoadConfig.inUse (Vector.getElem_replicate n.isLt)

theorem State.reset_starting (n : LoadId) : State.reset.dgv.startingOrigin[n] = none :=
  Vector.getElem_replicate n.isLt

theorem State.reset_recordsOk : State.reset.RecordsOk :=
  ⟨Settings.default_ok, by decide, forall_mem_none, forall_mem_none⟩

/-- An empty Hold Table is sound, and nothing in it contradicts another hold. -/
theorem State.reset_holds : State.reset.HoldsOk ∧ State.reset.HoldsAgree := by
  have none (P : Hold → Prop) : ∀ h ∈ State.reset.holds, P h := fun h live => absurd live List.not_mem_nil
  exact ⟨⟨Nat.zero_le _, .nil, none _, by decide, none _, .nil, none _, none _, fun _ => rfl⟩, none _, fun _ => rfl⟩

theorem State.reset_loadOk (n : LoadId) : State.reset.LoadOk n := by
  have queue : n ∉ State.reset.queuedLoads := List.not_mem_nil
  unfold Part.LoadOk
  rw [State.reset_load, State.reset_station, State.reset_inUse, State.reset_starting]
  simp [queue, LoadPhase.running, LoadPhase.isStopping]

theorem State.reset_plantOk : State.reset.PlantOk := by
  refine ⟨⟨State.reset_loadOk, .nil, .nil⟩, ⟨fun k => ?_, fun k _ => ?_, fun x flying => ?_, nofun⟩, fun _ => rfl⟩
  · rw [State.reset_station]; decide
  · rw [State.reset_station]; exact ⟨rfl, rfl⟩
  · cases flying

/-- Settles O60: each block's values after power-on, and each invariant of them. -/
theorem newPartAfterPowerOn : Obligations.NewPartAfterPowerOn := by
  refine ⟨⟨rfl, rfl, rfl, rfl, rfl, rfl, fun n => ?_, rfl, rfl, rfl, rfl, rfl, rfl, rfl, rfl, rfl⟩,
    State.reset_recordsOk, State.reset_holds.1, State.reset_holds.2, State.reset_plantOk, ?_, ?_, nofun⟩
  · rw [State.reset_load]
  · exact ⟨by decide, nofun, nofun, nofun, nofun⟩
  · exact ⟨Nat.zero_le _, Nat.zero_le _⟩

end Sys2Proof.Machine
end

section
/-! How an event's handling closes where no check passes (R30, R92), and WRITE LOAD CONFIG (R4, R47, R132). -/

namespace Sys2Proof.Machine

/-! ## Handlings that stop no load -/

theorem Part.takeChecks_none {s : Part} (quiet : ∀ n, s.stopsNow n = false) (fuel : Nat) (due : List LoadId) :
    s.takeChecks fuel due = s := by
  cases fuel with
  | zero => rfl
  | succ fuel =>
    have due_none : due.filter s.stopsNow = [] := List.filter_eq_nil_iff.2 fun n _ => by simp [quiet n]
    simp only [Part.takeChecks, due_none]

theorem Part.wakeEndTest_settled {s : Part} (settled : s.wakeSettled) : s.wakeEndTest = s := by
  unfold Part.wakeEndTest
  split
  · next ends =>
    obtain ⟨wake, idle⟩ := Bool.and_eq_true_iff.1 ends
    simp [settled (of_decide_eq_true wake)] at idle
  · rfl

theorem Part.wakeWork_of {s t : Part} (loads : t.loads = s.loads) (queue : t.dgv.queue = s.dgv.queue)
    (starting : t.dgv.startingOrigin = s.dgv.startingOrigin) : t.wakeWork = s.wakeWork := by
  unfold Part.wakeWork Part.load
  rw [loads, queue, starting]

@[simp] theorem Part.recomputeDemand_loads (before after : Part) :
    (before.recomputeDemand after).loads = after.loads := by simp only [Part.recomputeDemand]
@[simp] theorem Part.recomputeDemand_queue (before after : Part) :
    (before.recomputeDemand after).dgv.queue = after.dgv.queue := by simp only [Part.recomputeDemand]
@[simp] theorem Part.recomputeDemand_startingOrigin (before after : Part) :
    (before.recomputeDemand after).dgv.startingOrigin = after.dgv.startingOrigin := by
  simp only [Part.recomputeDemand]

/-- Where no check of a load passes and WAKE is not over, closing a handling computes D again and no more (R92). -/
theorem Part.finish_of_quiet {after : Part} (before : Part) (quiet : ∀ n, after.stopsNow n = false)
    (settled : after.wakeSettled) :
    ∃ (demand : Nat) (scanDue : Bool), before.finish after = { after with
      dgv := { after.dgv with demand := demand, scanDue := scanDue }, checksDue := before.checksDue } := by
  have recheck : before.recheck after = before.settleChecks after := by
    rw [Part.recheck, Part.takeChecks_none quiet]
  have work := (before.loadWork_settleChecks after).trans (before.loadWork_recomputeDemand _)
  have still : (before.recomputeDemand (before.settleChecks after)).wakeSettled := by
    intro wake
    rw [work.mode] at wake
    exact (Part.wakeWork_of (by simp) (by simp) (by simp)).trans (settled wake)
  rw [Part.finish, recheck, Part.wakeEndTest_settled still, Part.recomputeDemand]
  exact ⟨_, _, rfl⟩

/-- In SETUP no load is stopped (R27, R29, R34). -/
theorem Part.stopsNow_setup {s : Part} (setup : s.mode = .setup) (n : LoadId) : s.stopsNow n = false := by
  simp [Part.stopsNow, Part.idleStopDue, setup]

theorem Part.finish_of_setup {after : Part} (before : Part) (setup : after.mode = .setup) :
    ∃ (demand : Nat) (scanDue : Bool), before.finish after = { after with
      dgv := { after.dgv with demand := demand, scanDue := scanDue }, checksDue := before.checksDue } :=
  Part.finish_of_quiet before (Part.stopsNow_setup setup) fun wake => by rw [setup] at wake; cases wake

/-! ## A station's place in the polled set (R132, R134) -/

/-- From s to t the link alone has changed, and no station's grade or error counter, nor a record outside the polled
set. -/
structure Part.PollsOn (s t : Part) : Prop where
  rest : t = { s with flm := t.flm }
  grade : ∀ j, (t.station j).grade = (s.station j).grade
  err : ∀ j, (t.station j).err = (s.station j).err
  outside : ∀ j, s.polled j = false → t.station j = s.station j

theorem Part.PollsOn.refl (s : Part) : s.PollsOn s := ⟨rfl, fun _ => rfl, fun _ => rfl, fun _ _ => rfl⟩

theorem Part.PollsOn.of_setStation {s t : Part} {k : StationId} {r : Station} (polled : s.polled k = true)
    (rest : t = { s with flm := t.flm }) (stations : t.flm.stations = s.flm.stations.set k r)
    (grade : r.grade = (s.station k).grade) (err : r.err = (s.station k).err) : s.PollsOn t := by
  have station (j : StationId) : t.station j = if j = k then r else s.station j :=
    Eq.trans (by rw [Part.station, stations]; rfl) (s.setStation_station k j r)
  refine ⟨rest, fun j => ?_, fun j => ?_, fun j out => ?_⟩
  · rw [station]; split
    · next same => rw [same, grade]
    · rfl
  · rw [station]; split
    · next same => rw [same, err]
    · rfl
  · rw [station, if_neg]
    rintro rfl
    rw [polled] at out
    cases out

theorem Part.pollsOn_pollNext (s : Part) : s.PollsOn s.pollNext := by
  unfold Part.pollNext
  split
  · exact ⟨rfl, fun _ => rfl, fun _ => rfl, fun _ _ => rfl⟩
  · next k rest found =>
    have polled : s.polled k = true := by
      have head := List.head_dropWhile_not (fun k => !s.polled k) (l := s.flm.toPoll) (by rw [found]; nofun)
      simpa [found] using head
    exact .of_setStation polled rfl rfl rfl rfl

/-- What becomes of the link where one station's place in the polled set is computed again (R132). -/
structure Part.Repolls (s t : Part) (k : StationId) (was : Bool) : Prop where
  rest : t = { s with flm := t.flm, atl := t.atl }
  others : ∀ j, j ≠ k → (t.station j).grade = (s.station j).grade ∧ (t.station j).err = (s.station j).err
  same : was = s.polled k → t = s
  left : was = true → s.polled k = false → t.station k = {}
  joined : was = false → s.polled k = true →
    t.station k = if s.flm.link = .halt then { grade := .offline, err := 255, forcedAuto := true } else {}

theorem Part.repolls_repollStation (s : Part) (k : StationId) (was : Bool) :
    s.Repolls (s.repollStation k was) k was := by
  have others (r : Station) (j : StationId) (ne : j ≠ k) : (s.setStation k r).station j = s.station j := by
    rw [Part.setStation_station, if_neg ne]
  unfold Part.repollStation
  split
  · next same => exact ⟨rfl, fun _ _ => ⟨rfl, rfl⟩, fun _ => rfl, by simp_all, by simp_all⟩
  · next changed =>
    cases was with
    | true =>
      have out : s.polled k = false := by simpa using Ne.symm changed
      have dropped (toPoll : List StationId) (t : Part)
          (polls : Part.PollsOn { s.setStation k {} with flm := { (s.setStation k {}).flm with toPoll := toPoll } } t) :
          s.Repolls t k true := by
        refine ⟨by rw [polls.rest]; rfl, fun j ne => ?_, fun same => absurd same changed, fun _ _ => ?_, nofun⟩
        · rw [polls.grade, polls.err]
          exact ⟨congrArg Station.grade (others {} j ne), congrArg Station.err (others {} j ne)⟩
        · exact (polls.outside k out).trans (s.setStation_station_self k {})
      simp only [if_true]
      split
      · split
        · exact dropped _ _ (Part.pollsOn_pollNext _)
        · exact dropped _ _ (.refl _)
      · exact dropped _ _ (.refl _)
    | false =>
      have entered (t : Part) (r : Station) (stations : t.flm.stations = s.flm.stations.set k r)
          (rest : t = { s with flm := t.flm, atl := t.atl })
          (new : r = if s.flm.link = .halt then { grade := .offline, err := 255, forcedAuto := true } else {}) :
          s.Repolls t k false := by
        have station (j : StationId) : t.station j = (s.setStation k r).station j := by
          rw [Part.station, stations]; rfl
        refine ⟨rest, fun j ne => ?_, fun same => absurd same changed, nofun, fun _ _ => ?_⟩
        · rw [station, others r j ne]; exact ⟨rfl, rfl⟩
        · rw [station, Part.setStation_station_self, new]
      cases link : s.flm.link with
      | run => exact entered _ {} rfl rfl (by simp [link])
      | halt => exact entered _ _ rfl rfl (by simp [link]; rfl)

/-! ## WRITE LOAD CONFIG (R4, R47) -/

/-- The part with a load record replaced, and nothing else done. -/
def Part.withConfig (s : Part) (n : LoadId) (c : LoadConfig) : Part :=
  { s with cfg := { s.cfg with loads := s.cfg.loads.set n c } }

theorem Part.withConfig_config (s : Part) (n : LoadId) (c : LoadConfig) : (s.withConfig n c).config n = c :=
  Vector.getElem_set_self _

theorem Part.writeLoad_changesUse {s : Part} {n : LoadId} {c : LoadConfig} (h : c.inUse ≠ s.inUse n) :
    s.writeLoad n c = ((s.withConfig n c).repollStation (stationOf n) (s.polled (stationOf n))).changeUse n :=
  if_pos (bne_iff_ne.2 (Ne.symm h))

theorem Part.writeLoad_changesActivity {s : Part} {n : LoadId} {c : LoadConfig} (use : c.inUse = s.inUse n)
    (h : c.activityMode ≠ (s.config n).activityMode) :
    s.writeLoad n c = (s.withConfig n c).setLoad n { s.load n with activityCount := 0, activityWindow := none } :=
  (if_neg fun ne => bne_iff_ne.1 ne use.symm).trans (if_pos (bne_iff_ne.2 (Ne.symm h)))

theorem Part.writeLoad_keepsActivity {s : Part} {n : LoadId} {c : LoadConfig} (use : c.inUse = s.inUse n)
    (h : c.activityMode = (s.config n).activityMode) : s.writeLoad n c = s.withConfig n c :=
  (if_neg fun ne => bne_iff_ne.1 ne use.symm).trans (if_neg fun ne => bne_iff_ne.1 ne h.symm)

/-- A station whose slot keeps its use keeps its place in the polled set. -/
theorem Part.withConfig_polled {s : Part} {n : LoadId} {c : LoadConfig} (use : c.inUse = s.inUse n) (k : StationId) :
    (s.withConfig n c).polled k = s.polled k := by
  have slot (m : LoadId) : ((s.cfg.loads.set n c)[m]).inUse = (s.cfg.loads[m]).inUse := by
    simp only [Fin.getElem_fin, Vector.getElem_set]
    split
    · next same => cases Fin.ext same; exact use
    · rfl
  simp only [Part.polled, Settings.polled, Part.withConfig, slot]

/-- What WRITE LOAD CONFIG makes of the part (R4, R47, R132). -/
structure Part.TakesLoad (s t : Part) (n : LoadId) (c : LoadConfig) : Prop where
  rest : t = { s with
    cfg := (s.withConfig n c).cfg, loads := t.loads, flm := t.flm, atl := t.atl
    dgv := { s.dgv with startingOrigin := t.dgv.startingOrigin } }
  others : ∀ k, k ≠ n → t.load k = s.load k
  left : c.inUse = false → s.inUse n = true → t.load n = {}
  joined : c.inUse = true → s.inUse n = false →
    t.load n = { phase := if (t.station (stationOf n)).grade = .offline then .unreachable else .localRun }
  activity : c.inUse = s.inUse n → c.activityMode ≠ (s.config n).activityMode →
    t.load n = { s.load n with activityCount := 0, activityWindow := none } ∧ t.flm = s.flm
  same : c.inUse = s.inUse n → c.activityMode = (s.config n).activityMode → t.load n = s.load n ∧ t.flm = s.flm
  stationLeft : s.polled (stationOf n) = true → t.polled (stationOf n) = false → t.station (stationOf n) = {}
  stationJoined : s.polled (stationOf n) = false → t.polled (stationOf n) = true →
    t.station (stationOf n) =
      if s.flm.link = .halt then { grade := .offline, err := 255, forcedAuto := true } else {}
  stations : ∀ k, k ≠ stationOf n → (t.station k).grade = (s.station k).grade ∧ (t.station k).err = (s.station k).err

theorem Part.takesLoad_writeLoad (s : Part) (n : LoadId) (c : LoadConfig) : s.TakesLoad (s.writeLoad n c) n c := by
  by_cases use : c.inUse = s.inUse n
  · have polled := Part.withConfig_polled use (stationOf n)
    have station {P : Prop} {v : Bool} (was : s.polled (stationOf n) = v)
        (is : (s.withConfig n c).polled (stationOf n) = !v) : P := by
      rw [polled, was] at is; cases v <;> cases is
    have used {P : Prop} {v : Bool} (is : c.inUse = v) (was : s.inUse n = !v) : P := by
      rw [use, was] at is; cases v <;> cases is
    by_cases activity : c.activityMode = (s.config n).activityMode
    · rw [Part.writeLoad_keepsActivity use activity]
      exact ⟨rfl, fun _ _ => rfl, used, used, fun _ ne => absurd activity ne, fun _ _ => ⟨rfl, rfl⟩,
        station, station, fun _ _ => ⟨rfl, rfl⟩⟩
    · rw [Part.writeLoad_changesActivity use activity]
      exact ⟨rfl, fun k ne => Part.setLoad_load_ne _ _ ne, used, used, fun _ _ => ⟨Part.setLoad_load_self _ _ _, rfl⟩,
        fun _ eq => absurd eq activity, station, station, fun _ _ => ⟨rfl, rfl⟩⟩
  · rw [Part.writeLoad_changesUse use]
    have repolls := (s.withConfig n c).repolls_repollStation (stationOf n) (s.polled (stationOf n))
    generalize (s.withConfig n c).repollStation (stationOf n) (s.polled (stationOf n)) = p at repolls
    have inUse : p.inUse n = c.inUse := by
      rw [repolls.rest]; exact congrArg LoadConfig.inUse (s.withConfig_config n c)
    have polled : p.polled (stationOf n) = (s.withConfig n c).polled (stationOf n) := by rw [repolls.rest]; rfl
    have record : (p.changeUse n).load n =
        { phase := if !p.inUse n then .unused
            else if (p.station (stationOf n)).grade = .offline then .unreachable else .localRun } :=
      Part.setLoad_load_self _ _ _
    refine ⟨?_, fun k ne => ?_, fun off _ => ?_, fun on _ => ?_, fun eq => absurd eq use, fun eq => absurd eq use,
      fun was out => repolls.left was (polled.symm.trans out), fun was within =>
      repolls.joined was (polled.symm.trans within), repolls.others⟩
    · rw [repolls.rest]; rfl
    · exact (Part.setLoad_load_ne _ _ ne).trans (by rw [repolls.rest]; rfl)
    · rw [record, inUse, off]; rfl
    · rw [record, inUse, on]; rfl

/-- Settles O10: outside the record named, what `TakesLoad` gives; closing the handling computes D alone. -/
theorem writeLoadConfig : Obligations.WriteLoadConfig := by
  intro s number r n c can open_ named passed
  have served : exec (.writeLoadConfig number r) s =
      .next (s.answered (.writeLoadConfig number r)
        (if c = s.config n then s.toPart else s.finish (s.writeLoad n c))
        { status := if c = s.config n then .noChange else .ok, data := [number] }) := by
    refine (writeGate_served open_ can).trans ?_
    rw [onRecord_eq _ _ named]
    simp only [passed, u8_of_toNat named]
    split <;> rfl
  refine ⟨fun same => ?_, fun changed => ⟨_, served, ?_⟩⟩
  · rw [served, if_pos same, if_pos same]
  · have takes := s.takesLoad_writeLoad n c
    have setup : (s.writeLoad n c).mode = .setup := by rw [takes.rest]; exact open_.2
    obtain ⟨demand, scanDue, closed⟩ := Part.finish_of_setup s.toPart setup
    rw [if_neg changed, if_neg changed, closed]
    have kept {α : Type} (f : Part → α) := congrArg f takes.rest
    exact ⟨rfl, kept Part.cfg, takes.others, takes.left, takes.joined, takes.activity, takes.same, takes.stationLeft,
      takes.stationJoined, takes.stations, kept Part.holds, kept Part.nextId, kept Part.ncc, kept Part.lin,
      kept Part.cfs, kept Part.power, kept fun p => p.svp.inEffect, kept fun p => p.dgv.queue⟩

end Sys2Proof.Machine
end

section
/-! Entries to DAY and WIND_DOWN, and SET MODE DAY from SETUP (R112, R115 to R118, R125). -/

namespace Sys2Proof.Machine

/-! ## Handlings that may stop loads (R30, R31) -/

/-- Stops touch the loads, the scan that is due, the choices and the checks noted, and nothing else. -/
def Part.Stops (s t : Part) : Prop :=
  ∃ loads scanDue choices due, t =
    { s with loads := loads, dgv := { s.dgv with scanDue := scanDue }, freeCount := choices, checksDue := due }

theorem Part.Stops.refl (s : Part) : s.Stops s := ⟨_, _, _, _, rfl⟩

theorem Part.Stops.trans {s t u : Part} (h : s.Stops t) (g : t.Stops u) : s.Stops u := by
  obtain ⟨_, _, _, _, rfl⟩ := h
  obtain ⟨_, _, _, _, rfl⟩ := g
  exact ⟨_, _, _, _, rfl⟩

theorem Part.stops_enterStopping (s : Part) (n : LoadId) : s.Stops (s.enterStopping n) := by
  rw [Part.enterStopping, Part.reportChange_eq]
  exact ⟨_, _, _, _, rfl⟩

theorem Part.stops_takeChecks (fuel : Nat) (s : Part) (due : List LoadId) : s.Stops (s.takeChecks fuel due) := by
  induction fuel generalizing s due with
  | zero => exact .refl s
  | succ fuel ih =>
    unfold Part.takeChecks
    split
    · exact .refl s
    · exact (s.stops_enterStopping _).trans (ih _ _)
    · exact (Part.Stops.trans ⟨_, _, _, _, rfl⟩ (s.nextChoice.stops_enterStopping _)).trans (ih _ _)

/-- Outside WAKE, closing a handling stops loads and computes D again, and no more (R30, R92). -/
theorem Part.finish_awake {after : Part} (before : Part) (awake : after.mode ≠ .wake) :
    ∃ loads demand scanDue choices, before.finish after = { after with
      loads := loads, dgv := { after.dgv with demand := demand, scanDue := scanDue }
      freeCount := choices, checksDue := before.checksDue } := by
  obtain ⟨loads, scanDue, choices, due, checks⟩ := Part.stops_takeChecks 64 after (before.changedInputs after)
  have work := (before.loadWork_recheck after).trans (before.loadWork_recomputeDemand _)
  have still : (before.recomputeDemand (before.recheck after)).wakeSettled := by
    intro wake
    rw [work.mode] at wake
    exact absurd wake awake
  rw [Part.finish, Part.wakeEndTest_settled still, Part.recomputeDemand, Part.recheck, checks]
  exact ⟨_, _, _, _, rfl⟩

/-! ## Mode changes (R116) -/

/-- The telling of a mode: the loads that run take its running state, and the lamps are chosen (R116, R26). -/
theorem Part.tellMode_eq (s : Part) (m : ModeState) :
    ∃ lamps due, s.tellMode m = { (s.setMode m).moveRunning (s.setMode m).mode with
      lin := { s.lin with lamps := lamps }, checksDue := due } := by
  rw [Part.tellMode, Part.chooseLamps_eq]
  exact ⟨_, _, rfl⟩

theorem Part.runMoves_none (fuel : Nat) (s : Part) : s.runMoves fuel none = s := by
  cases fuel <;> rfl

theorem Part.runMoves_some (fuel : Nat) (s : Part) (m : Move) :
    s.runMoves (fuel + 1) (some m) = (s.applyMove m).1.runMoves fuel (s.applyMove m).2 := rfl

/-- MODE is pending with the mode in force (R116). -/
theorem Part.modeRaised_raiseMode (s : Part) (late : Bool) : (s.raiseMode late).modeRaised s.mode late := by
  refine ⟨?_, Vector.getElem_set_self _⟩
  simp [Part.raiseMode, Detail.cause, Cause.bit, Cause.index]

theorem Part.dayNight_eq {s t : Part} (plans : t.cfg = s.dayPlans) (clock : t.ncc.clock = s.ncc.clock)
    (uptime : t.ncc.uptime = s.ncc.uptime) (mark : Option Nat) : t.nextNight mark = s.dayNight mark := by
  obtain ⟨-, -, -, -, night⟩ := Part.schedule_of_clock (s := { s with cfg := s.dayPlans }) (t := t)
    (by rw [plans]) clock uptime
  exact night mark

/-! ## The entry to DAY (R112, R125) -/

theorem Part.swapIfArmed_unarmed {s : Part} (unarmed : s.ncc.armed = false) : s.swapIfArmed = s :=
  if_neg (by simp [unarmed])

theorem Part.swapIfArmed_armed {s : Part} (armed : s.ncc.armed = true) : s.swapIfArmed = s.swapPlans := if_pos armed

theorem Part.swapIfArmed_cfg (s : Part) : s.swapIfArmed.cfg = s.dayPlans := by
  unfold Part.dayPlans Part.swapIfArmed
  split <;> rfl

theorem Part.swapIfArmed_ncc (s : Part) : s.swapIfArmed.ncc = { s.ncc with armed := false } := by
  cases armed : s.ncc.armed with
  | true => rw [Part.swapIfArmed_armed armed]; rfl
  | false => rw [Part.swapIfArmed_unarmed armed, ← armed]

theorem Part.swapIfArmed_loads (s : Part) : s.swapIfArmed.loads = s.loads := by
  unfold Part.swapIfArmed
  split <;> rfl

theorem Settings.planCeilings_eq (c : Settings) :
    c.planCeilings = (if c.active.valid then c.active.ceilingKw else 60000,
      if c.active.valid then c.active.intervalCeilingKw else 0) := by
  unfold Settings.planCeilings
  split <;> rfl

/-- What a swap brings with it: the ceilings of the plan now ACTIVE, and PLAN (R93, R112). -/
theorem Part.swapPlans_swapped (s : Part) :
    s.swapPlans.dgv.ceilingI.value = (if s.cfg.staged.valid then s.cfg.staged.ceilingKw else 60000) ∧
    s.swapPlans.dgv.ceilingD.value = (if s.cfg.staged.valid then s.cfg.staged.intervalCeilingKw else 0) ∧
    s.swapPlans.atl.pending.getLsbD 6 = true ∧ s.swapPlans.atl.details[6] = some (.plan s.cfg.staged.planNo) := by
  have ceilings := Settings.planCeilings_eq { s.cfg with active := s.cfg.staged, staged := s.cfg.active }
  simp only [Part.swapPlans, Part.setCeilings, Part.raise, ceilings]
  refine ⟨trivial, trivial, ?_, Vector.getElem_set_self _⟩
  simp [Detail.cause, Cause.bit, Cause.index]

/-- A raise leaves every other cause as it was (R190). -/
theorem Part.raise_others (s : Part) (d : Detail) {i : Fin 8} (other : i ≠ d.cause.index) :
    (s.raise d).atl.pending.getLsbD i = s.atl.pending.getLsbD i ∧ (s.raise d).atl.details[i] = s.atl.details[i] := by
  have ne : d.cause.index.val ≠ i.val := fun e => other (Fin.ext e.symm)
  refine ⟨?_, Vector.getElem_set_ne d.cause.index.isLt i.isLt ne⟩
  have bit : d.cause.bit.getLsbD i = false := by
    simp only [Cause.bit, BitVec.getLsbD_shiftLeft, BitVec.getLsbD_one]
    simp
    omega
  rw [Part.raise_atl, BitVec.getLsbD_or, bit, Bool.or_false]

/-- A change to DAY, whole: the entry, and the further change that the next night calls for (R115, R125). -/
theorem Part.applyMove_day (s : Part) (late : Bool) (mark : Option Nat) :
    s.EntersDay (s.applyMove (.day late mark)).1 late mark ∧
      (s.applyMove (.day late mark)).2 = nextNightMove (s.dayNight mark) s.now ∧
      (s.applyMove (.day late mark)).1.loads = (s.moveRunning .day).loads := by
  obtain ⟨lamps, due, told⟩ := s.tellMode_eq (.day none none)
  obtain ⟨q, entry⟩ : ∃ q, q = ((s.tellMode (.day none none)).setLate late).swapIfArmed := ⟨_, rfl⟩
  have cfg : q.cfg = s.dayPlans := by rw [entry, Part.swapIfArmed_cfg, told]; rfl
  have ncc : q.ncc = { s.ncc with mode := .day none none, late := late, armed := false } := by
    rw [entry, Part.swapIfArmed_ncc, told]; rfl
  have night : q.nextNight mark = s.dayNight mark := Part.dayNight_eq cfg (by rw [ncc]) (by rw [ncc]) mark
  have enter : s.applyMove (.day late mark) =
      ((q.setMode (.day (s.dayNight mark) mark)).raiseMode late, nextNightMove (s.dayNight mark) s.now) := by
    have now : q.now = s.now := by rw [Part.now, ncc]; rfl
    rw [← night, ← now, entry]; rfl
  rw [enter]
  refine ⟨⟨rfl, ?_, ?_, cfg, Part.modeRaised_raiseMode _ late, fun armed => ?_⟩, rfl, ?_⟩
  · exact congrArg NightCycle.late ncc
  · exact congrArg NightCycle.armed ncc
  · have swapped : q = ((s.tellMode (.day none none)).setLate late).swapPlans := by
      rw [entry, Part.swapIfArmed_armed (by rw [told]; exact armed)]
    have staged : ((s.tellMode (.day none none)).setLate late).cfg = s.cfg := by rw [told]; rfl
    obtain ⟨ceilingI, ceilingD, pending, detail⟩ := Part.swapPlans_swapped ((s.tellMode (.day none none)).setLate late)
    rw [← swapped, staged] at ceilingI ceilingD detail
    rw [← swapped] at pending
    obtain ⟨bit, kept⟩ := (q.setMode (.day (s.dayNight mark) mark)).raise_others (i := 6)
      (.mode (q.setMode (.day (s.dayNight mark) mark)).mode late) (show (6 : Fin 8) ≠ 5 by decide)
    exact ⟨ceilingI, ceilingD, bit.trans pending, kept.trans detail⟩
  · have loads : q.loads = (s.moveRunning .day).loads := by rw [entry, Part.swapIfArmed_loads, told]; rfl
    exact loads

/-- A change to WIND_DOWN, whole, its deadline ahead (R118). -/
theorem Part.applyMove_windDown {s : Part} {deadline : Nat} (scheduled : Bool) (ahead : s.now < deadline) :
    ∃ loads lamps due, s.applyMove (.windDown deadline scheduled) =
      (({ s.setMode (.windDown deadline scheduled) with
        loads := loads, lin := { s.lin with lamps := lamps }, checksDue := due } : Part).raiseMode false, none) := by
  obtain ⟨lamps, due, told⟩ := s.tellMode_eq (.windDown deadline scheduled)
  simp only [Part.applyMove, told]
  rw [if_neg (Nat.not_le.2 ahead)]
  exact ⟨_, _, _, rfl⟩

/-! ## SET MODE DAY from SETUP (R13, R125) -/

theorem Part.ModeWork.sameOutside_answer {s t : Part} (h : s.ModeWork t) (c : Instr) (a : Answer) :
    s.SameOutside (t.answer c a) :=
  ⟨h.power, h.flm, h.cfs, h.uptime, h.clock, h.records, h.lines, by rw [Part.answer_svp, h.svp]⟩

theorem Part.modeWork_moveMode (s : Part) (m : Move) : s.ModeWork (s.moveMode m).1 :=
  (s.modeWork_changeMode m).trans (Part.modeWork_finish _ _)

theorem Part.moveMode_holds (s : Part) {m : Move} (h : m.isSetup = false) : (s.moveMode m).1.holds = s.holds :=
  (s.finish_holds _).trans (s.changeMode_holds m h)

theorem Part.changeMode_day_stays {s : Part} {late : Bool} {mark : Option Nat} (stays : s.dayStays mark) :
    s.changeMode (.day late mark) = (s.applyMove (.day late mark)).1 := by
  obtain ⟨-, next, -⟩ := s.applyMove_day late mark
  have no_move : nextNightMove (s.dayNight mark) s.now = none := by
    unfold nextNightMove
    split
    · next night found => exact if_neg (Nat.not_le.2 (stays night found))
    · rfl
  rw [Part.changeMode, Part.runMoves_some, next, no_move, Part.runMoves_none]

/-- Inside the warning of the next night, DAY passes on to WIND_DOWN (R115, R118). -/
theorem Part.changeMode_day_passesOn {s : Part} {late : Bool} {mark : Option Nat} {night : NextNight}
    (found : s.dayNight mark = some night) (begun : night.warnStart ≤ s.now) (ahead : s.now < night.nightStart) :
    s.EntersWarning (s.changeMode (.day late mark)) night.nightStart := by
  obtain ⟨enters, next, -⟩ := s.applyMove_day late mark
  have warned : nextNightMove (s.dayNight mark) s.now = some (.windDown night.nightStart true) := by
    rw [found]; exact if_pos begun
  have now : (s.applyMove (.day late mark)).1.now = s.now := (s.modeWork_applyMove _).now
  rw [Part.changeMode, Part.runMoves_some, next, warned, Part.runMoves_some]
  generalize (s.applyMove (.day late mark)).1 = w at enters now
  obtain ⟨_, _, _, moved⟩ := Part.applyMove_windDown (s := w) true (now.symm ▸ ahead)
  rw [moved, Part.runMoves_none]
  exact ⟨rfl, enters.armed, enters.plans, Part.modeRaised_raiseMode _ false⟩

/-- Where no load that runs has a stop pending, DAY stops none (R29, R34). -/
theorem Part.stopsNow_day {s : Part} (day : s.mode = .day) (settled : ∀ n, (s.load n).stopPending = false)
    (n : LoadId) : s.stopsNow n = false := by
  simp [Part.stopsNow, Part.idleStopDue, day, settled n]

/-- A sound plant in SETUP has its running loads in LOCAL, and no stop pending (R20, R27). -/
theorem Part.PlantOk.setup_loads {s : Part} (h : s.PlantOk) (setup : s.mode = .setup) (n : LoadId) :
    ((s.load n).phase.running = true → (s.load n).phase = .localRun) ∧ (s.load n).stopPending = false := by
  obtain ⟨⟨loads, -⟩, -⟩ := h
  obtain ⟨-, -, -, -, -, -, -, running, inSetup⟩ := loads n
  refine ⟨fun runs => ?_, (inSetup setup).2.1⟩
  rw [running runs, setup]; rfl

/-- Loads that all run in LOCAL stay as they are at an entry to DAY (R26). -/
theorem Part.moveRunning_day {s : Part} (here : ∀ n, (s.load n).phase.running = true → (s.load n).phase = .localRun) :
    (s.moveRunning .day).loads = s.loads := by
  refine Vector.ext fun i h => (tabulate_getElem _ i h).trans ?_
  dsimp only
  rw [if_neg]
  · rfl
  · simp only [Bool.and_eq_true, bne_iff_ne]
    exact fun ⟨runs, moves⟩ => moves (here ⟨i, h⟩ runs)

/-- A mode change carried out for a SET MODE that does not end in WAKE, its handling closed (R116, R117). -/
theorem Part.moveMode_awake {s w : Part} {m : Move} (moved : s.changeMode m = w) (awake : w.mode ≠ .wake) :
    ∃ loads demand scanDue choices, s.moveMode m = ({ w with
      loads := loads, dgv := { w.dgv with demand := demand, scanDue := scanDue }
      freeCount := choices, checksDue := s.checksDue }, { status := .ok, data := w.modeData }) := by
  obtain ⟨loads, demand, scanDue, choices, closed⟩ := Part.finish_awake s awake
  rw [Part.moveMode, moved, closed]
  exact ⟨_, _, _, _, rfl⟩

theorem Part.mode_of_day {s : Part} {next : Option NextNight} {mark : Option Nat} (h : s.ncc.mode = .day next mark) :
    s.mode = .day := by
  rw [Part.mode, h]

theorem Part.mode_of_windDown {s : Part} {deadline : Nat} {scheduled : Bool}
    (h : s.ncc.mode = .windDown deadline scheduled) : s.mode = .windDown := by
  rw [Part.mode, h]

/-- With no schedule in force and no plan armed, an entry to DAY has no next night (R114, R115). -/
theorem Part.dayNight_unscheduled {s : Part} (unscheduled : s.scheduled = false) (unarmed : s.ncc.armed = false)
    (mark : Option Nat) : s.dayNight mark = none := by
  have plans : s.dayPlans = s.cfg := if_neg (by simp [unarmed])
  rw [Part.dayNight, plans]
  exact if_neg (by rw [show Part.scheduled { s with cfg := s.cfg } = s.scheduled from rfl, unscheduled]; nofun)

/-- Settles O17: the validation passes, and the mode change enters DAY, or DAY and then WIND_DOWN. -/
theorem setModeDay : Obligations.SetModeDay := by
  intro s can setup valid
  have run : exec (.setMode 1) s = .next (s.answered (.setMode 1) (s.moveMode (.day false none)).1
      (s.moveMode (.day false none)).2) := by
    rw [exec_setMode_named (m := .day) can rfl, Part.askMode_day setup, valid]
  have outside := s.modeWork_moveMode (.day false none)
  have holds := s.moveMode_holds (m := .day false none) rfl
  obtain ⟨enters, next, loads⟩ := s.applyMove_day false none
  refine ⟨fun stays => ?_, fun night found begun before => ?_⟩
  · have moved := Part.changeMode_day_stays (late := false) stays
    generalize (s.applyMove (.day false none)).1 = w at moved enters loads
    have day := Part.mode_of_day enters.mode
    have quiet (sound : s.PlantOk) : (s.moveMode (.day false none)).1.loads = s.loads := by
      have same : w.loads = s.loads := loads.trans (Part.moveRunning_day fun n => (sound.setup_loads setup n).1)
      have pending (n : LoadId) : (w.load n).stopPending = false := by
        rw [Part.load, same]; exact (sound.setup_loads setup n).2
      obtain ⟨_, _, closed⟩ := Part.finish_of_quiet s.toPart (Part.stopsNow_day day pending)
        fun wake => by rw [day] at wake; cases wake
      rw [Part.moveMode, moved, closed]
      exact same
    obtain ⟨_, _, _, _, closed⟩ := Part.moveMode_awake moved (by rw [day]; nofun)
    rw [closed] at run outside holds quiet
    refine ⟨_, run, ?_, ⟨enters.mode, enters.lateFlag, enters.armed, enters.plans, enters.raised, enters.swapped⟩,
      fun unscheduled unarmed => ?_, quiet, holds, outside.sameOutside_answer _ _⟩
    · have data : w.modeData = [1, 1, 0] := by
        rw [Part.modeData, day, enters.lateFlag]; rfl
      rw [data]; rfl
    · exact enters.mode.trans (by rw [Part.dayNight_unscheduled unscheduled unarmed])
  · have enters := Part.changeMode_day_passesOn (late := false) found begun before
    obtain ⟨w, moved⟩ : ∃ w, s.changeMode (.day false none) = w := ⟨_, rfl⟩
    rw [moved] at enters
    have windDown := Part.mode_of_windDown enters.mode
    obtain ⟨_, _, _, _, closed⟩ := Part.moveMode_awake moved (by rw [windDown]; nofun)
    rw [closed] at run outside holds
    refine ⟨_, run, ?_, ⟨enters.mode, enters.armed, enters.plans, enters.raised⟩, holds, outside.sameOutside_answer _ _⟩
    have data : w.modeData = [2, 0, 0] := by rw [Part.modeData, windDown]; rfl
    rw [data]; rfl

end Sys2Proof.Machine
end

section
/-! A RESET command carried out: the loads at rest from which the plant is entered again, and what the moves of the
mode then make of them (R17, R48, R127, R128, R187, R201). -/

namespace Sys2Proof.Machine

/-! ## Loads that draw nothing (R21, R91) -/

/-- No load's feedback is on, and none has been admitted: no load draws, serves or is in its inrush window. -/
def Part.Still (s : Part) : Prop := ∀ n, (s.load n).startedAt = none ∧ (s.load n).feedback = false

theorem Part.Still.up {s : Part} (still : s.Still) (n : LoadId) : s.up n = false := by
  obtain ⟨-, feedback⟩ := still n
  simp [Part.up, LoadRecord.up, feedback]

theorem Part.Still.serving {s : Part} (still : s.Still) (n : LoadId) : s.serving n = false := by
  obtain ⟨-, feedback⟩ := still n
  simp [Part.serving, feedback]

theorem Part.Still.contribution {s : Part} (still : s.Still) (n : LoadId) : s.contribution n = 0 := by
  obtain ⟨started, -⟩ := still n
  simp [Part.contribution, Part.inWindow, started, still.up n]

theorem Part.Still.demandNow {s : Part} (still : s.Still) : s.demandNow = 0 := by
  rw [Part.demandNow, funext still.contribution]
  simp

theorem Part.members_of_records {s t : Part} (cfg : t.cfg = s.cfg) (g : GroupId) : t.members g = s.members g := by
  cases s; cases t; cases cfg; rfl

theorem Part.group_of_records {s t : Part} (cfg : t.cfg = s.cfg) (g : GroupId) : t.group g = s.group g := by
  rw [Part.group, cfg]; rfl

theorem Part.Still.needSatisfied {s t : Part} (still : s.Still) (after : t.Still) (cfg : t.cfg = s.cfg) (need : Need) :
    t.needSatisfied need = s.needSatisfied need := by
  have serving : t.serving = s.serving := funext fun n => by rw [still.serving, after.serving]
  cases need with
  | load j => exact congrFun serving j
  | group g =>
    simp only [Part.needSatisfied, Part.members_of_records cfg, Part.group_of_records cfg, serving]

theorem Part.Still.needBecameSatisfied {s t : Part} (still : s.Still) (after : t.Still) (cfg : t.cfg = s.cfg) :
    s.needBecameSatisfied t = false := by
  simp [Part.needBecameSatisfied, still.needSatisfied after cfg]

/-- Such loads report no fall of D and no need satisfied (R92, R98). -/
theorem Part.Still.reportChange {s t : Part} (still : s.Still) (after : t.Still) (n : LoadId) :
    s.reportChange t n = t := by
  simp [Part.reportChange, still.contribution, after.contribution, after.serving]

theorem Part.Still.recomputeDemand {s t : Part} (still : s.Still) (after : t.Still) (cfg : t.cfg = s.cfg)
    (demand : t.dgv.demand = 0) : s.recomputeDemand t = t := by
  have due : (t.dgv.scanDue || decide (0 < t.dgv.demand) || false) = t.dgv.scanDue := by simp [demand]
  simp only [Part.recomputeDemand, after.demandNow, still.needBecameSatisfied after cfg, due]
  exact (congrArg (fun d => ({ t with dgv := { t.dgv with demand := d } } : Part)) demand).symm

/-! ## The plant after a reset -/

theorem runningPhase_running (m : Mode) : (runningPhase m).running = true := by
  cases m <;> rfl

/-- No in-use load has an idle time of 0 (Table 1-1 row 15). -/
def Settings.Idles (c : Settings) : Prop := ∀ n : LoadId, c.loads[n].inUse = true → 1 ≤ c.loads[n].idleMin

/-- A load since a reset: its record is that of the reset but for its state, which is the running state of the mode,
or STOPPING where an idle time of 0 let it stop (R29, R48). -/
structure LoadRecord.Rests (r old : LoadRecord) (now : Nat) (idles inUse : Prop) (mode : Mode) : Prop where
  activity : r.lastActivity = now
  started : r.startedAt = none
  stopped : r.stoppedAt = old.stoppedAt
  history : r.startHistory = old.startHistory
  feedback : r.feedback = false
  pending : r.stopPending = false
  unused : ¬inUse → r.phase = .unused
  running : inUse → r.phase = runningPhase mode ∨ (r.phase.isStopping = true ∧ ¬idles)

/-- Such a load is not OFF, and asks for no start. -/
theorem LoadRecord.Rests.asleep {r old : LoadRecord} {now : Nat} {idles inUse : Prop} {mode : Mode}
    (h : r.Rests old now idles inUse mode) : r.phase ≠ .off ∧ r.phase ≠ .queued ∧ r.phase ≠ .starting := by
  by_cases used : inUse
  · obtain running | ⟨stopping, -⟩ := h.running used
    · rw [running]; cases mode <;> simp [runningPhase]
    · refine ⟨?_, ?_, ?_⟩ <;> intro phase <;> rw [phase] at stopping <;> cases stopping
  · rw [h.unused used]; simp

/-- From p, a part that a RESET command has reloaded, moves of the mode alone have led to u. -/
structure Part.Afresh (p u : Part) : Prop where
  work : p.ModeWork u
  cfg : u.cfg = p.cfg
  holds : u.holds = []
  armed : u.ncc.armed = false
  late : u.ncc.late = false
  dgv : u.dgv = resetGovernor p.cfg
  causes : ∀ i : Fin 8, i ≠ 5 → u.atl.pending.getLsbD i = false ∧ u.atl.details[i] = none
  loads : ∀ n, (u.load n).Rests (p.load n) p.now p.cfg.Idles (p.inUse n = true) u.mode

section
variable {p u : Part}

theorem Part.Afresh.still (h : p.Afresh u) : u.Still := fun n => ⟨(h.loads n).started, (h.loads n).feedback⟩

/-- Moves that leave the loads, the Governor, the records, the flags, the holds and the mode. -/
theorem Part.Afresh.congr {v : Part} (h : p.Afresh u) (work : u.ModeWork v) (loads : v.loads = u.loads)
    (cfg : v.cfg = u.cfg) (dgv : v.dgv = u.dgv) (holds : v.holds = u.holds) (mode : v.mode = u.mode)
    (armed : v.ncc.armed = u.ncc.armed) (late : v.ncc.late = u.ncc.late) (atl : v.atl = u.atl) : p.Afresh v where
  work := h.work.trans work
  cfg := cfg.trans h.cfg
  holds := holds.trans h.holds
  armed := armed.trans h.armed
  late := late.trans h.late
  dgv := dgv.trans h.dgv
  causes := atl ▸ h.causes
  loads n := by rw [Part.load, loads, mode]; exact h.loads n

theorem Part.Afresh.setMode (h : p.Afresh u) {m : ModeState} (mode : (u.setMode m).mode = u.mode) :
    p.Afresh (u.setMode m) :=
  h.congr (u.modeWork_setMode m) rfl rfl rfl rfl mode rfl rfl rfl

theorem Part.Afresh.nextChoice (h : p.Afresh u) : p.Afresh u.nextChoice :=
  h.congr u.loadWork_nextChoice.modeWork rfl rfl rfl rfl rfl rfl rfl rfl

theorem Part.Afresh.settleChecks (h : p.Afresh u) (before : Part) : p.Afresh (before.settleChecks u) :=
  h.congr (before.loadWork_settleChecks u).modeWork rfl rfl rfl rfl rfl rfl rfl rfl

theorem Part.Afresh.setLate (h : p.Afresh u) : p.Afresh (u.setLate false) :=
  h.congr (u.modeWork_setLate false) rfl rfl rfl rfl rfl rfl h.late.symm rfl

theorem Part.Afresh.raiseMode (h : p.Afresh u) (late : Bool) : p.Afresh (u.raiseMode late) where
  work := h.work.trans (u.modeWork_raiseMode late)
  cfg := h.cfg
  holds := h.holds
  armed := h.armed
  late := h.late
  dgv := h.dgv
  causes i other := by
    obtain ⟨pending, details⟩ := u.raise_others (.mode u.mode late) (i := i) other
    obtain ⟨off, none⟩ := h.causes i other
    exact ⟨pending.trans off, details.trans none⟩
  loads := h.loads

/-- The telling of a mode gives every load that runs the running state of that mode (R116). -/
theorem Part.Afresh.tellMode (h : p.Afresh u) (m : ModeState) : p.Afresh (u.tellMode m) := by
  obtain ⟨lamps, due, told⟩ := u.tellMode_eq m
  have record (n : LoadId) : (u.tellMode m).load n =
      if (u.load n).phase.running && (u.load n).phase != runningPhase (u.setMode m).mode then
        { u.load n with phase := runningPhase (u.setMode m).mode, changed := true } else u.load n := by
    rw [told]
    exact tabulate_getElem _ n.val n.isLt
  have mode : (u.tellMode m).mode = (u.setMode m).mode := by rw [told]; rfl
  refine ⟨h.work.trans (u.modeWork_tellMode m), ?_, ?_, ?_, ?_, ?_, ?_, fun n => ?_⟩
  · rw [told]; exact h.cfg
  · rw [told]; exact h.holds
  · rw [told]; exact h.armed
  · rw [told]; exact h.late
  · rw [told]; exact h.dgv
  · rw [told]; exact h.causes
  · rw [record, mode]
    have rests := h.loads n
    split
    · next moves =>
      have runs := (Bool.and_eq_true_iff.1 moves).1
      refine ⟨rests.activity, rests.started, rests.stopped, rests.history, rests.feedback, rests.pending,
        fun out => ?_, fun _ => .inl rfl⟩
      rw [rests.unused out] at runs; cases runs
    · next same =>
      refine ⟨rests.activity, rests.started, rests.stopped, rests.history, rests.feedback, rests.pending,
        rests.unused, fun used => (rests.running used).imp_left fun runs => ?_⟩
      simpa [runs, runningPhase_running] using same

/-- Only a load with an idle time of 0 can be stopped, since every idle time runs from the reset (R29, R48). -/
theorem Part.Afresh.stops (h : p.Afresh u) {n : LoadId} (stops : u.stopsNow n = true) :
    p.inUse n = true ∧ ¬p.cfg.Idles := by
  have rests := h.loads n
  simp only [Part.stopsNow, rests.pending, Bool.false_and, Bool.or_false, Part.idleStopDue, Bool.and_eq_true,
    decide_eq_true_eq] at stops
  obtain ⟨⟨⟨⟨⟨⟨⟨-, watch⟩, -⟩, idle⟩, -⟩, -⟩, -⟩, -⟩ := stops
  rw [rests.activity, h.work.now, Nat.sub_self, h.work.config] at idle
  have used : p.inUse n = true := by
    by_contra out
    rw [rests.unused out] at watch
    cases watch
  refine ⟨used, fun idles => ?_⟩
  have idleMin := idles n used
  simp only [Part.config] at idle
  omega

theorem Part.Afresh.quiet (h : p.Afresh u) (idles : p.cfg.Idles) (n : LoadId) : u.stopsNow n = false :=
  Bool.eq_false_iff.2 fun stops => (h.stops stops).2 idles

theorem Part.Afresh.setLoad (h : p.Afresh u) {n : LoadId} {r : LoadRecord}
    (rests : r.Rests (p.load n) p.now p.cfg.Idles (p.inUse n = true) u.mode) : p.Afresh (u.setLoad n r) := by
  refine ⟨h.work.trans (u.loadWork_setLoad n r).modeWork, h.cfg, h.holds, h.armed, h.late, h.dgv, h.causes,
    fun k => ?_⟩
  rw [Part.setLoad_load]
  split
  · next same => subst same; exact rests
  · exact h.loads k

theorem Part.Afresh.enterStopping (h : p.Afresh u) {n : LoadId} (stops : u.stopsNow n = true) :
    p.Afresh (u.enterStopping n) := by
  obtain ⟨used, hurried⟩ := h.stops stops
  have rests := h.loads n
  have moved : p.Afresh
      (u.moveLoad n { u.load n with phase := .stopping u.now, stopPending := false, changed := true }) := by
    refine Part.Afresh.congr (h.setLoad ?_) (u.loadWork_noteInputs _).modeWork rfl rfl rfl rfl rfl rfl rfl rfl
    exact ⟨rests.activity, rests.started, rests.stopped, rests.history, rests.feedback,
      rfl, fun out => absurd used out, fun _ => .inr ⟨rfl, hurried⟩⟩
  rw [Part.enterStopping, h.still.reportChange moved.still]
  exact moved

theorem Part.Afresh.takeChecks (h : p.Afresh u) (fuel : Nat) (due : List LoadId) : p.Afresh (u.takeChecks fuel due) := by
  induction fuel generalizing u due with
  | zero => exact h
  | succ fuel ih =>
    unfold Part.takeChecks
    split
    · exact h
    · next n alone =>
      have stops : n ∈ due.filter u.stopsNow := by rw [alone]; exact List.mem_singleton_self n
      exact ih (h.enterStopping (List.mem_filter.1 stops).2) _
    · next n m rest several =>
      refine ih (h.nextChoice.enterStopping ?_) _
      have within : Config.freeChoice u.freeCount % (rest.length + 2) < (n :: m :: rest).length :=
        Nat.mod_lt _ (Nat.succ_pos _)
      rw [List.getD_eq_getElem _ _ within]
      have passes (j : LoadId) (listed : j ∈ n :: m :: rest) : u.stopsNow j = true :=
        (List.mem_filter.1 (several.symm ▸ listed)).2
      exact passes _ (List.getElem_mem within)

theorem Part.Afresh.takeNextNight (h : p.Afresh u) (day : u.mode = .day) (mark : Option Nat) :
    p.Afresh (u.takeNextNight mark).1 := h.setMode day.symm

theorem Part.Afresh.takeLead (h : p.Afresh u) (night : u.mode = .night) (target : Option WakeTarget) :
    p.Afresh (u.takeLead target).1 := h.setMode night.symm

theorem Part.Afresh.enterNight (h : p.Afresh u) (night : u.mode = .night) : p.Afresh u.enterNight.1 := by
  have checked {v : Part} (h : p.Afresh v) : p.Afresh v.nightChecks := h.takeChecks _ _
  have still (v : Part) : v.nightChecks.mode = v.mode := (v.loadWork_takeChecks _ _).mode
  unfold Part.enterNight
  dsimp only
  split
  · exact h.takeLead night _
  · split
    · exact checked (h.nextChoice.takeLead night _)
    · exact (checked h.nextChoice).takeLead ((still _).trans night) _

/-- A wake request finds no load OFF, and is kept by one in STOPPING (R35). -/
theorem Part.Afresh.enqueue (h : p.Afresh u) (n : LoadId) (o : Origin) : p.Afresh (u.enqueue n o) := by
  have rests := h.loads n
  unfold Part.enqueue Part.request
  split
  · exact h
  · split
    · next off => exact absurd off rests.asleep.1
    · next queued => exact absurd queued rests.asleep.2.1
    · exact h.setLoad ⟨rests.activity, rests.started, rests.stopped, rests.history, rests.feedback, rests.pending,
        rests.unused, rests.running⟩
    · exact h

theorem Part.Afresh.sweep (h : p.Afresh u) : p.Afresh u.sweep := by
  unfold Part.sweep
  generalize u.sweepList = l
  induction l generalizing u with
  | nil => exact h
  | cons n l ih => exact ih (h.enqueue n .wake)

theorem Part.Afresh.wakeWork (h : p.Afresh u) : u.wakeWork = false := by
  have starting (n : LoadId) : (u.load n).phase ≠ .starting := by
    exact (h.loads n).asleep.2.2
  have queue : u.dgv.queue = [] := by rw [h.dgv]; rfl
  simp [Part.wakeWork, queue, starting]

/-! ## The moves of the mode (R116) -/

/-- A move that neither enters SETUP nor is taken late. -/
def Move.plain : Move → Bool
  | .setup => false
  | .day late _ => !late
  | .windDown _ _ | .night => true
  | .wake _ atOnce => !atOnce

theorem Part.Afresh.enterDay (h : p.Afresh u) (day : u.mode = .day) (mark : Option Nat) :
    p.Afresh (u.enterDay false mark).1 := by
  unfold Part.enterDay
  rw [Part.swapIfArmed_unarmed h.setLate.armed]
  exact h.setLate.takeNextNight day mark

theorem Part.tellMode_mode (s : Part) (m : ModeState) : (s.tellMode m).mode = (s.setMode m).mode := by
  obtain ⟨_, _, told⟩ := s.tellMode_eq m
  rw [told]; rfl

theorem Part.Afresh.applyMove (h : p.Afresh u) {m : Move} (plain : m.plain = true) : p.Afresh (u.applyMove m).1 := by
  have told (mode : ModeState) := u.tellMode_mode mode
  cases m with
  | setup => cases plain
  | day late mark =>
    cases late with
    | true => cases plain
    | false => exact ((h.tellMode _).enterDay (told _) mark).raiseMode false
  | windDown deadline scheduled => exact (h.tellMode _).raiseMode false
  | night => exact ((h.tellMode _).enterNight (told _)).raiseMode false
  | wake grace atOnce => exact (h.tellMode _).sweep.raiseMode false

/-- The moves of a night come in turn: WIND_DOWN, NIGHT, WAKE, DAY. -/
def Move.turn : Move → Nat
  | .setup | .day _ _ => 0
  | .windDown _ _ => 1
  | .night => 2
  | .wake _ _ => 3

theorem nextNightMove_windDown (next : Option NextNight) (now : Nat) :
    ∀ m ∈ (nextNightMove next now).toList, m.plain = true ∧ m.turn = 1 := by
  unfold nextNightMove
  split
  · split <;> simp [Move.plain, Move.turn]
  · simp

theorem Part.leadMove_wake (s : Part) (target : Option WakeTarget) (wakeBegin : Option Nat) :
    ∀ m ∈ (s.leadMove target wakeBegin).toList, m.plain = true ∧ m.turn = 3 := by
  unfold Part.leadMove
  split
  · split <;> simp [Move.plain, Move.turn]
  · simp

theorem Part.enterNight_wake (s : Part) : ∀ m ∈ s.enterNight.2.toList, m.plain = true ∧ m.turn = 3 := by
  unfold Part.enterNight
  dsimp only
  split
  · exact s.leadMove_wake _ _
  · split <;> exact Part.leadMove_wake _ _ _

theorem Part.enterNight_mode (s : Part) : s.enterNight.1.mode = .night := by
  have still (v : Part) : v.nightChecks.mode = v.mode := (v.loadWork_takeChecks _ _).mode
  unfold Part.enterNight
  dsimp only
  split
  · rfl
  · split
    · exact still _
    · rfl

/-- After WAKE there always is a further change, as no load is left to start (R124). -/
theorem Part.Afresh.applyMove_wake {grace : Option Int} {atOnce : Bool}
    (after : p.Afresh (u.applyMove (.wake grace atOnce)).1) :
    (u.applyMove (.wake grace atOnce)).2 = some (.day false none) := if_pos (congrArg not after.wakeWork)

/-- The further change that an entry calls for is the next in turn, and none may fail after WAKE (R115, R118,
R122, R124). -/
theorem Part.Afresh.applyMove_next (h : p.Afresh u) {m : Move} (plain : m.plain = true) :
    (∀ m' ∈ (u.applyMove m).2.toList, m'.plain = true ∧ m'.turn = (m.turn + 1) % 4) ∧
      ((u.applyMove m).1.mode = .wake → (u.applyMove m).2 = some (.day false none)) := by
  have after := h.applyMove plain
  cases m with
  | setup => cases plain
  | day late mark =>
    obtain ⟨enters, next, -⟩ := u.applyMove_day late mark
    rw [next, Part.mode_of_day enters.mode]
    exact ⟨nextNightMove_windDown _ _, nofun⟩
  | windDown deadline scheduled =>
    have mode : (u.applyMove (.windDown deadline scheduled)).1.mode = .windDown := by
      simp only [Part.applyMove, Part.raiseMode, Part.raise_mode, Part.tellMode_mode]
      rfl
    rw [mode]
    refine ⟨?_, nofun⟩
    simp only [Part.applyMove]
    split <;> simp [Move.plain, Move.turn]
  | night =>
    have mode : (u.applyMove .night).1.mode = .night := by
      simp only [Part.applyMove, Part.raiseMode, Part.raise_mode, Part.enterNight_mode]
    have next : (u.applyMove .night).2 = (u.tellMode (.night none none 0)).enterNight.2 := by
      simp only [Part.applyMove]
    rw [mode, next]
    exact ⟨(u.tellMode (.night none none 0)).enterNight_wake, nofun⟩
  | wake grace atOnce =>
    have ends := after.applyMove_wake
    rw [ends]
    simp [Move.plain, Move.turn]

theorem Part.Afresh.runMoves (h : p.Afresh u) (fuel : Nat) {m : Option Move} (plain : ∀ m' ∈ m.toList, m'.plain = true) :
    p.Afresh (u.runMoves fuel m) := by
  induction fuel generalizing u m with
  | zero => cases m <;> exact h
  | succ fuel ih =>
    cases m with
    | none => exact h
    | some m =>
      have ok := plain m (List.mem_singleton_self m)
      exact ih (h.applyMove ok) fun m' next => ((h.applyMove_next ok).1 m' next).1

theorem Part.Afresh.changeMode (h : p.Afresh u) {m : Move} (plain : m.plain = true) : p.Afresh (u.changeMode m) :=
  h.runMoves 8 fun _ next => by cases List.mem_singleton.1 next; exact plain

/-- The moves do not run out in WAKE, where the turns left for them and the turn of the first are not a whole number of
nights. -/
theorem Part.Afresh.runMoves_awake (h : p.Afresh u) (fuel : Nat) {m : Option Move}
    (plain : ∀ m' ∈ m.toList, m'.plain = true ∧ (m'.turn + fuel) % 4 ≠ 0)
    (goesOn : u.mode = .wake → m = some (.day false none)) : (u.runMoves fuel m).mode ≠ .wake := by
  induction fuel generalizing u m with
  | zero =>
    intro wake
    have day := goesOn (by cases m <;> exact wake)
    exact (plain _ (by rw [day]; exact List.mem_singleton_self _)).2 rfl
  | succ fuel ih =>
    cases m with
    | none => exact fun wake => by cases goesOn wake
    | some m =>
      obtain ⟨ok, turn⟩ := plain m (List.mem_singleton_self m)
      obtain ⟨next, on⟩ := h.applyMove_next ok
      refine ih (h.applyMove ok) (fun m' listed => ?_) on
      obtain ⟨ok', turn'⟩ := next m' listed
      exact ⟨ok', by omega⟩

/-! ## The close of the handling -/

theorem Part.Afresh.finish {r : Part} (h : p.Afresh u) (g : p.Afresh r) : p.Afresh (u.finish r) := by
  have checked : p.Afresh (u.recheck r) := (g.takeChecks _ _).settleChecks u
  have demand : p.Afresh (u.recomputeDemand (u.recheck r)) := by
    rw [h.still.recomputeDemand checked.still (checked.cfg.trans h.cfg.symm) (by rw [checked.dgv]; rfl)]
    exact checked
  unfold Part.finish Part.wakeEndTest
  split
  · exact (demand.changeMode rfl).settleChecks u
  · exact demand.settleChecks u

/-! ## The class of the moment (R127, R128) -/

theorem Part.reclassify_setup {s : Part} (setup : s.ncc.mode = .setup) : s.reclassify = s := by
  unfold Part.reclassify
  rw [setup]
  split <;> rfl

theorem Part.reclassify_unscheduled {s : Part} {next : Option NextNight} {mark : Option Nat}
    (day : s.ncc.mode = .day next mark) (unscheduled : s.scheduled = false) :
    s.reclassify = s.setMode (.day none mark) := by
  unfold Part.reclassify
  rw [day, unscheduled]
  rfl

/-- Table 5-4, from DAY. -/
theorem Part.reclassify_day {s : Part} {next : Option NextNight} {mark : Option Nat} (day : s.ncc.mode = .day next mark)
    (scheduled : s.scheduled = true) :
    s.reclassify =
      match s.classify with
      | .day => s.setMode (.day (s.nextNight mark) mark)
      | .windDown d => s.changeMode (.windDown d true)
      | .night _ => s.changeMode .night := by
  unfold Part.reclassify
  rw [day, scheduled]
  cases s.classify <;> rfl

/-- From SETUP or DAY the class of the moment leads to a plant at rest, and not to WAKE. -/
theorem Part.Afresh.reclassify (h : p.Afresh u)
    (early : u.ncc.mode = .setup ∨ ∃ next mark, u.ncc.mode = .day next mark) :
    p.Afresh u.reclassify ∧ u.reclassify.mode ≠ .wake := by
  obtain setup | ⟨next, mark, day⟩ := early
  · rw [Part.reclassify_setup setup]
    exact ⟨h, by rw [Part.mode, setup]; nofun⟩
  · have stays (n : Option NextNight) : p.Afresh (u.setMode (.day n mark)) ∧ (u.setMode (.day n mark)).mode ≠ .wake :=
      ⟨h.setMode (Part.mode_of_day day).symm, nofun⟩
    have moves (m : Move) (plain : m.plain = true) (turn : (m.turn + 8) % 4 ≠ 0) :
        p.Afresh (u.changeMode m) ∧ (u.changeMode m).mode ≠ .wake := by
      refine ⟨h.changeMode plain, h.runMoves_awake 8 (fun m' listed => ?_) fun wake => ?_⟩
      · cases List.mem_singleton.1 listed; exact ⟨plain, turn⟩
      · rw [Part.mode_of_day day] at wake; cases wake
    cases scheduled : u.scheduled with
    | false => rw [Part.reclassify_unscheduled day scheduled]; exact stays _
    | true =>
      rw [Part.reclassify_day day scheduled]
      split
      · exact stays _
      · exact moves _ rfl (by simp [Move.turn])
      · exact moves _ rfl (by simp [Move.turn])

/-- No load is OFF, so the lead is base_lead_s, up to its limit (R121). -/
theorem Part.Afresh.leadSeconds (h : p.Afresh u) : u.leadSeconds = min 14400 p.cfg.active.baseLeadS := by
  have asleep : (allLoads.filter fun n => u.inUse n && (u.load n).phase = .off && u.offCount n = 0) = [] :=
    List.filter_eq_nil_iff.2 fun n _ => by simp [(h.loads n).asleep.1]
  have headroom (x : Int) : ceilDiv 0 (max Config.headroomMin x).toNat = 0 := by
    have : 0 < (max Config.headroomMin x).toNat := by
      have := Int.le_max_left Config.headroomMin x
      simp only [Config.headroomMin] at this ⊢
      omega
    unfold ceilDiv
    exact Nat.div_eq_of_lt (by omega)
  unfold Part.leadSeconds
  simp only [asleep]
  simp [headroom, h.cfg, Config.leadMax]

/-- Where no idle time is 0, the entry to NIGHT stops no load, and the lead and wake_begin are computed (R120). -/
theorem Part.Afresh.enterNight_quiet (h : p.Afresh u) (idles : p.cfg.Idles) :
    u.enterNight = u.takeLead u.wakeTarget := by
  have none_stops : (allLoads.filter fun n => u.checkable n && u.stopsNow n) = [] :=
    List.filter_eq_nil_iff.2 fun n _ => by simp [h.quiet idles n]
  unfold Part.enterNight
  simp [none_stops]

end

end Sys2Proof.Machine
end

section
/-! A RESET command carried out at the end of its result (R17, R127, R128, R187, R195, R201). -/

namespace Sys2Proof.Machine

/-! ## The next night lies ahead (R107, R115) -/

theorem leastBy_mem {α : Type} {f : α → Int} {l : List α} {a : α} (h : leastBy f l = some a) : a ∈ l := by
  induction l generalizing a with
  | nil => cases h
  | cons b l ih =>
    unfold leastBy at h
    cases least : leastBy f l with
    | none => simp only [least, Option.some.injEq] at h; simp [h]
    | some c =>
      simp only [least] at h
      split at h
      · cases h; exact List.mem_cons_of_mem _ (ih least)
      · cases h; exact List.mem_cons_self

/-- With a clock in range the next occurrence of a minute of week lies ahead (R107). -/
theorem Part.ClockOk.nextOccurrence {s : Part} (ok : s.ClockOk) (m : Nat) : (s.now : Int) < s.nextOccurrence m := by
  obtain ⟨-, second⟩ := ok
  simp only [Part.nextOccurrence, Part.minuteStart, forwardDistance]
  omega

theorem Part.ClockOk.nextNight {s : Part} (ok : s.ClockOk) {night : NextNight} (h : s.nextNight none = some night) :
    s.now < night.nightStart := by
  unfold Part.nextNight at h
  split at h
  · obtain ⟨d, least, rfl⟩ := Option.map_eq_some_iff.1 h
    obtain ⟨m, -, rfl⟩ := List.mem_map.1 (leastBy_mem least)
    have ahead := ok.nextOccurrence m
    simp only [afterMark]
    omega
  · cases h

/-- A moment of class WIND_DOWN is before its night_start (R127). -/
theorem Part.ClockOk.classify_windDown {s : Part} (ok : s.ClockOk) {nightStart : Nat}
    (h : s.classify = .windDown nightStart) : s.now < nightStart := by
  have awake : s.classifyAwake = .windDown nightStart → s.now < nightStart := by
    unfold Part.classifyAwake
    split
    · next night found =>
      split
      · rintro ⟨⟩; exact ok.nextNight found
      · nofun
    · nofun
  unfold Part.classify at h
  split at h
  · split at h
    · cases h
    · exact awake h
  · exact awake h

/-! ## The plant reloaded and entered (R130, R201) -/

/-- A slot in use after the reload keeps its start_history and stopped_at alone (R48). -/
theorem Part.reloaded_load (s : Part) (image : Option Settings) (n : LoadId) :
    (s.reloaded image).load n =
      if ((image.getD {}).loads[n]).inUse then
        { freshLoad true with
          lastActivity := s.now, stoppedAt := (s.load n).stoppedAt, startHistory := (s.load n).startHistory }
      else { freshLoad false with lastActivity := s.now } :=
  tabulate_getElem _ n.val n.isLt

/-- The part as entered is at rest. -/
theorem Part.afresh_entered (s : Part) (image : Option Settings) (good : Bool) :
    (s.reloaded image).Afresh ((s.reloaded image).entered good) := by
  have running : runningPhase ((s.reloaded image).firstMode good).mode = .localRun := by
    unfold Part.firstMode
    split <;> rfl
  rw [Part.entered_eq]
  refine ⟨?_, rfl, rfl, rfl, rfl, rfl, fun i _ => ⟨BitVec.getLsbD_zero, Vector.getElem_replicate i.isLt⟩, fun n => ?_⟩
  · exact ⟨rfl, rfl, rfl, rfl, rfl, rfl, rfl, rfl, rfl, rfl, rfl⟩
  · have record := s.reloaded_load image n
    change ((s.reloaded image).load n).Rests _ _ _ (((image.getD {}).loads[n]).inUse = true) _
    refine ⟨?_, ?_, rfl, rfl, ?_, ?_, fun out => ?_, fun used => .inl ?_⟩
    · rw [record]; split <;> rfl
    · rw [record]; split <;> rfl
    · rw [record]; split <;> rfl
    · rw [record]; split <;> rfl
    · rw [record, if_neg out]; rfl
    · rw [record, if_pos used]; exact running.symm

/-! ## The moves from DAY by class (R128) -/

theorem Part.reclassify_windDown {e : Part} (day : e.ncc.mode = .day none none) (scheduled : e.scheduled = true)
    {nightStart : Nat} (ok : e.ClockOk) (moment : e.classify = .windDown nightStart) :
    e.reclassify.ncc.mode = .windDown nightStart true ∧ e.reclassify.modeRaised .windDown false := by
  obtain ⟨_, _, _, moved⟩ := Part.applyMove_windDown (s := e) true (ok.classify_windDown moment)
  rw [Part.reclassify_day day scheduled, moment]
  simp only
  rw [Part.changeMode, Part.runMoves_some, moved, Part.runMoves_none]
  exact ⟨rfl, Part.modeRaised_raiseMode _ false⟩

/-- A plant at rest reads the schedule that it read when it was entered (R107). -/
theorem Part.Afresh.schedule {p e u : Part} (h : p.Afresh e) (g : p.Afresh u) :
    u.wakeTarget = e.wakeTarget ∧ u.dayNight none = e.nextNight none := by
  have plans : u.dayPlans = u.cfg := if_neg (by simp [g.armed])
  have cfg : u.cfg = e.cfg := g.cfg.trans h.cfg.symm
  have clock : u.ncc.clock = e.ncc.clock := g.work.clock.trans h.work.clock.symm
  have uptime : u.ncc.uptime = e.ncc.uptime := g.work.uptime.trans h.work.uptime.symm
  obtain ⟨-, -, target, -, night⟩ := Part.schedule_of_clock (s := e) (t := u) (by rw [cfg]) clock uptime
  exact ⟨target, (Part.dayNight_eq plans.symm rfl rfl none).symm.trans (night none)⟩

theorem Part.mode_of_night {s : Part} {target : Option WakeTarget} {wakeBegin : Option Nat} {lead : Nat}
    (h : s.ncc.mode = .night target wakeBegin lead) : s.mode = .night := by
  rw [Part.mode, h]

theorem Part.leadMove_setMode (s : Part) (m : ModeState) (target : Option WakeTarget) (wakeBegin : Option Nat) :
    (s.setMode m).leadMove target wakeBegin = s.leadMove target wakeBegin := rfl

/-- The entry to NIGHT of a plant at rest: its lead is that of a plant without an OFF load (R120 to R122). -/
theorem Part.Afresh.applyMove_night {p e : Part} (h : p.Afresh e) (idles : p.cfg.Idles) {lead : Nat}
    (least : lead = min 14400 p.cfg.active.baseLeadS) :
    ∃ q : Part, p.Afresh q ∧ q.ncc.mode = .night e.wakeTarget (wakeBeginFor e.wakeTarget lead) lead ∧
      e.applyMove .night = (q.raiseMode false, q.leadMove e.wakeTarget (wakeBeginFor e.wakeTarget lead)) := by
  have told := h.tellMode (.night none none 0)
  have night : (e.tellMode (.night none none 0)).mode = .night :=
    (e.tellMode_mode _).trans (Part.mode_of_night rfl)
  have target := (h.schedule told).1
  have leads := told.leadSeconds
  have entered := told.enterNight_quiet idles
  rw [← least] at leads
  rw [target, Part.takeLead, leads] at entered
  refine ⟨(e.tellMode (.night none none 0)).setMode (.night e.wakeTarget (wakeBeginFor e.wakeTarget lead) lead),
    told.setMode ((Part.mode_of_night rfl).trans night.symm), rfl, ?_⟩
  simp only [Part.applyMove, entered, Part.leadMove_setMode]

theorem Part.Afresh.reclassify_night {p e : Part} (h : p.Afresh e) (day : e.ncc.mode = .day none none)
    (scheduled : e.scheduled = true) (idles : p.cfg.Idles) {w : WakeTarget} (moment : e.classify = .night w)
    {lead : Nat} (least : lead = min 14400 p.cfg.active.baseLeadS) :
    ((∀ b, wakeBeginFor e.wakeTarget lead = some b → e.now < b) →
      e.reclassify.ncc.mode = .night e.wakeTarget (wakeBeginFor e.wakeTarget lead) lead ∧
        e.reclassify.modeRaised .night false) ∧
    ((∃ b, wakeBeginFor e.wakeTarget lead = some b ∧ b ≤ e.now) →
      (∀ night, e.nextNight none = some night → e.now < night.warnStart) →
      e.reclassify.ncc.mode = .day (e.nextNight none) none ∧ e.reclassify.modeRaised .day false) := by
  obtain ⟨q, afresh, mode, moved⟩ := h.applyMove_night idles least
  have now : q.now = e.now := afresh.work.now.trans h.work.now.symm
  have night := Part.mode_of_night mode
  have reclassified : e.reclassify =
      (q.raiseMode false).runMoves 7 (q.leadMove e.wakeTarget (wakeBeginFor e.wakeTarget lead)) := by
    rw [Part.reclassify_day day scheduled, moment]
    simp only
    rw [Part.changeMode, Part.runMoves_some, moved]
  rw [reclassified]
  refine ⟨fun ahead => ?_, fun ⟨b, begun, past⟩ awake => ?_⟩
  · have stays : q.leadMove e.wakeTarget (wakeBeginFor e.wakeTarget lead) = none := by
      unfold Part.leadMove
      split
      · next t b _ begins => exact if_neg (Nat.not_le.2 (now ▸ ahead b begins))
      · rfl
    rw [stays, Part.runMoves_none]
    exact ⟨mode, night ▸ Part.modeRaised_raiseMode q false⟩
  · obtain ⟨t, target, -⟩ := Option.map_eq_some_iff.1 begun
    have wakes : q.leadMove e.wakeTarget (wakeBeginFor e.wakeTarget lead) =
        some (.wake (some (q.graceAfter t.at_)) false) := by
      rw [begun, target]
      exact if_pos (now ▸ past)
    have woken := (afresh.raiseMode false).applyMove (m := .wake (some (q.graceAfter t.at_)) false) rfl
    have ends := woken.applyMove_wake
    rw [wakes, Part.runMoves_some, ends]
    generalize ((q.raiseMode false).applyMove (.wake (some (q.graceAfter t.at_)) false)).1 = x at woken
    obtain ⟨-, nextNight⟩ := h.schedule woken
    obtain ⟨enters, next, -⟩ := x.applyMove_day false none
    have stays : nextNightMove (x.dayNight none) x.now = none := by
      rw [nextNight, woken.work.now.trans h.work.now.symm]
      unfold nextNightMove
      split
      · next night found => exact if_neg (Nat.not_le.2 (awake night found))
      · rfl
    rw [Part.runMoves_some, next, stays, Part.runMoves_none]
    exact ⟨enters.mode.trans (by rw [nextNight]), enters.raised⟩

/-! ## The whole of it -/

theorem exec_resultEnd_answering {s : State} {r : Result} (working : s.working = true)
    (answering : s.svp.receiver = .answering r) :
    exec .resultEnd s = .next (s.withPart (s.endResult r.after)) := by
  unfold exec execResultEnd
  rw [event_taken working, answering]

theorem Part.power_of_working {s : Part} (working : s.working = true) : s.power = {} := by
  obtain ⟨supply, line⟩ := Bool.and_eq_true_iff.1 working
  cases power : s.power
  simp_all

/-- The part as a RESET command leaves it, from a part at rest: the mode and the causes are those of the move (R128). -/
theorem Part.Afresh.closed {p e : Part} (h : p.Afresh e)
    (early : e.ncc.mode = .setup ∨ ∃ next mark, e.ncc.mode = .day next mark) :
    p.Afresh (e.finish e.reclassify) ∧ (e.finish e.reclassify).mode ≠ .wake ∧
      (e.finish e.reclassify).ncc = e.reclassify.ncc ∧ (e.finish e.reclassify).atl = e.reclassify.atl := by
  obtain ⟨moved, awake⟩ := h.reclassify early
  obtain ⟨_, _, _, _, closed⟩ := Part.finish_awake e awake
  refine ⟨h.finish moved, ?_, ?_, ?_⟩
  · rw [closed]; exact awake
  · rw [closed]
  · rw [closed]

/-- Settles O44: the plant is reloaded, entered at rest, and moved by the class of the moment. -/
theorem commandReset : Obligations.CommandReset := by
  intro s r working answering after
  dsimp only
  obtain ⟨image, stored⟩ : ∃ image, s.cfs.storage.image? = image := ⟨_, rfl⟩
  have run := exec_resultEnd_answering working answering
  rw [after, Part.endResult, Part.commandReset_eq stored, Part.commandResetFrom_eq] at run
  rw [stored]
  have fresh := s.toPart.afresh_entered image image.isSome
  obtain ⟨u, moment⟩ : ∃ u : Part, u = { cfg := image.getD {}, ncc := { uptime := s.ncc.uptime, clock := s.ncc.clock } } :=
    ⟨_, rfl⟩
  rw [← moment]
  have mode : ((s.reloaded image).entered image.isSome).ncc.mode =
      if image.isSome && u.validate.isNone then .day none none else .setup := by
    rw [← Part.validate_of_records (s := u) (t := s.reloaded image) (by rw [moment]; rfl), Part.entered_eq]; rfl
  have atl : ((s.reloaded image).entered image.isSome).atl = {} := by rw [Part.entered_eq]; rfl
  have early : ((s.reloaded image).entered image.isSome).ncc.mode = .setup ∨
      ∃ next mark, ((s.reloaded image).entered image.isSome).ncc.mode = .day next mark := by
    rw [mode]
    split
    · exact .inr ⟨_, _, rfl⟩
    · exact .inl rfl
  have record (n : LoadId) := s.toPart.reloaded_load image n
  generalize (s.reloaded image).entered image.isSome = e at *
  obtain ⟨afresh, awake, ncc, causes⟩ := fresh.closed early
  generalize e.finish e.reclassify = t at *
  have setup (h : e.ncc.mode = .setup) : t.ncc.mode = .setup ∧ t.atl = {} := by
    rw [ncc, causes, Part.reclassify_setup h]
    exact ⟨h, atl⟩
  have moved {m : ModeState} {named : Mode} {late : Bool}
      (h : e.reclassify.ncc.mode = m ∧ e.reclassify.modeRaised named late) :
      t.ncc.mode = m ∧ t.modeRaised named late := by
    rw [ncc, Part.modeRaised, causes]
    exact h
  refine ⟨_, run, afresh.cfg, afresh.holds, afresh.work.nextId, congrArg Governor.energy afresh.dgv,
    congrArg Governor.isPartial afresh.dgv, afresh.work.uptime, afresh.work.clock, afresh.armed, afresh.late,
    afresh.work.flm, congrArg LineInputs.keep afresh.work.lines, congrArg LineInputs.clear afresh.work.lines,
    congrArg LineInputs.call afresh.work.lines, congrArg LineInputs.meter afresh.work.lines,
    congrArg LineInputs.refusal afresh.work.lines, afresh.work.svp, afresh.work.cfs,
    afresh.work.power.trans (Part.power_of_working working).symm, fun _ => afresh.dgv.trans (resetGovernor_eq _),
    afresh.causes, fun invalid => ?_, fun good valid => ?_, fun idles n used => ?_, fun n used => ?_, fun bad => ?_⟩
  · refine setup (mode.trans (if_neg fun valid => invalid ?_))
    exact Option.isNone_iff_eq_none.1 (Bool.and_eq_true_iff.1 valid).2
  · have day : e.ncc.mode = .day none none :=
      mode.trans (if_pos (Bool.and_eq_true_iff.2 ⟨good, Option.isNone_iff_eq_none.2 valid⟩))
    obtain ⟨inForce, class_, target, -, night⟩ := Part.schedule_of_clock (s := u) (t := e)
      (by rw [fresh.cfg, moment]; rfl) (by rw [fresh.work.clock, moment]; rfl) (by rw [fresh.work.uptime, moment]; rfl)
    rw [← night none, ← target, ← inForce, ← class_]
    have now : e.now = s.now := fresh.work.now
    refine ⟨fun unscheduled => ?_, fun scheduled ok => ⟨fun moment => ?_, fun nightStart moment => ?_,
      fun w moment idles => ?_⟩⟩
    · rw [State.withPart_toPart, ncc, causes, Part.reclassify_unscheduled day unscheduled]
      exact ⟨rfl, atl⟩
    · rw [State.withPart_toPart, ncc, causes, Part.reclassify_day day scheduled, moment]
      exact ⟨rfl, atl⟩
    · have clock : e.ClockOk := by rw [Part.ClockOk, fresh.work.clock]; exact ok
      exact moved (Part.reclassify_windDown day scheduled clock moment)
    · obtain ⟨stays, wakes⟩ := fresh.reclassify_night day scheduled idles moment rfl
      rw [now] at stays wakes
      exact ⟨fun ahead => moved (stays ahead), fun past ahead => moved (wakes past ahead)⟩
  · obtain phase | ⟨-, hurried⟩ := (afresh.loads n).running used
    · refine phase.trans ?_
      cases mode : t.mode <;> simp [mode, runningPhase] at awake ⊢
    · exact absurd idles hurried
  · have rests := afresh.loads n
    have kept := record n
    rw [if_pos used] at kept
    exact ⟨rests.activity, rests.started, rests.stopped.trans (by rw [kept]), rests.history.trans (by rw [kept]),
      rests.feedback⟩
  · subst bad
    obtain ⟨setup, none⟩ := setup mode
    refine ⟨setup, none, fun n => (afresh.loads n).unused ?_⟩
    exact Bool.eq_false_iff.1 (State.reset_inUse n)

end Sys2Proof.Machine
end

section
/-! The need graph and the plant validation (R7, R9, R14, R15). -/

namespace Sys2Proof.Machine

/-! ## Paths and cycles of a relation on finitely many things -/

/-- A path of the given number of edges starts here. -/
def PathFrom {α : Type} (edge : α → α → Prop) (edges : Nat) (a : α) : Prop :=
  ∃ p : Nat → α, p 0 = a ∧ ∀ i < edges, edge (p i) (p (i + 1))

theorem pathFrom_zero {α : Type} (edge : α → α → Prop) (a : α) : PathFrom edge 0 a :=
  ⟨fun _ => a, rfl, fun _ h => absurd h (Nat.not_lt_zero _)⟩

theorem pathFrom_succ {α : Type} {edge : α → α → Prop} {k : Nat} {a : α} :
    PathFrom edge (k + 1) a ↔ ∃ b, edge a b ∧ PathFrom edge k b := by
  constructor
  · rintro ⟨p, rfl, steps⟩
    exact ⟨p 1, steps 0 (Nat.succ_pos k), fun i => p (i + 1), rfl, fun i h => steps (i + 1) (Nat.succ_lt_succ h)⟩
  · rintro ⟨_, step, p, rfl, steps⟩
    refine ⟨fun i => i.casesOn a p, rfl, fun i h => ?_⟩
    cases i with
    | zero => exact step
    | succ i => exact steps i (Nat.lt_of_succ_lt_succ h)

theorem PathFrom.of_le {α : Type} {edge : α → α → Prop} {k m : Nat} {a : α} (h : PathFrom edge m a) (le : k ≤ m) :
    PathFrom edge k a := by
  obtain ⟨p, start, steps⟩ := h
  exact ⟨p, start, fun i lt => steps i (Nat.lt_of_lt_of_le lt le)⟩

/-- From a cycle paths of every length start. -/
theorem pathFrom_of_cyclic {α : Type} {edge : α → α → Prop} (k : Nat) {a : α} (cyclic : Relation.TransGen edge a a) :
    PathFrom edge k a := by
  induction k generalizing a with
  | zero => exact pathFrom_zero edge a
  | succ k ih =>
    obtain ⟨b, step, back⟩ := Relation.TransGen.head'_iff.1 cyclic
    exact pathFrom_succ.2 ⟨b, step, ih (Relation.TransGen.tail' back step)⟩

/-- A path of as many edges as there are things comes twice to one of them. -/
theorem cyclic_of_pathFrom {n : Nat} {edge : Fin n → Fin n → Prop} {a : Fin n} (h : PathFrom edge n a) :
    ∃ b, Relation.TransGen edge b b := by
  obtain ⟨p, -, steps⟩ := h
  have between {i j : Nat} (lt : i < j) (within : j ≤ n) : Relation.TransGen edge (p i) (p j) :=
    Relation.TransGen.lift (r := fun i j => edge (p i) (p j)) p (fun _ _ => id) _ _
      (transGen_of_succ_of_lt _ (fun k h => steps k (Nat.lt_of_lt_of_le h.2 within)) lt)
  obtain ⟨i, j, ne, same⟩ := Fintype.exists_ne_map_eq_of_card_lt (fun i : Fin (n + 1) => p i) (by simp)
  obtain lt | lt := Nat.lt_or_gt_of_ne (fun e => ne (Fin.ext e))
  · exact ⟨p i, by have := between lt (Nat.lt_succ_iff.1 j.isLt); rwa [← same] at this⟩
  · exact ⟨p j, by have := between lt (Nat.lt_succ_iff.1 i.isLt); rwa [same] at this⟩

/-- Sets that grow by what their members lead to are closed once they have been extended as often as there are things:
what they then hold is what can be reached. -/
theorem mem_iff_reachable {n : Nat} {edge : Fin n → Fin n → Prop} (near : Nat → Finset (Fin n))
    (grow : ∀ k b, b ∈ near (k + 1) ↔ b ∈ near k ∨ ∃ a ∈ near k, edge a b) {k : Nat} (enough : n ≤ k + 1) (b : Fin n) :
    b ∈ near k ↔ ∃ a ∈ near 0, Relation.ReflTransGen edge a b := by
  have sub (k : Nat) : near k ⊆ near (k + 1) := fun b h => (grow k b).2 (.inl h)
  have sound (k : Nat) (b : Fin n) (h : b ∈ near k) : ∃ a ∈ near 0, Relation.ReflTransGen edge a b := by
    induction k generalizing b with
    | zero => exact ⟨b, h, .refl⟩
    | succ k ih =>
      obtain old | ⟨a, member, step⟩ := (grow k b).1 h
      · exact ih b old
      · obtain ⟨c, first, path⟩ := ih a member
        exact ⟨c, first, path.tail step⟩
  have stable {k : Nat} (same : near (k + 1) = near k) : near (k + 2) = near (k + 1) := by
    ext b
    rw [grow (k + 1), same, ← grow k, same]
  have larger {k : Nat} (grew : near (k + 1) ≠ near k) : (near k).card < (near (k + 1)).card :=
    Finset.card_lt_card (Finset.ssubset_iff_subset_ne.2 ⟨sub k, grew.symm⟩)
  have large (k : Nat) (grew : near (k + 1) ≠ near k) : k + 1 ≤ (near k).card := by
    induction k with
    | zero =>
      refine Finset.card_pos.2 (Finset.nonempty_iff_ne_empty.2 fun empty => grew ?_)
      ext b
      simp [grow, empty]
    | succ k ih =>
      have before : near (k + 1) ≠ near k := fun same => grew (stable same)
      exact Nat.lt_of_le_of_lt (ih before) (larger before)
  have closed : near (k + 1) = near k := by
    by_contra grew
    have all := Finset.card_le_univ (near (k + 1))
    have := large k grew
    have := larger grew
    simp only [Fintype.card_fin] at all
    omega
  have keeps : near 0 ⊆ near k := by
    clear closed enough
    induction k with
    | zero => exact subset_rfl
    | succ k ih => exact ih.trans (sub k)
  refine ⟨sound k b, ?_⟩
  rintro ⟨a, first, path⟩
  induction path with
  | refl => exact keeps first
  | tail _ step ih => exact closed ▸ (grow k _).2 (.inr ⟨_, ih, step⟩)

/-- A count of the first numbers that pass a test which, once failed, is failed for good, is the first that fails. -/
theorem countP_range_first {p : Nat → Bool} (down : ∀ k, p (k + 1) = true → p k = true) (n : Nat) :
    (List.range n).countP p ≤ n ∧ (∀ k < (List.range n).countP p, p k = true) ∧
      ((List.range n).countP p < n → p ((List.range n).countP p) = false) := by
  have below {i j : Nat} (le : i ≤ j) (h : p j = true) : p i = true := by
    induction le with
    | refl => exact h
    | step _ ih => exact ih (down _ h)
  induction n with
  | zero => simp
  | succ n ih =>
    obtain ⟨le, passed, failed⟩ := ih
    rw [List.range_succ, List.countP_append]
    cases last : p n with
    | true =>
      have all : (List.range n).countP p = n := by
        by_contra ne
        have lt := Nat.lt_of_le_of_ne le ne
        rw [below le last] at failed
        cases failed lt
      have one : [n].countP p = 1 := by simp [last]
      rw [one, all]
      refine ⟨Nat.le_refl _, fun k lt => ?_, fun lt => absurd lt (Nat.lt_irrefl _)⟩
      exact below (Nat.lt_succ_iff.1 lt) last
    | false =>
      have none : [n].countP p = 0 := by simp [last]
      rw [none, Nat.add_zero]
      refine ⟨Nat.le_succ_of_le le, passed, fun _ => ?_⟩
      obtain lt | same := Nat.lt_or_eq_of_le le
      · exact failed lt
      · rw [same]; exact last

/-! ## The need graph (R9) -/

/-- The need graph as a relation. -/
def Part.Edge (s : Part) (k j : LoadId) : Prop := s.edge k j = true

theorem Part.edge_iff {s : Part} {k j : LoadId} :
    s.Edge k j ↔ (s.cfg.loads[k]).inUse = true ∧ (s.cfg.loads[j]).inUse = true ∧
      (.load j ∈ (s.cfg.loads[k]).needs ∨ ∃ g, .group g ∈ (s.cfg.loads[k]).needs ∧ s.memberOf j g = true) := by
  have covers (need : Need) : s.needCovers need j = true ↔
      need = .load j ∨ ∃ g, need = .group g ∧ s.memberOf j g = true := by
    cases need <;> simp [Part.needCovers]
  simp only [Part.Edge, Part.edge, Part.inUse, Part.config, Bool.and_eq_true, List.any_eq_true, covers, and_assoc]
  refine and_congr_right fun _ => and_congr_right fun _ => ⟨?_, ?_⟩
  · rintro ⟨need, listed, rfl | ⟨g, rfl, member⟩⟩
    · exact .inl listed
    · exact .inr ⟨g, listed, member⟩
  · rintro (listed | ⟨g, listed, member⟩)
    · exact ⟨_, listed, .inl rfl⟩
    · exact ⟨_, listed, .inr ⟨g, rfl, member⟩⟩

theorem mem_allLoads (n : LoadId) : n ∈ allLoads := List.mem_finRange n

theorem Part.memberOf_iff {s : Part} {n : LoadId} {g : GroupId} :
    s.memberOf n g = true ↔ (s.group g).inUse = true ∧ s.inUse n = true ∧ (s.config n).group = some g := by
  simp only [Part.memberOf, Bool.and_eq_true, decide_eq_true_eq, and_assoc]

theorem Part.zoneMembers_isEmpty {s : Part} {z : ZoneId} :
    (s.zoneMembers z).isEmpty = true ↔ ∀ n, s.inUse n = true → (s.config n).zone ≠ z := by
  simp [Part.zoneMembers, mem_allLoads]

/-- The lists of `pathStarts` are those of the paths; an edge leads from an in-use load to another. -/
theorem Part.mem_pathStarts {s : Part} (k : Nat) (j : LoadId) :
    j ∈ s.pathStarts (k + 1) ↔ PathFrom s.Edge (k + 1) j := by
  induction k generalizing j with
  | zero =>
    simp only [Part.pathStarts, List.mem_filter, mem_allLoads, true_and, List.any_eq_true, pathFrom_succ]
    refine exists_congr fun i => ⟨fun ⟨_, step⟩ => ⟨step, pathFrom_zero _ i⟩, fun ⟨step, _⟩ => ⟨?_, step⟩⟩
    exact (Part.edge_iff.1 step).2.1
  | succ k ih =>
    rw [pathFrom_succ, Part.pathStarts]
    simp only [List.mem_filter, mem_allLoads, true_and, List.any_eq_true, ih]
    exact exists_congr fun i => and_comm

theorem Part.hasCycle_iff {s : Part} : s.hasCycle = true ↔ ∃ n, Relation.TransGen s.Edge n n := by
  have starts : s.hasCycle = true ↔ ∃ j, PathFrom s.Edge 64 j := by
    simp only [Part.hasCycle, Bool.not_eq_true', List.isEmpty_eq_false_iff_exists_mem, ← Part.mem_pathStarts]
  rw [starts]
  exact ⟨fun ⟨_, path⟩ => cyclic_of_pathFrom path, fun ⟨n, cyclic⟩ => ⟨n, pathFrom_of_cyclic 64 cyclic⟩⟩

theorem Part.onCycle_iff {s : Part} {j : LoadId} : s.onCycle j = true ↔ Relation.TransGen s.Edge j j := by
  have near (k : Nat) (b : LoadId) (from_ : List LoadId) :
      b ∈ (s.within from_ (k + 1)).toFinset ↔
        b ∈ (s.within from_ k).toFinset ∨ ∃ a ∈ (s.within from_ k).toFinset, s.Edge a b := by
    simp [Part.within, mem_allLoads, Part.Edge]
  have reach := mem_iff_reachable (fun k => (s.within (allLoads.filter fun i => s.edge j i) k).toFinset)
    (fun k b => near k b _) (k := 63) (Nat.le_refl _) j
  rw [Relation.TransGen.head'_iff, Part.onCycle, List.contains_iff_mem, ← List.mem_toFinset, reach]
  refine exists_congr fun a => and_congr_left fun _ => ?_
  rw [List.mem_toFinset, Part.within, List.mem_filter]
  exact and_iff_right (mem_allLoads a)

/-- The depth of an in-use load is the length of its longest path, where there is no cycle (R9). -/
theorem Part.depth_of_acyclic {s : Part} {j : LoadId} (used : s.inUse j = true)
    (acyclic : ∀ n, ¬Relation.TransGen s.Edge n n) :
    ∃ d, s.depth j = some d ∧ PathFrom s.Edge d j ∧ ¬PathFrom s.Edge (d + 1) j := by
  have starts (k : Nat) : (s.pathStarts (k + 1)).contains j = true ↔ PathFrom s.Edge (k + 1) j := by
    rw [List.contains_iff_mem, Part.mem_pathStarts]
  obtain ⟨le, passed, failed⟩ := countP_range_first (p := fun k => (s.pathStarts (k + 1)).contains j)
    (fun k h => (starts k).2 (((starts (k + 1)).1 h).of_le (Nat.le_succ _))) 63
  have noCycle : s.hasCycle = false := Bool.eq_false_iff.2 fun cycle => by
    obtain ⟨n, cyclic⟩ := Part.hasCycle_iff.1 cycle
    exact acyclic n cyclic
  refine ⟨s.depthOf j, by rw [Part.depth, used, noCycle]; rfl, ?_, fun longer => ?_⟩
  · obtain zero | ⟨e, last⟩ : s.depthOf j = 0 ∨ ∃ e, s.depthOf j = e + 1 := by
      cases s.depthOf j <;> simp
    · rw [zero]; exact pathFrom_zero _ j
    · rw [last]
      exact (starts e).1 (passed e (Nat.lt_of_lt_of_eq (Nat.lt_succ_self e) last.symm))
  · obtain lt | all := Nat.lt_or_eq_of_le le
    · exact Bool.eq_false_iff.1 (failed lt) ((starts _).2 longer)
    · have whole : s.depthOf j = 63 := all
      rw [whole] at longer
      obtain ⟨n, cyclic⟩ := cyclic_of_pathFrom longer
      exact acyclic n cyclic

theorem Part.depth_none {s : Part} {j : LoadId} (h : s.inUse j = false ∨ ∃ n, Relation.TransGen s.Edge n n) :
    s.depth j = none := by
  unfold Part.depth
  obtain out | cyclic := h
  · simp [out]
  · simp [Part.hasCycle_iff.2 cyclic]

/-! ## The passes (R15) -/

theorem findSome?_ite {α β : Type} (l : List α) (p : α → Bool) (f : α → β) :
    (l.findSome? fun a => if p a then some (f a) else none) = ((l.filter p).map f).head? := by
  induction l with
  | nil => rfl
  | cons a l ih =>
    rw [List.findSome?_cons, List.filter_cons]
    cases h : p a <;> simp [ih]

theorem Part.checkNeeds_eq (s : Part) :
    s.checkNeeds = (allLoads.flatMap fun n =>
      if s.inUse n then ((s.config n).needs.filterMap (s.needFailure n)).map fun r => ⟨.load, n.val, r⟩ else []).head? := by
  rw [List.head?_flatMap, Part.checkNeeds]
  congr 1
  funext n
  split
  · rw [List.head?_map, List.head?_filterMap]
  · rfl

theorem Part.checkGroups_eq (s : Part) :
    s.checkGroups = ((allGroups.filter fun g =>
      (s.group g).inUse && decide ((s.members g).length < (s.group g).required)).map fun g =>
        (⟨.group, g.val, .groupShort⟩ : Failure)).head? := findSome?_ite _ _ _

theorem Part.checkCycles_eq (s : Part) :
    s.checkCycles = ((allLoads.filter s.onCycle).map fun n => (⟨.load, n.val, .cycle⟩ : Failure)).head? := by
  rw [List.head?_map, List.head?_filter, Part.checkCycles]
  cases cycle : s.hasCycle with
  | true => rfl
  | false =>
    have noCycle : allLoads.find? s.onCycle = none := List.find?_eq_none.2 fun n _ on => by
      rw [Part.hasCycle_iff.2 ⟨n, Part.onCycle_iff.1 on⟩] at cycle
      cases cycle
    rw [noCycle]; rfl

theorem filter_decide_congr {α : Type} {P : α → Prop} {_ : DecidablePred P} {q : α → Bool} (h : ∀ a, P a ↔ q a = true)
    (l : List α) : (l.filter fun a => decide (P a)) = l.filter q :=
  List.filter_congr fun a _ => Bool.eq_iff_iff.2 (decide_eq_true_iff.trans (h a))

theorem Part.checkDepth_eq (s : Part) [DecidablePred (PathFrom s.Edge 5)] :
    s.checkDepth = ((allLoads.filter fun n => PathFrom s.Edge 5 n).map fun n =>
      (⟨.load, n.val, .tooDeep⟩ : Failure)).head? := by
  have starts : (allLoads.filter fun n => PathFrom s.Edge 5 n) = s.pathStarts 5 :=
    filter_decide_congr (fun n => ⟨fun path => (List.mem_filter.1 ((s.mem_pathStarts 4 n).2 path)).2,
      fun passes => (s.mem_pathStarts 4 n).1 (List.mem_filter.2 ⟨mem_allLoads n, passes⟩)⟩) _
  rw [starts, List.head?_map, Part.checkDepth]

theorem Part.checkCalls_eq (s : Part) :
    s.checkCalls = ((allCalls.filter fun c => s.cfg.calls[c].inUse && !(s.group s.cfg.calls[c].group).inUse).map fun c =>
      (⟨.call, c.val, .callUnknown⟩ : Failure)).head? := findSome?_ite _ _ _

theorem Part.checkPanels_eq (s : Part) :
    s.checkPanels = ((allPanels.filter fun p =>
      s.cfg.panels[p].inUse && (s.zoneMembers s.cfg.panels[p].zone).isEmpty).map fun p =>
        (⟨.panel, p.val, .panelEmpty⟩ : Failure)).head? := findSome?_ite _ _ _

/-- The first failure of the passes is the first of the failures of all of them (R15). -/
theorem Part.validate_eq (s : Part) :
    s.validate = s.checkNeeds.or (s.checkGroups.or (s.checkCycles.or (s.checkDepth.or
      (s.checkCalls.or s.checkPanels)))) := by
  simp only [Part.validate, Option.orElse_eq_orElse, Option.orElse_eq_or]

/-! ## Codes (R14, Table 10-6) -/

/-- The place of a kind among the kinds. -/
def FailureKind.place : FailureKind → Nat
  | .load => 0 | .group => 1 | .call => 2 | .panel => 3

/-- The place of a reason in Table 1-3. -/
def FailureReason.place : FailureReason → Nat
  | .needUnknown => 0 | .needSelf => 1 | .groupShort => 2 | .cycle => 3 | .tooDeep => 4 | .callUnknown => 5
  | .panelEmpty => 6

theorem Failure.bytes_eq (kind : FailureKind) (index : Nat) (reason : FailureReason) :
    (⟨kind, index, reason⟩ : Failure).bytes =
      [BitVec.ofNat 8 kind.place, BitVec.ofNat 8 index, BitVec.ofNat 8 (reason.place + 1)] := by
  cases kind <;> cases reason <;> rfl

/-- Settles O42: each pass is the head of its list of failures, and the need graph's paths are those of `pathStarts`. -/
theorem plantValidation : Obligations.PlantValidation := by
  intro s used usedGroup member edge path cyclic needFails loadFailure needs groups cycles depths calls panels
  have members (g : GroupId) (n : LoadId) : member g n ↔ s.memberOf n g = true :=
    ⟨fun ⟨load, group, named⟩ => Part.memberOf_iff.2 ⟨group, load, named⟩,
      fun h => have ⟨group, load, named⟩ := Part.memberOf_iff.1 h; ⟨load, group, named⟩⟩
  have edges : edge = s.Edge := by
    funext k j
    rw [eq_iff_iff, Part.edge_iff]
    simp only [edge, members]
    rfl
  have paths (k : Nat) (j : LoadId) : path k j ↔ PathFrom s.Edge k j := by rw [← edges]; rfl
  have cycles_ (n : LoadId) : cyclic n ↔ Relation.TransGen s.Edge n n := by rw [← edges]
  refine ⟨?_, fun kind index reason => ?_, fun j h => ?_, fun j h acyclic => ?_⟩
  · have needFails_ (n : LoadId) : needFails n = s.needFailure n := by
      funext need
      cases need with
      | load j => exact if_congr (by rw [Bool.not_eq_true', Bool.eq_false_iff]; rfl) rfl (if_congr Iff.rfl rfl rfl)
      | group g => exact if_congr (by rw [Bool.not_eq_true', Bool.eq_false_iff]; rfl) rfl (if_congr Iff.rfl rfl rfl)
    have needsIs : needs.head? = s.checkNeeds := by
      rw [s.checkNeeds_eq]
      refine congrArg (fun f : LoadId → List Failure => (allLoads.flatMap f).head?) (funext fun n => ?_)
      rw [needFails_]
      exact if_congr Iff.rfl rfl rfl
    have groupsIs : groups.head? = s.checkGroups := by
      have count (g : GroupId) : (Finset.univ.filter (member g)).card = (s.members g).length := by
        have once : (s.members g).Nodup := (List.nodup_finRange 64).filter _
        rw [← List.toFinset_card_of_nodup once]
        congr 1
        ext n
        simp [members, Part.members, mem_allLoads]
      rw [s.checkGroups_eq]
      refine congrArg (fun l : List GroupId => (l.map fun g => (⟨.group, g.val, .groupShort⟩ : Failure)).head?)
        (filter_decide_congr (fun g => ?_) _)
      rw [count, Bool.and_eq_true, decide_eq_true_eq]
      rfl
    have cyclesIs : cycles.head? = s.checkCycles := by
      rw [s.checkCycles_eq]
      exact congrArg (fun l => (l.map (loadFailure .cycle)).head?)
        (filter_decide_congr (fun n => (cycles_ n).trans Part.onCycle_iff.symm) _)
    have depthsIs : depths.head? = s.checkDepth := by
      classical
      rw [s.checkDepth_eq]
      exact congrArg (fun l => (l.map (loadFailure .tooDeep)).head?)
        (filter_decide_congr (fun n => (paths 5 n).trans decide_eq_true_iff.symm) _)
    have callsIs : calls.head? = s.checkCalls := by
      rw [s.checkCalls_eq]
      refine congrArg (fun l : List CallId => (l.map fun c => (⟨.call, c.val, .callUnknown⟩ : Failure)).head?)
        (filter_decide_congr (fun c => ?_) _)
      rw [Bool.and_eq_true, Bool.not_eq_true', Bool.eq_false_iff]
      rfl
    have panelsIs : panels.head? = s.checkPanels := by
      rw [s.checkPanels_eq]
      refine congrArg (fun l : List PanelId => (l.map fun p => (⟨.panel, p.val, .panelEmpty⟩ : Failure)).head?)
        (filter_decide_congr (fun p => ?_) _)
      rw [Bool.and_eq_true, Part.zoneMembers_isEmpty]
      rfl
    rw [s.validate_eq]
    simp only [List.head?_append, Option.or_assoc, needsIs, groupsIs, cyclesIs, depthsIs, callsIs, panelsIs]
  · refine ⟨kind.place, reason.place, ?_, ?_, Failure.bytes_eq _ _ _⟩
    · cases kind <;> rfl
    · cases reason <;> rfl
  · refine Part.depth_none (h.imp Bool.eq_false_iff.2 ?_)
    rintro ⟨n, on⟩
    exact ⟨n, (cycles_ n).1 on⟩
  · obtain ⟨d, depth, longest, no_longer⟩ := Part.depth_of_acyclic h fun n on => acyclic n ((cycles_ n).2 on)
    exact ⟨d, depth, (paths d j).2 longest, fun longer => no_longer ((paths _ j).1 longer)⟩

end Sys2Proof.Machine
end

section
/-! The reads and their data (R12, R44, R75, R76, R102, R103, R108, R113, R148, R175, R176, R183, R192). -/

namespace Sys2Proof.Machine

/-! ## Fields and codes -/

theorem byte_cons (n : Nat) (l : List Byte) : byte n :: l = u8 n ++ l := rfl

theorem ActivityMode.u8_code (m : ActivityMode) : u8 m.code = flag (decide (m = .level)) := by cases m <;> rfl

theorem HoldKind.u8_code (k : HoldKind) : u8 k.code = flag (decide (k = .keepOff)) := by cases k <;> rfl

theorem Recovery.u8_code (r : Recovery) : u8 r.code = flag (decide (r = .manual)) := by cases r <;> rfl

theorem LinkState.u8_code (l : LinkState) : u8 l.code = flag (decide (l = .halt)) := by cases l <;> rfl

theorem CeilingSource.u8_code (c : CeilingSource) : u8 c.code = flag (decide (c = .override)) := by cases c <;> rfl

theorem Parity.u8_code (p : Parity) : u8 p.code = flag (decide (p = .even)) := by cases p <;> rfl

theorem ImageState.u8_code (i : ImageState) : u8 i.code = flag (decide (i = .bad)) := by cases i <;> rfl

theorem ResetKind.u8_code (r : ResetKind) : u8 r.code = flag (decide (r = .command)) := by cases r <;> rfl

/-- Whether a station's recovery is manual, as a byte, is whether it does not recover by itself (R139, R148). -/
theorem Part.u8_recoversAuto (s : Part) (k : StationId) :
    u8 (if s.recoversAuto k then 0 else 1) =
      flag (decide ((s.cfg.link.stations[k]).recovery = .manual ∧ (s.station k).forcedAuto = false)) := by
  unfold Part.recoversAuto
  cases (s.cfg.link.stations[k]).recovery <;> cases (s.station k).forcedAuto <;> rfl

/-! ## Lists of fields -/

theorem entriesBytes_take (i k : Nat) (l : List Entry) :
    entriesBytes i (l.take k) = (List.range k).flatMap fun j => (l[j]?.map (entryBytes (i + j))).getD [] := by
  induction k generalizing i l with
  | zero => rfl
  | succ k ih =>
    cases l with
    | nil => simp [entriesBytes]
    | cons e l => simp [entriesBytes, ih, List.range_succ_eq_map, List.flatMap_map, Nat.add_assoc, Nat.add_comm 1]

theorem readings_bytes (v : Vector Reading 4) :
    v.toList.flatMap Reading.bytes = (List.finRange 4).flatMap fun c => v[c].bytes := by
  have all : v.toList = (List.finRange 4).map fun c => v[c] := List.ext_getElem (by simp) fun i _ _ => by simp
  rw [all, List.flatMap_map]

theorem toNat_ofBoolListLE (l : List Bool) :
    (BitVec.ofBoolListLE l).toNat = l.foldr (fun b v => 2 * v + b.toNat) 0 := by
  induction l with
  | nil => rfl
  | cons b l ih => rw [List.foldr_cons, ← ih, BitVec.ofBoolListLE, BitVec.toNat_concat, Nat.mul_comm]

/-- The eight loads of byte i of a load set (Table 10-5). -/
theorem allLoads_eight (i : Fin 8) :
    (allLoads.drop (8 * i.val)).take 8 = (List.finRange 8).map fun j => ⟨8 * i.val + j.val, by omega⟩ := by
  revert i; decide

theorem Part.changedSet_eq (s : Part) :
    s.changedSet = (List.range 8).flatMap fun i =>
      u8 (((allLoads.drop (8 * i)).take 8).foldr (fun n v => 2 * v + (s.load n).changed.toNat) 0) := by
  rw [← List.map_coe_finRange_eq_range, List.flatMap_map, Part.changedSet]
  refine List.map_eq_flatMap.trans (congrArg (List.flatMap · _) (funext fun i => congrArg (fun b : Byte => [b]) ?_))
  refine BitVec.eq_of_toNat_eq ?_
  let bits := (List.finRange 8).map fun j : Fin 8 => (s.loads[8 * i.val + j.val]'(by omega)).changed
  have value : ((allLoads.drop (8 * i.val)).take 8).foldr (fun n v => 2 * v + (s.load n).changed.toNat) 0 =
      (BitVec.ofBoolListLE bits).toNat := by
    rw [toNat_ofBoolListLE, allLoads_eight, List.foldr_map, List.foldr_map]
    rfl
  rw [value]
  exact (Nat.mod_eq_of_lt (BitVec.isLt (BitVec.ofBoolListLE bits))).symm

/-! ## Data of the reads -/

theorem Part.saving_eq (s : Part) : s.saving = decide (s.cfs.phase ≠ .idle) := by
  unfold Part.saving
  cases s.cfs.phase <;> rfl

theorem Part.length_directDependents (s : Part) (n : LoadId) :
    (s.directDependents n).length = allLoads.countP fun k => s.inUse k && decide (.load n ∈ (s.config k).needs) := by
  rw [Part.directDependents, ← List.countP_eq_length_filter]
  simp

theorem Part.length_zoneMembers (s : Part) (z : ZoneId) :
    (s.zoneMembers z).length = allLoads.countP fun n => s.inUse n && decide ((s.config n).zone = z) :=
  List.countP_eq_length_filter.symm

theorem Part.planData_active (s : Part) :
    s.planData true = s.cfg.active.bytes ++ flag s.ncc.armed ++ [1] ++ flag s.scheduled := by
  simp [Part.planData, opt]

theorem Part.planData_staged (s : Part) : s.planData false = s.cfg.staged.bytes ++ flag s.ncc.armed ++ [0, 0] := rfl

theorem Part.queueData_eq (s : Part) (start : Byte) :
    s.queueData start.toNat = u8 s.dgv.queue.length ++ [start] ++ (List.range 12).flatMap fun i =>
      (s.dgv.queue[start.toNat + i]?.map (entryBytes (start.toNat + i))).getD [] := by
  simp only [Part.queueData, u8_of_toNat rfl, entriesBytes_take, List.getElem?_drop]

theorem Part.holdListData_eq (s : Part) (start : Byte) :
    s.holdListData start.toNat =
      u8 s.holds.length ++ [start] ++ ((s.holds.drop start.toNat).take 6).flatMap s.holdBytes := by
  rw [Part.holdListData, u8_of_toNat rfl]

theorem Part.groupConfigData_eq (s : Part) (g : GroupId) :
    s.groupConfigData g = (s.group g).bytes ++ u8 (s.members g).length ++ u8 (s.members g).length ++
      (s.members g).flatMap fun n => u8 n.val := by
  rw [Part.groupConfigData, byte_cons, List.map_eq_flatMap, List.append_assoc _ (u8 _) (List.flatMap _ _)]
  rfl

/-! ## Served reads -/

/-- A request whose rule keeps the part is answered, and changes the receiver alone. -/
theorem request_reads {c : Instr} {rule : Part → Part × Answer} {s : State} {a : Answer} (can : s.canServe c = true)
    (reads : rule s.toPart = (s.toPart, a)) : request c rule s = .next (s.answered c s.toPart a) := by
  rw [request_served can, reads]

/-- A read is answered with its data, in whatever way they are written. -/
theorem request_reads_ok {c : Instr} {rule : Part → Part × Answer} {s : State} {data written : List Byte}
    (can : s.canServe c = true) (reads : rule s.toPart = (s.toPart, { status := .ok, data := data }))
    (same : data = written) :
    request c rule s = .next (s.answered c s.toPart { status := .ok, data := written }) :=
  request_reads can (same ▸ reads)

theorem readRecord_ok {n : Nat} {number : Byte} {i : Fin n} (s : Part) (data : Fin n → List Byte)
    (named : number.toNat = i.val) : readRecord number s data = (s, { status := .ok, data := data i }) := by
  simp [readRecord, below_eq_some.2 named]

theorem readRecord_refused {n : Nat} {number : Byte} (s : Part) (data : Fin n → List Byte) (out : n ≤ number.toNat) :
    readRecord number s data = (s, .range 2) := by
  simp [readRecord, below, Nat.not_lt.2 out]

theorem onLoad_ok {number : Byte} {n : LoadId} (rule : LoadId → Part → Part × Answer) (s : Part)
    (named : number.toNat = n.val) : onLoad number rule s = rule n s := by
  simp [onLoad, below_eq_some.2 named]

theorem onLoad_refused {number : Byte} (rule : LoadId → Part → Part × Answer) (s : Part) (out : 63 < number.toNat) :
    onLoad number rule s = (s, .range 1) := by
  simp [onLoad, below, Nat.not_lt.2 out]

/-- Settles O13: first every record and every group of fields that stands in the data is shown to be written as the
statement writes it; then each read, in the statement's order, is answered by its rule. -/
theorem reads : Obligations.Reads := by
  refine ⟨⟨rfl, rfl, fun _ => ⟨rfl, rfl⟩, rfl, rfl, rfl, rfl, rfl, rfl, rfl, rfl, rfl⟩, ?_⟩
  intro s rows planRows stationRows portRows left origin count grades ceilings held queued detail clockBytes night
    changed status demand highest attention stationBytes loadBytes panelBytes callBytes meterBytes linkBytes groupBytes
    dependents ok range
  have portBytes (c : PortConfig) : c.bytes = portRows c := by simp only [PortConfig.bytes, Parity.u8_code, portRows]
  have planBytes (p : Plan) : p.bytes = planRows p := by
    have days : [p.workDays.setWidth 8] = u8 p.workDays.toNat := by simp [u8, byte, BitVec.ofNat_toNat]
    simp only [Plan.bytes, days, planRows]
  have stationConfigBytes (c : StationConfig) : c.bytes = stationRows c := by
    simp only [StationConfig.bytes, Recovery.u8_code, stationRows]
  have loadConfigBytes (c : LoadConfig) : c.bytes = rows c := by
    have needs : c.needs.flatMap Need.bytes = c.needs.flatMap fun need => match need with
        | .load j => u8 0 ++ u8 j.val
        | .group g => u8 1 ++ u8 g.val :=
      congrArg (List.flatMap · c.needs) (funext fun need => by cases need <;> rfl)
    delta LoadConfig.bytes
    simp only [ActivityMode.u8_code, byte_cons, needs, rows, List.append_assoc]
    rfl
  have originBytes (o : Option Origin) : [originByte o, pullerByte o] = origin o := by
    cases o with
    | none => rfl
    | some o => cases o <;> rfl
  have holdBytes (h : Hold) : s.holdBytes h = held h := by
    have target : h.target.bytes = match h.target with
        | .load n => u8 0 ++ u8 n.val
        | .zone z => u8 1 ++ u8 z.val
        | .group g => u8 2 ++ u8 g.val := by cases h.target <;> rfl
    have owner : h.owner.bytes = match h.owner with
        | .supervisor => u8 0 ++ u8 0
        | .panel p => u8 1 ++ u8 p.val
        | .call l => u8 2 ++ u8 l.val := by cases h.owner <;> rfl
    simp only [Part.holdBytes, HoldKind.u8_code, target, owner, held]
    rfl
  have ceilingBytes : s.ceilingData = ceilings := by simp only [Part.ceilingData, CeilingSource.u8_code, ceilings]
  have queuedBytes (i : Nat) : (s.dgv.queue[i]?.map (entryBytes i)).getD [] = queued i := by
    simp only [queued]
    cases s.dgv.queue[i]? with
    | none => rfl
    | some e => simp only [Option.map_some, Option.getD_some, entryBytes, originBytes]
  have detailBytes (d : Option Detail) : (match d with | some d => d.bytes | none => [0, 0, 0, 0]) = detail d := by
    cases d with
    | none => rfl
    | some d => cases d <;> rfl
  have nightBytes : s.nightStatus = night := by
    delta Part.nightStatus
    cases now : s.ncc.mode <;>
      simp only [Part.mode, now, List.append_assoc, Option.map_map, night, clockBytes, left] <;> rfl
  have statusBytes : s.statusData = status := by
    delta Part.statusData Part.loadStatus
    simp only [nightBytes, Part.changedSet_eq, LinkState.u8_code, ImageState.u8_code,
      ResetKind.u8_code, Part.saving_eq, Part.countPhase, Part.countGrade, Part.signalled, List.append_assoc, status,
      changed, count, grades]
  have attentionBytes : s.attentionData = attention := by
    have first : highest = s.highest := rfl
    simp only [Part.attentionData, attention, first]
    cases s.highest with
    | none => rfl
    | some i =>
      exact congrArg ([s.signalled, s.atl.pending, s.cfg.enable] ++ u8 i.val ++ ·) (detailBytes s.atl.details[i])
  have stationDataEq (k : StationId) : s.stationData k = stationBytes k := by
    simp only [Part.stationData, stationConfigBytes, Part.u8_recoversAuto, readings_bytes, LinkState.u8_code,
      stationBytes]
    rfl
  have loadDataEq (n : LoadId) : s.loadData n = loadBytes n := by
    simp only [Part.loadData, loadBytes, ← originBytes, List.append_assoc]
    cases s.entry? n <;> rfl
  refine ⟨fun can => ?_, fun can => ?_, fun can => ?_, fun can => ?_, fun can => ?_, fun slot can => ⟨?_, ?_, ?_⟩,
    fun id can => ⟨?_, ?_⟩, fun start can => ⟨?_, ?_⟩, fun start can => ⟨?_, ?_⟩, fun number can => ⟨?_, ?_⟩,
    fun number can => ⟨?_, ?_⟩, fun kind number can => ⟨?_, ?_, ?_, ?_, ?_, ?_, ?_, ?_, ?_, ?_⟩⟩
  -- IDENTIFY, READ STATUS, READ CLOCK, READ DEMAND, READ ATTENTION
  · refine ⟨buildNumber, Nat.succ_pos _, ?_, ?_⟩
    · unfold buildNumber
      omega
    · refine request_reads_ok can rfl ?_
      rw [← portBytes]
      rfl
  · exact request_reads_ok can rfl statusBytes
  · exact request_reads can rfl
  · refine request_reads_ok can rfl ?_
    simp only [Part.demandData, ceilingBytes]
    rfl
  · exact request_reads_ok can rfl attentionBytes
  -- READ PLAN
  · rintro rfl
    exact request_reads_ok can rfl (by rw [Part.planData_active, planBytes])
  · rintro rfl
    exact request_reads_ok can rfl (by rw [Part.planData_staged, planBytes])
  · intro out
    refine request_reads can ?_
    split
    iterate 2 (next => omega)
    rfl
  -- READ HOLD, LIST HOLDS, READ QUEUE
  · intro h found
    refine request_reads can ?_
    rw [found, ← holdBytes]
  · intro none
    refine request_reads can ?_
    rw [none]
  · intro within
    exact request_reads_ok can (if_neg (Nat.not_lt.2 within)) (by rw [Part.holdListData_eq, funext holdBytes])
  · intro out
    exact request_reads can (if_pos out)
  · intro within
    exact request_reads_ok can (if_neg (Nat.not_lt.2 within)) (by simp only [Part.queueData_eq, queuedBytes])
  · intro out
    exact request_reads can (if_pos out)
  -- READ STATION, READ LOAD
  · intro k named
    exact request_reads_ok can (by rw [below_eq_some.2 named]) (stationDataEq k)
  · intro out
    refine request_reads can ?_
    simp [below, Nat.not_lt.2 out, Answer.range]
  · intro n named
    refine (request_served can).trans ?_
    rw [onLoad_ok _ _ named, loadDataEq]
  · intro out
    exact request_reads can (onLoad_refused _ _ out)
  -- READ CONFIG: each kind, then a kind and a number out of range
  · rintro n rfl named
    refine request_reads_ok can (readRecord_ok _ _ named) ?_
    rw [Part.loadConfigData, loadConfigBytes, Part.length_directDependents]
  · rintro g rfl named
    exact request_reads_ok can (readRecord_ok _ _ named) (s.groupConfigData_eq g)
  · rintro z rfl named
    refine request_reads_ok can (readRecord_ok _ _ named) ?_
    rw [Part.zoneConfigData, Part.length_zoneMembers]
  · rintro p rfl named
    exact request_reads can (readRecord_ok _ _ named)
  · rintro l rfl named
    refine request_reads_ok can (readRecord_ok _ _ named) ?_
    simp only [Part.callConfigData, Part.callEffective, Bool.decide_or, Bool.or_assoc, callBytes]
    rfl
  · rintro rfl rfl
    exact request_reads can rfl
  · rintro rfl rfl
    refine request_reads_ok can rfl ?_
    simp only [Part.linkConfigData, LinkConfig.bytes, stationConfigBytes, LinkState.u8_code, linkBytes]
  · rintro rfl rfl
    exact request_reads_ok can rfl (portBytes _)
  · intro out
    refine request_reads can ?_
    split
    iterate 8 (next => omega)
    rfl
  · rintro (⟨rfl, out⟩ | ⟨rfl | rfl | rfl, out⟩ | ⟨rfl, out⟩ | ⟨rfl | rfl | rfl, out⟩)
    all_goals exact request_reads can (readRecord_refused _ _ out)

end Sys2Proof.Machine
end

section
/-! The Start Queue's list: where an entry is put, and what its loads and keys then are (R78, R79). -/

namespace Sys2Proof.Machine

/-! ## Places in the queue (R79) -/

theorem atBackOfKey_perm (q : List Entry) (e : Entry) : (atBackOfKey q e).Perm (e :: q) := by
  unfold atBackOfKey
  refine List.perm_middle.trans (List.Perm.cons e ?_)
  rw [List.takeWhile_append_dropWhile]

theorem beforePuller_perm (q : List Entry) (e : Entry) (p : LoadId) : (beforePuller q e p).Perm (e :: q) := by
  unfold beforePuller
  refine List.perm_middle.trans (List.Perm.cons e ?_)
  rw [List.takeWhile_append_dropWhile]

/-- A new entry at the back of its key keeps the keys in order (R79). -/
theorem atBackOfKey_keys {q : List Entry} (e : Entry) (keys : q.Pairwise fun a b => a.key ≤ b.key) :
    (atBackOfKey q e).Pairwise fun a b => a.key ≤ b.key := by
  induction q with
  | nil => simp [atBackOfKey]
  | cons x q ih =>
    obtain ⟨first, keys⟩ := List.pairwise_cons.1 keys
    by_cases low : x.key ≤ e.key
    · have place : atBackOfKey (x :: q) e = x :: atBackOfKey q e := by simp [atBackOfKey, low]
      rw [place, List.pairwise_cons]
      refine ⟨fun y listed => ?_, ih keys⟩
      obtain rfl | listed := List.mem_cons.1 ((atBackOfKey_perm q e).mem_iff.1 listed)
      · exact low
      · exact first y listed
    · have place : atBackOfKey (x :: q) e = e :: x :: q := by simp [atBackOfKey, low]
      rw [place, List.pairwise_cons, List.pairwise_cons]
      refine ⟨fun y listed => ?_, first, keys⟩
      obtain rfl | listed := List.mem_cons.1 listed
      · omega
      · have := first y listed; omega

/-- A new entry with its puller's key, right before its puller, keeps the keys in order (R79). -/
theorem beforePuller_keys {q : List Entry} {e d : Entry} {p : LoadId} (keys : q.Pairwise fun a b => a.key ≤ b.key)
    (found : q.find? (fun x => x.load = p) = some d) (key : e.key = d.key) :
    (beforePuller q e p).Pairwise fun a b => a.key ≤ b.key := by
  induction q with
  | nil => cases found
  | cons x q ih =>
    obtain ⟨first, keys⟩ := List.pairwise_cons.1 keys
    by_cases puller : x.load = p
    · have place : beforePuller (x :: q) e p = e :: x :: q := by simp [beforePuller, puller]
      have : x = d := by simpa [puller] using found
      subst this
      rw [place, List.pairwise_cons, List.pairwise_cons]
      refine ⟨fun y listed => ?_, first, keys⟩
      obtain rfl | listed := List.mem_cons.1 listed
      · omega
      · have := first y listed; omega
    · have place : beforePuller (x :: q) e p = x :: beforePuller q e p := by simp [beforePuller, puller]
      have found : q.find? (fun x => x.load = p) = some d := by simpa [puller] using found
      rw [place, List.pairwise_cons]
      refine ⟨fun y listed => ?_, ih keys found⟩
      obtain rfl | listed := List.mem_cons.1 ((beforePuller_perm q e p).mem_iff.1 listed)
      · have := first d (List.mem_of_find?_eq_some found); omega
      · exact first y listed

/-! ## The loads of the queue (R78) -/

theorem Part.mem_queuedLoads {s : Part} {n : LoadId} : n ∈ s.queuedLoads ↔ ∃ e ∈ s.dgv.queue, e.load = n :=
  List.mem_map

theorem Part.entry?_some {s : Part} {n : LoadId} {e : Entry} (h : s.entry? n = some e) :
    e ∈ s.dgv.queue ∧ e.load = n :=
  ⟨List.mem_of_find?_eq_some h, by simpa using List.find?_some h⟩

theorem Part.entry?_isSome {s : Part} {n : LoadId} : (s.entry? n).isSome = true ↔ n ∈ s.queuedLoads := by
  simp [Part.entry?, Part.mem_queuedLoads]

theorem Part.entry?_none {s : Part} {n : LoadId} : s.entry? n = none ↔ n ∉ s.queuedLoads := by
  rw [← Part.entry?_isSome, Option.not_isSome_iff_eq_none]

theorem Part.placeEntry_perm (s : Part) (n : LoadId) (o : Origin) :
    ∃ e : Entry, e.load = n ∧ e.origin = o ∧ (s.placeEntry n o).Perm (e :: s.dgv.queue) := by
  unfold Part.placeEntry
  dsimp only
  split
  · split
    · exact ⟨_, rfl, rfl, beforePuller_perm _ _ _⟩
    · exact ⟨_, rfl, rfl, atBackOfKey_perm _ _⟩
  · exact ⟨_, rfl, rfl, atBackOfKey_perm _ _⟩

theorem Part.placeEntry_keys {s : Part} (n : LoadId) (o : Origin)
    (keys : s.dgv.queue.Pairwise fun a b => a.key ≤ b.key) :
    (s.placeEntry n o).Pairwise fun a b => a.key ≤ b.key := by
  unfold Part.placeEntry
  dsimp only
  split
  · split
    · next found => exact beforePuller_keys keys found rfl
    · exact atBackOfKey_keys _ keys
  · exact atBackOfKey_keys _ keys

@[simp] theorem Part.setQueue_queuedLoads (s : Part) (q : List Entry) :
    (s.setQueue q).queuedLoads = q.map Entry.load := rfl

@[simp] theorem Part.setOrigin_queuedLoads (s : Part) (n : LoadId) (o : Origin) :
    (s.setOrigin n o).queuedLoads = s.queuedLoads :=
  List.map_map.trans (List.map_congr_left fun e _ => by dsimp only [Function.comp]; split <;> rfl)

@[simp] theorem Part.setWait_queuedLoads (s : Part) (n : LoadId) (w : Wait) :
    (s.setWait n w).queuedLoads = s.queuedLoads :=
  List.map_map.trans (List.map_congr_left fun e _ => by dsimp only [Function.comp]; split <;> rfl)

@[simp] theorem Part.removeEntry_load (s : Part) (n k : LoadId) : (s.removeEntry n).load k = s.load k := rfl

theorem Part.removeEntry_queuedLoads (s : Part) (n : LoadId) :
    (s.removeEntry n).queuedLoads = s.queuedLoads.filter fun k => k != n := by
  simp only [Part.removeEntry, Part.queuedLoads, List.filter_map]
  rfl

theorem Part.mem_removeEntry {s : Part} {n k : LoadId} :
    k ∈ (s.removeEntry n).queuedLoads ↔ k ∈ s.queuedLoads ∧ k ≠ n := by
  simp [Part.removeEntry_queuedLoads]

theorem Part.newEntry_queuedLoads (s : Part) (n : LoadId) (o : Origin) :
    (s.newEntry n o).queuedLoads.Perm (n :: s.queuedLoads) := by
  obtain ⟨e, rfl, -, placed⟩ := s.placeEntry_perm n o
  exact placed.map Entry.load

/-- Keys stay in order under a change of the entries that keeps each key. -/
theorem keys_map {q : List Entry} {f : Entry → Entry} (same : ∀ e, (f e).key = e.key)
    (keys : q.Pairwise fun a b => a.key ≤ b.key) : (q.map f).Pairwise fun a b => a.key ≤ b.key :=
  List.pairwise_map.2 (keys.imp fun {a b} h => by rw [same a, same b]; exact h)

end Sys2Proof.Machine
end

section
/-! What is sound about a load record besides its station (R20, R27, R34, R35, R78, R101, R116), and that an update of
one load keeps it. -/

namespace Sys2Proof.Machine

/-- A load record is sound in a slot in use or not, in the queue or not, with this starting origin, in this mode: all
that `Part.LoadOk` asks for but the load's station. -/
structure LoadRecord.SoundIn (r : LoadRecord) (inUse : Bool) (queued : Prop) (origin : Option Origin) (mode : Mode) :
    Prop where
  unused : r.phase = .unused ↔ inUse = false
  queue : r.phase = .queued ↔ queued
  pending : r.stopPending = true → r.phase.running = true
  held : r.heldEnqueue.isSome = true → r.phase.isStopping = true ∨ r.phase = .fault .noStop
  starting : origin.isSome = true ↔ r.phase = .starting
  started : r.phase = .starting → r.startedAt.isSome = true
  running : r.phase.running = true → r.phase = runningPhase mode
  setup : mode = .setup → (r.phase = .unused ∨ r.phase = .localRun ∨ r.phase = .unreachable) ∧
    r.stopPending = false ∧ r.heldEnqueue = none

/-- The Load Table and the Start Queue are sound, the stations aside: every record is, no load has two entries, and
the keys never fall (R78, R79). -/
structure Part.Sound (s : Part) : Prop where
  loads : ∀ n : LoadId, (s.load n).SoundIn (s.inUse n) (n ∈ s.queuedLoads) s.dgv.startingOrigin[n] s.mode
  once : s.queuedLoads.Nodup
  keys : s.dgv.queue.Pairwise fun a b => a.key ≤ b.key

theorem Part.loadsOk_iff (s : Part) :
    s.LoadsOk ↔ s.Sound ∧ ∀ n : LoadId, s.inUse n = true →
      ((s.load n).phase = .unreachable ↔ (s.station (stationOf n)).grade = .offline) := by
  constructor
  · rintro ⟨loads, once, keys⟩
    refine ⟨⟨fun n => ?_, once, keys⟩, fun n => ?_⟩
    · obtain ⟨unused, queue, -, pending, held, starting, started, running, setup⟩ := loads n
      exact ⟨unused, queue, pending, held, starting, started, running, setup⟩
    · obtain ⟨-, -, station, -⟩ := loads n
      exact station
  · rintro ⟨sound, station⟩
    refine ⟨fun n => ?_, sound.once, sound.keys⟩
    have h := sound.loads n
    exact ⟨h.unused, h.queue, station n, h.pending, h.held, h.starting, h.started, h.running, h.setup⟩

theorem Part.LoadsOk.sound {s : Part} (h : s.LoadsOk) : s.Sound := (s.loadsOk_iff.1 h).1

section
variable {s t : Part}

theorem Part.Sound.queued (h : s.Sound) (n : LoadId) : (s.load n).phase = .queued ↔ n ∈ s.queuedLoads :=
  (h.loads n).queue

theorem Part.Sound.mode_of_queued (h : s.Sound) {n : LoadId} (queued : n ∈ s.queuedLoads) : s.mode ≠ .setup := by
  intro setup
  obtain ⟨phase, -⟩ := (h.loads n).setup setup
  rw [(h.queued n).2 queued] at phase
  simp at phase

/-- What soundness reads of a part is the load records, the queue, the starting origins, the slots in use and the
mode. -/
theorem Part.Sound.congr (h : s.Sound) (load : ∀ n, t.load n = s.load n) (inUse : ∀ n, t.inUse n = s.inUse n)
    (queue : t.queuedLoads = s.queuedLoads)
    (keys : t.dgv.queue.Pairwise fun a b => a.key ≤ b.key)
    (starting : t.dgv.startingOrigin = s.dgv.startingOrigin) (mode : t.mode = s.mode) : t.Sound := by
  refine ⟨fun n => ?_, queue ▸ h.once, keys⟩
  rw [load, inUse, queue, starting, mode]
  exact h.loads n

/-- An update of one load's record, place in the queue and starting origin keeps the plant sound where it leaves that
load sound. -/
theorem Part.Sound.update (h : s.Sound) (n : LoadId)
    (others : ∀ k, k ≠ n → t.load k = s.load k ∧ (k ∈ t.queuedLoads ↔ k ∈ s.queuedLoads) ∧
      t.dgv.startingOrigin[k] = s.dgv.startingOrigin[k])
    (self : (t.load n).SoundIn (s.inUse n) (n ∈ t.queuedLoads) t.dgv.startingOrigin[n] s.mode)
    (inUse : ∀ k, t.inUse k = s.inUse k) (mode : t.mode = s.mode) (once : t.queuedLoads.Nodup)
    (keys : t.dgv.queue.Pairwise fun a b => a.key ≤ b.key) : t.Sound := by
  refine ⟨fun k => ?_, once, keys⟩
  rw [inUse, mode]
  by_cases same : k = n
  · subst same; exact self
  · obtain ⟨load, queue, starting⟩ := others k same
    rw [load, starting]
    have sound := h.loads k
    exact { sound with queue := sound.queue.trans queue.symm }

end

end Sys2Proof.Machine
end

section
/-! What requests, pull-up, withdrawals and need reviews may do to a plant: they make QUEUED what was OFF and OFF what
was QUEUED, keep a request in STOPPING, and leave the rest of every record (R35, R78 to R87). -/

namespace Sys2Proof.Machine

/-- From s to t requests, withdrawals and need reviews alone have been taken. -/
structure Part.Asks (s t : Part) : Prop where
  work : s.LoadWork t
  sound : s.Sound → t.Sound
  phase : ∀ k, (t.load k).phase = (s.load k).phase ∨ (t.load k).phase = .off ∨ (t.load k).phase = .queued
  record : ∀ k, t.load k = { s.load k with
    phase := (t.load k).phase, changed := (t.load k).changed, heldEnqueue := (t.load k).heldEnqueue }
  changed : ∀ k, (s.load k).changed = true → (t.load k).changed = true
  held : ∀ k, (s.load k).phase.isStopping = false → (t.load k).heldEnqueue = (s.load k).heldEnqueue
  kept : ∀ k, (s.load k).phase ≠ .off → k ∉ s.queuedLoads →
    (t.load k).phase = (s.load k).phase ∧ (t.load k).changed = (s.load k).changed ∧ k ∉ t.queuedLoads
  governor : t.dgv = { s.dgv with
    queue := t.dgv.queue, nextSeq := t.dgv.nextSeq, scanDue := t.dgv.scanDue }
  scan : s.dgv.scanDue = true → t.dgv.scanDue = true
  checks : s.checksDue <+: t.checksDue
  causes : ∀ i : Fin 8, i ≠ 3 →
    t.atl.pending.getLsbD i = s.atl.pending.getLsbD i ∧ t.atl.details[i] = s.atl.details[i]
  failed : s.atl.pending.getLsbD 3 = true → t.atl.pending.getLsbD 3 = true
  choices : t.freeCount = s.freeCount

theorem Part.Asks.refl (s : Part) : s.Asks s where
  work := .refl s
  sound h := h
  phase _ := .inl rfl
  record _ := rfl
  changed _ h := h
  held _ _ := rfl
  kept _ _ out := ⟨rfl, rfl, out⟩
  governor := rfl
  scan h := h
  checks := List.prefix_rfl
  causes _ _ := ⟨rfl, rfl⟩
  failed h := h
  choices := rfl

theorem Part.Asks.isStopping {s t : Part} (h : s.Asks t) {k : LoadId} (going : (s.load k).phase.isStopping = false) :
    (t.load k).phase.isStopping = false := by
  obtain same | off | queued := h.phase k
  · rw [same]; exact going
  · rw [off]; rfl
  · rw [queued]; rfl

theorem Part.Asks.trans {s t u : Part} (h : s.Asks t) (g : t.Asks u) : s.Asks u where
  work := h.work.trans g.work
  sound ok := g.sound (h.sound ok)
  phase k := by
    obtain same | away := g.phase k
    · rw [same]; exact h.phase k
    · exact .inr away
  record k := by
    have first := h.record k
    have second := g.record k
    rw [first] at second
    exact second
  changed k moved := g.changed k (h.changed k moved)
  held k going := (g.held k (h.isStopping going)).trans (h.held k going)
  kept k up out := by
    obtain ⟨phase, changed, out⟩ := h.kept k up out
    obtain ⟨phase', changed', out'⟩ := g.kept k (phase ▸ up) out
    exact ⟨phase'.trans phase, changed'.trans changed, out'⟩
  governor := by
    have first := h.governor
    have second := g.governor
    rw [first] at second
    exact second
  scan due := g.scan (h.scan due)
  checks := h.checks.trans g.checks
  causes i other := by
    obtain ⟨pending, details⟩ := h.causes i other
    obtain ⟨pending', details'⟩ := g.causes i other
    exact ⟨pending'.trans pending, details'.trans details⟩
  failed raised := g.failed (h.failed raised)
  choices := g.choices.trans h.choices

theorem Part.Asks.ite {s t u : Part} (c : Prop) [Decidable c] (h : s.Asks t) (g : s.Asks u) :
    s.Asks (if c then t else u) := by split <;> assumption

theorem Part.Asks.foldl {α : Type} (f : Part → α → Part) (h : ∀ (s : Part) (a : α), s.Asks (f s a)) (l : List α)
    (s : Part) : s.Asks (l.foldl f s) := by
  induction l generalizing s with
  | nil => exact .refl s
  | cons a l ih => exact (h s a).trans (ih _)

theorem Part.Asks.foldl_fst {α β : Type} (f : Part × β → α → Part × β)
    (h : ∀ (acc : Part × β) (a : α), acc.1.Asks (f acc a).1) (l : List α) (acc : Part × β) :
    acc.1.Asks (l.foldl f acc).1 := by
  induction l generalizing acc with
  | nil => exact .refl _
  | cons a l ih => exact (h acc a).trans (ih _)

/-- A load that is OFF or QUEUED stays so. -/
theorem Part.Asks.rests {s t : Part} (h : s.Asks t) {k : LoadId}
    (rests : (s.load k).phase = .off ∨ (s.load k).phase = .queued) :
    (t.load k).phase = .off ∨ (t.load k).phase = .queued := by
  obtain same | away := h.phase k
  · rw [same]; exact rests
  · exact away

/-! ## Updates -/

theorem Part.asks_setOrigin (s : Part) (n : LoadId) (o : Origin) : s.Asks (s.setOrigin n o) where
  work := s.loadWork_setOrigin n o
  sound ok := by
    refine ok.congr (fun _ => rfl) (fun _ => rfl) (s.setOrigin_queuedLoads n o) (keys_map (fun e => ?_) ok.keys) rfl rfl
    split <;> rfl
  phase _ := .inl rfl
  record _ := rfl
  changed _ h := h
  held _ _ := rfl
  kept _ _ out := ⟨rfl, rfl, by rw [Part.setOrigin_queuedLoads]; exact out⟩
  governor := rfl
  scan h := h
  checks := List.prefix_rfl
  causes _ _ := ⟨rfl, rfl⟩
  failed h := h
  choices := rfl

theorem Part.asks_startScan (s : Part) : s.Asks s.startScan where
  work := s.loadWork_startScan
  sound ok := ok.congr (fun _ => rfl) (fun _ => rfl) rfl ok.keys rfl rfl
  phase _ := .inl rfl
  record _ := rfl
  changed _ h := h
  held _ _ := rfl
  kept _ _ out := ⟨rfl, rfl, out⟩
  governor := rfl
  scan _ := rfl
  checks := List.prefix_rfl
  causes _ _ := ⟨rfl, rfl⟩
  failed h := h
  choices := rfl

theorem Part.raise_pending (s : Part) (d : Detail) : (s.raise d).atl.pending.getLsbD d.cause.index = true := by
  have bit : d.cause.bit.getLsbD d.cause.index = true := by
    cases d.cause <;> decide
  rw [Part.raise_atl, BitVec.getLsbD_or, bit, Bool.or_true]

theorem Part.raise_details (s : Part) (d : Detail) : (s.raise d).atl.details[d.cause.index] = some d :=
  Vector.getElem_set_self _

theorem Part.asks_raise (s : Part) (n : LoadId) (c : WithdrawCause) : s.Asks (s.raise (.startFailed n c)) where
  work := s.loadWork_raise _
  sound ok := ok.congr (fun _ => rfl) (fun _ => rfl) rfl ok.keys rfl rfl
  phase _ := .inl rfl
  record _ := rfl
  changed _ h := h
  held _ _ := rfl
  kept _ _ out := ⟨rfl, rfl, out⟩
  governor := rfl
  scan h := h
  checks := List.prefix_rfl
  causes _ other := s.raise_others (.startFailed n c) other
  failed _ := s.raise_pending (.startFailed n c)
  choices := rfl

/-- A change of a load's state from OFF, or of a QUEUED one's, to OFF or QUEUED. -/
theorem Part.setPhase_checks (s : Part) (n : LoadId) (p : LoadPhase) : s.checksDue <+: (s.setPhase n p).checksDue :=
  List.prefix_append _ _

/-- An OFF load outside SETUP gets its entry (R36, R79). -/
theorem Part.asks_newEntry {s : Part} {n : LoadId} (off : (s.load n).phase = .off) (live : s.mode ≠ .setup)
    (o : Origin) : s.Asks (s.newEntry n o) where
  work := s.loadWork_newEntry n o
  sound ok := by
    have sound := ok.loads n
    have out : n ∉ s.queuedLoads := fun listed => by
      rw [(ok.queued n).2 listed] at off; cases off
    have loads := s.newEntry_queuedLoads n o
    refine ok.update n (fun k other => ⟨?_, ?_, rfl⟩) ?_ (fun _ => rfl) rfl ?_ ?_
    · exact (Part.setPhase_load _ n k _).trans (if_neg other)
    · rw [loads.mem_iff, List.mem_cons]; simp [other]
    · have record : (s.newEntry n o).load n = { s.load n with phase := .queued, changed := true } :=
        (Part.setPhase_load _ n n _).trans (if_pos rfl)
      have listed : n ∈ (s.newEntry n o).queuedLoads := loads.mem_iff.2 List.mem_cons_self
      have used : s.inUse n ≠ false := fun unused => by rw [sound.unused.2 unused] at off; cases off
      have origin : (s.newEntry n o).dgv.startingOrigin[n] = s.dgv.startingOrigin[n] := rfl
      rw [record, origin]
      refine ⟨by simpa using used, by simpa using listed, ?_, ?_, ?_, nofun, nofun, fun setup => absurd setup live⟩
      · intro pending; have := sound.pending pending; rw [off] at this; cases this
      · intro held; have := sound.held held; rw [off] at this; simp [LoadPhase.isStopping] at this
      · rw [sound.starting, off]; simp
    · exact loads.nodup_iff.2 (List.nodup_cons.2 ⟨out, ok.once⟩)
    · exact Part.placeEntry_keys n o ok.keys
  phase k := by
    have load : (s.newEntry n o).load k = _ := Part.setPhase_load _ n k _
    rw [load]; split
    · exact .inr (.inr rfl)
    · exact .inl rfl
  record k := by
    have load : (s.newEntry n o).load k = _ := Part.setPhase_load _ n k _
    rw [load]; split
    · next same => subst same; rfl
    · rfl
  changed k h := by
    have load : (s.newEntry n o).load k = _ := Part.setPhase_load _ n k _
    rw [load]; split
    · rfl
    · exact h
  held k _ := by
    have load : (s.newEntry n o).load k = _ := Part.setPhase_load _ n k _
    rw [load]; split
    · next same => subst same; rfl
    · rfl
  kept k up out := by
    have other : k ≠ n := fun same => up (same ▸ off)
    have load : (s.newEntry n o).load k = s.load k := (Part.setPhase_load _ n k _).trans (if_neg other)
    rw [load]
    refine ⟨rfl, rfl, fun listed => ?_⟩
    rw [(s.newEntry_queuedLoads n o).mem_iff, List.mem_cons] at listed
    exact listed.elim other out
  governor := rfl
  scan h := h
  checks := Part.setPhase_checks _ n _
  causes _ _ := ⟨rfl, rfl⟩
  failed h := h
  choices := rfl

/-- A load's entry goes, and the load goes to OFF (R85). -/
def Part.dropEntry (s : Part) (n : LoadId) : Part := (s.removeEntry n).setPhase n .off

theorem Part.dropEntry_load (s : Part) (n k : LoadId) :
    (s.dropEntry n).load k = if k = n then { s.load n with phase := .off, changed := true } else s.load k :=
  Part.setPhase_load _ n k _

theorem Part.mem_dropEntry {s : Part} {n k : LoadId} : k ∈ (s.dropEntry n).queuedLoads ↔ k ∈ s.queuedLoads ∧ k ≠ n :=
  Part.mem_removeEntry

/-- A QUEUED load is withdrawn to OFF; one that is OFF already stays so. -/
theorem Part.asks_dropEntry {s : Part} {n : LoadId} (there : n ∈ s.queuedLoads ∨ (s.load n).phase = .off) :
    s.Asks (s.dropEntry n) where
  work := (s.loadWork_removeEntry n).trans (Part.loadWork_setPhase _ n _)
  sound ok := by
    have sound := ok.loads n
    have phase : (s.load n).phase = .queued ∨ (s.load n).phase = .off := there.imp_left (ok.queued n).2
    refine ok.update n (fun k other => ⟨?_, ?_, rfl⟩) ?_ (fun _ => rfl) rfl ?_ ?_
    · rw [Part.dropEntry_load, if_neg other]
    · rw [Part.mem_dropEntry]; simp [other]
    · have origin : (s.dropEntry n).dgv.startingOrigin[n] = s.dgv.startingOrigin[n] := rfl
      have out : n ∉ (s.dropEntry n).queuedLoads := by simp [Part.mem_dropEntry]
      have used : s.inUse n ≠ false := fun unused => by
        rw [sound.unused.2 unused] at phase; simp at phase
      rw [Part.dropEntry_load, if_pos rfl, origin]
      refine ⟨by simpa using used, by simpa using out, ?_, ?_, ?_, nofun, nofun, fun setup => ?_⟩
      · intro pending; have := sound.pending pending
        obtain phase | phase := phase <;> rw [phase] at this <;> cases this
      · intro held; have := sound.held held
        obtain phase | phase := phase <;> rw [phase] at this <;> simp [LoadPhase.isStopping] at this
      · rw [sound.starting]; obtain phase | phase := phase <;> simp [phase]
      · have := (sound.setup setup).1
        obtain phase | phase := phase <;> simp [phase] at this
    · rw [Part.dropEntry]
      show ((s.removeEntry n).queuedLoads).Nodup
      rw [Part.removeEntry_queuedLoads]
      exact ok.once.filter _
    · exact ok.keys.filter _
  phase k := by
    rw [Part.dropEntry_load]; split
    · exact .inr (.inl rfl)
    · exact .inl rfl
  record k := by
    rw [Part.dropEntry_load]; split
    · next same => subst same; rfl
    · rfl
  changed k h := by
    rw [Part.dropEntry_load]; split
    · rfl
    · exact h
  held k _ := by
    rw [Part.dropEntry_load]; split
    · next same => subst same; rfl
    · rfl
  kept k up out := by
    have other : k ≠ n := fun same => by subst same; exact there.elim out up
    rw [Part.dropEntry_load, if_neg other, Part.mem_dropEntry]
    exact ⟨rfl, rfl, fun listed => out listed.1⟩
  governor := rfl
  scan h := h
  checks := Part.setPhase_checks _ n _
  causes _ _ := ⟨rfl, rfl⟩
  failed h := h
  choices := rfl

/-- A load in STOPPING keeps a request (R35). -/
theorem Part.asks_holdRequest {s : Part} {n : LoadId} (stopping : (s.load n).phase.isStopping = true) (o : Origin) :
    s.Asks (s.setLoad n { s.load n with heldEnqueue := some o }) where
  work := s.loadWork_setLoad n _
  sound ok := by
    have sound := ok.loads n
    refine ok.update n (fun k other => ⟨Part.setLoad_load_ne s _ other, Iff.rfl, rfl⟩) ?_ (fun _ => rfl) rfl ok.once
      ok.keys
    rw [Part.setLoad_load_self]
    refine { sound with held := fun _ => .inl stopping, setup := fun setup => ?_ }
    have := (sound.setup setup).1
    obtain phase | phase | phase := this <;> rw [phase] at stopping <;> cases stopping
  phase k := by
    rw [Part.setLoad_load]; split
    · next same => subst same; exact .inl rfl
    · exact .inl rfl
  record k := by
    rw [Part.setLoad_load]; split
    · next same => subst same; rfl
    · rfl
  changed k h := by
    rw [Part.setLoad_load]; split
    · next same => subst same; exact h
    · exact h
  held k going := by
    rw [Part.setLoad_load]; split
    · next same => subst same; rw [stopping] at going; cases going
    · rfl
  kept k _ out := by
    rw [Part.setLoad_load]; split
    · next same => subst same; exact ⟨rfl, rfl, out⟩
    · exact ⟨rfl, rfl, out⟩
  governor := rfl
  scan h := h
  checks := List.prefix_rfl
  causes _ _ := ⟨rfl, rfl⟩
  failed h := h
  choices := rfl

/-! ## Withdrawal (R85 to R87) -/

theorem Part.mem_orphansOf {s : Part} {gone : List LoadId} {o : LoadId} (h : o ∈ s.orphansOf gone) :
    o ∈ s.queuedLoads := by
  obtain ⟨e, listed, rfl⟩ := List.mem_map.1 h
  exact List.mem_map.2 ⟨e, (List.mem_filter.1 listed).1, rfl⟩

/-- One orphan settled (R87). -/
def settleOrphan (acc : Part × List LoadId) (o : LoadId) : Part × List LoadId :=
  match acc.1.firstWanting o with
  | some k => (acc.1.setOrigin o (.pull k), acc.2)
  | none => (acc.1.dropEntry o, acc.2 ++ [o])

theorem Part.settleRound_eq (s : Part) (orphans : List LoadId) : s.settleRound orphans = orphans.foldl settleOrphan (s, []) :=
  rfl

theorem Part.asks_settleRound {s : Part} {orphans : List LoadId} (listed : ∀ o ∈ orphans, o ∈ s.queuedLoads) :
    s.Asks (s.settleRound orphans).1 := by
  rw [Part.settleRound_eq]
  suffices ∀ (l : List LoadId) (acc : Part × List LoadId),
      (∀ o ∈ l, o ∈ acc.1.queuedLoads ∨ (acc.1.load o).phase = .off) → acc.1.Asks (l.foldl settleOrphan acc).1 from
    this orphans (s, []) fun o mem => .inl (listed o mem)
  intro l
  induction l with
  | nil => exact fun acc _ => .refl _
  | cons o l ih =>
    intro acc there
    have here := there o List.mem_cons_self
    have later (k : LoadId) (mem : k ∈ l) := there k (List.mem_cons_of_mem _ mem)
    rw [List.foldl_cons]
    cases found : acc.1.firstWanting o with
    | some k =>
      have settled : settleOrphan acc o = (acc.1.setOrigin o (.pull k), acc.2) := by rw [settleOrphan, found]
      rw [settled]
      refine (acc.1.asks_setOrigin o _).trans (ih (acc.1.setOrigin o (.pull k), acc.2) fun j mem => ?_)
      rw [Part.setOrigin_queuedLoads]
      exact later j mem
    | none =>
      have settled : settleOrphan acc o = (acc.1.dropEntry o, acc.2 ++ [o]) := by rw [settleOrphan, found]
      rw [settled]
      refine (Part.asks_dropEntry here).trans (ih (acc.1.dropEntry o, acc.2 ++ [o]) fun k mem => ?_)
      rw [Part.mem_dropEntry, Part.dropEntry_load]
      by_cases same : k = o
      · simp [same]
      · simpa [same] using later k mem

theorem Part.asks_settleOrphans (fuel : Nat) (s : Part) (gone : List LoadId) : s.Asks (s.settleOrphans fuel gone) := by
  induction fuel generalizing s gone with
  | zero => exact .refl s
  | succ fuel ih =>
    unfold Part.settleOrphans
    split
    · exact .refl s
    · exact (Part.asks_settleRound fun o => Part.mem_orphansOf).trans (ih _ _)

theorem Part.withdraw_eq {s : Part} {n : LoadId} {cause : WithdrawCause} (off : cause.phase = .off) :
    s.withdraw n cause = Part.settleOrphans 64
      (if cause.raises then (s.dropEntry n).raise (.startFailed n cause) else s.dropEntry n) [n] := by
  unfold Part.withdraw
  rw [off]
  rfl

theorem Part.asks_withdraw {s : Part} {n : LoadId} (there : n ∈ s.queuedLoads ∨ (s.load n).phase = .off)
    {cause : WithdrawCause} (off : cause.phase = .off) : s.Asks (s.withdraw n cause) := by
  rw [Part.withdraw_eq off]
  have dropped := Part.asks_dropEntry there
  exact (Part.Asks.ite _ (dropped.trans (Part.asks_raise _ _ _)) dropped).trans (Part.asks_settleOrphans _ _ _)

theorem Part.asks_reexamine (s : Part) (n : LoadId) : s.Asks (s.reexamine n) := by
  unfold Part.reexamine
  split
  · next found =>
    split
    · split
      · exact s.asks_setOrigin n _
      · exact Part.asks_withdraw (.inl (Part.entry?_isSome.1 (by simp [found]))) rfl
    · exact .refl s
  · exact .refl s

/-! ## Requests and pull-up (R80, R82, R83) -/

section
variable (ask : Part → LoadId → Origin → Part) (ha : ∀ s n o, Part.Asks s (ask s n o))
include ha

theorem Part.asks_askOffMembers (s : Part) (g : GroupId) (o : Origin) : s.Asks (s.askOffMembers ask g o).1 := by
  refine Part.Asks.foldl_fst _ ?_ (s.members g) (s, s.floorCount g)
  intro acc m
  split
  · exact ha _ _ _
  · exact .refl _

theorem Part.asks_askStoppingMembers (acc : Part × Nat) (g : GroupId) (o : Origin) :
    acc.1.Asks (Part.askStoppingMembers ask acc g o) := by
  refine Part.Asks.foldl_fst _ ?_ (acc.1.members g) acc
  intro acc m
  split
  · exact ha _ _ _
  · exact .refl _

theorem Part.asks_pullNeed (k : LoadId) (s : Part) (need : Need) : s.Asks (Part.pullNeed ask k s need) := by
  cases need with
  | load j =>
    simp only [Part.pullNeed]
    split
    · exact ha _ _ _
    · exact .refl s
  | group g => exact (Part.asks_askOffMembers ask ha s g _).trans (Part.asks_askStoppingMembers ask ha _ g _)

theorem Part.asks_pullNeeds (s : Part) (k : LoadId) : s.Asks (Part.pullNeeds ask s k) :=
  Part.Asks.foldl _ (Part.asks_pullNeed ask ha k) _ s

theorem Part.asks_enqueueNew {s : Part} {n : LoadId} (off : (s.load n).phase = .off) (live : s.mode ≠ .setup)
    (o : Origin) : s.Asks (Part.enqueueNew ask s n o) := by
  have listed : n ∈ (s.newEntry n o).queuedLoads := (s.newEntry_queuedLoads n o).mem_iff.2 List.mem_cons_self
  unfold Part.enqueueNew
  refine (Part.asks_newEntry off live o).trans ?_
  dsimp only
  split
  · exact (Part.asks_pullNeeds ask ha _ n).trans (Part.asks_startScan _)
  · exact Part.asks_withdraw (.inl listed) rfl

theorem Part.asks_requestOff {s : Part} {n : LoadId} (off : (s.load n).phase = .off) (live : s.mode ≠ .setup)
    (o : Origin) : s.Asks (Part.requestOff ask s n o) := by
  have new := Part.asks_enqueueNew ask ha off live
  unfold Part.requestOff
  split
  · exact .ite _ (new _) (.refl s)
  · exact .ite _ (new _) (.refl s)
  · split
    · exact new _
    · split
      · exact new _
      · exact .refl s
  · exact new _
  · exact new _
end

theorem Part.asks_request (fuel : Nat) (s : Part) (n : LoadId) (o : Origin) : s.Asks (Part.request fuel s n o) := by
  induction fuel generalizing s n o with
  | zero => exact .refl s
  | succ fuel ih =>
    unfold Part.request
    split
    · exact .refl s
    · next live =>
      split
      · next off => exact .ite _ (.refl s) (Part.asks_requestOff _ ih off live o)
      · split
        · exact s.asks_setOrigin n _
        · exact .refl s
      · next stopping => exact Part.asks_holdRequest (by rw [stopping]; rfl) _
      · exact .refl s

theorem Part.asks_enqueue (s : Part) (n : LoadId) (o : Origin) : s.Asks (s.enqueue n o) := Part.asks_request 65 s n o

theorem Part.asks_floorRequest (s : Part) (g : GroupId) (o : Origin) : s.Asks (s.floorRequest g o) :=
  .ite _ (.refl s) (Part.asks_askOffMembers _ Part.asks_enqueue s g o)

theorem Part.asks_floorForMember (s : Part) (n : LoadId) : s.Asks (s.floorForMember n) := by
  unfold Part.floorForMember
  split
  · exact .ite _ (s.asks_floorRequest _ _) (.refl s)
  · exact .refl s

theorem Part.asks_reviewEntry (s : Part) (n : LoadId) : s.Asks (s.reviewEntry n) := by
  unfold Part.reviewEntry
  split
  · next listed =>
    exact .ite _ (Part.asks_pullNeeds _ Part.asks_enqueue s n)
      (Part.asks_withdraw (.inl (Part.entry?_isSome.1 listed)) rfl)
  · exact .refl s

theorem Part.asks_needReview (s : Part) : s.Asks s.needReview := Part.Asks.foldl _ Part.asks_reviewEntry _ s

theorem Part.asks_afterLoss (s : Part) (n : LoadId) : s.Asks (s.afterLoss n) :=
  (s.asks_floorForMember n).trans (Part.asks_needReview _)

theorem Part.asks_sweep (s : Part) : s.Asks s.sweep := Part.Asks.foldl _ (fun s n => s.asks_enqueue n .wake) _ s

end Sys2Proof.Machine
end

section
/-! What the plant's own run may do to its loads, from one event to the next: requests and withdrawals, stops of loads
that run, and moves of the mode other than to SETUP (R26, R30, R31, R116). -/

namespace Sys2Proof.Machine

/-- From s to t loads have been asked for or withdrawn, loads that ran have been stopped, the mode has moved, not to
SETUP, or D has been computed. -/
structure Part.Follows (s t : Part) : Prop where
  work : s.ModeWork t
  holds : t.holds = s.holds
  setup : t.mode = .setup → s.mode = .setup
  sound : s.Sound → t.Sound
  phase : ∀ k, (t.load k).phase = (s.load k).phase ∨ (t.load k).phase = .off ∨ (t.load k).phase = .queued ∨
    ((s.load k).phase.running = true ∧ ((t.load k).phase.running = true ∨ (t.load k).phase = .stopping s.now))
  record : ∀ k, t.load k = { s.load k with
    phase := (t.load k).phase, stopPending := (t.load k).stopPending, changed := (t.load k).changed
    heldEnqueue := (t.load k).heldEnqueue }
  changed : ∀ k, (s.load k).changed = true → (t.load k).changed = true
  held : ∀ k, (s.load k).phase.isStopping = false → (s.load k).phase.running = false →
    (t.load k).heldEnqueue = (s.load k).heldEnqueue
  kept : ∀ k, (s.load k).phase ≠ .off → (s.load k).phase.running = false → k ∉ s.queuedLoads →
    (t.load k).phase = (s.load k).phase ∧ (t.load k).changed = (s.load k).changed ∧
      (t.load k).stopPending = (s.load k).stopPending ∧ k ∉ t.queuedLoads
  ran : ∀ k, (s.load k).phase.running = true → k ∉ s.queuedLoads →
    ((t.load k).phase.running = true ∨ (t.load k).phase = .stopping s.now) ∧ k ∉ t.queuedLoads
  starting : t.dgv.startingOrigin = s.dgv.startingOrigin
  scan : s.dgv.scanDue = true → t.dgv.scanDue = true
  causes : ∀ i : Fin 8, i ≠ 3 → i ≠ 5 → i ≠ 6 →
    t.atl.pending.getLsbD i = s.atl.pending.getLsbD i ∧ t.atl.details[i] = s.atl.details[i]
  failed : s.atl.pending.getLsbD 3 = true → t.atl.pending.getLsbD 3 = true

theorem LoadPhase.not_running_of_stopping {p : LoadPhase} (h : p.isStopping = true) : p.running = false := by
  cases p <;> first | rfl | cases h

theorem Part.Asks.follows {s t : Part} (h : s.Asks t) : s.Follows t where
  work := h.work.modeWork
  holds := h.work.holds
  setup now := h.work.mode ▸ now
  sound := h.sound
  phase k := by
    obtain same | off | queued := h.phase k
    · exact .inl same
    · exact .inr (.inl off)
    · exact .inr (.inr (.inl queued))
  record k := by
    have kept := h.record k
    have pending : (t.load k).stopPending = (s.load k).stopPending := by rw [kept]
    rw [pending]
    exact kept
  changed := h.changed
  held k going _ := h.held k going
  kept k up _ out := by
    obtain ⟨phase, changed, out⟩ := h.kept k up out
    exact ⟨phase, changed, by rw [h.record k], out⟩
  ran k runs out := by
    have up : (s.load k).phase ≠ .off := fun off => by rw [off] at runs; cases runs
    obtain ⟨phase, -, out⟩ := h.kept k up out
    exact ⟨.inl (phase ▸ runs), out⟩
  starting := by rw [h.governor]
  scan := h.scan
  causes i other _ _ := h.causes i other
  failed := h.failed

theorem Part.Follows.refl (s : Part) : s.Follows s := (Part.Asks.refl s).follows

theorem Part.Follows.trans {s t u : Part} (h : s.Follows t) (g : t.Follows u) : s.Follows u where
  work := h.work.trans g.work
  holds := g.holds.trans h.holds
  setup now := h.setup (g.setup now)
  sound ok := g.sound (h.sound ok)
  phase k := by
    have now : t.now = s.now := h.work.now
    have first := h.phase k
    obtain same | off | queued | ⟨runs, ends⟩ := g.phase k
    · rw [same]; exact first
    · exact .inr (.inl off)
    · exact .inr (.inr (.inl queued))
    · rw [now] at ends
      obtain same | off | queued | ⟨ran, -⟩ := first
      · exact .inr (.inr (.inr ⟨same ▸ runs, ends⟩))
      · rw [off] at runs; cases runs
      · rw [queued] at runs; cases runs
      · exact .inr (.inr (.inr ⟨ran, ends⟩))
  record k := by
    have first := h.record k
    have second := g.record k
    rw [first] at second
    exact second
  changed k moved := g.changed k (h.changed k moved)
  held k going rests := by
    have still : (t.load k).phase.isStopping = false ∧ (t.load k).phase.running = false := by
      obtain same | off | queued | ⟨runs, -⟩ := h.phase k
      · rw [same]; exact ⟨going, rests⟩
      · rw [off]; exact ⟨rfl, rfl⟩
      · rw [queued]; exact ⟨rfl, rfl⟩
      · rw [runs] at rests; cases rests
    exact (g.held k still.1 still.2).trans (h.held k going rests)
  kept k up rests out := by
    obtain ⟨phase, changed, pending, out⟩ := h.kept k up rests out
    obtain ⟨phase', changed', pending', out'⟩ := g.kept k (phase ▸ up) (phase ▸ rests) out
    exact ⟨phase'.trans phase, changed'.trans changed, pending'.trans pending, out'⟩
  ran k runs out := by
    have now : t.now = s.now := h.work.now
    obtain ⟨runs' | stopping, out⟩ := h.ran k runs out
    · obtain ⟨ends, out⟩ := g.ran k runs' out
      exact ⟨now ▸ ends, out⟩
    · obtain ⟨phase, -, -, out⟩ := g.kept k (by rw [stopping]; nofun) (by rw [stopping]; rfl) out
      exact ⟨.inr (phase.trans stopping), out⟩
  starting := g.starting.trans h.starting
  scan due := g.scan (h.scan due)
  causes i a b c := by
    obtain ⟨pending, details⟩ := h.causes i a b c
    obtain ⟨pending', details'⟩ := g.causes i a b c
    exact ⟨pending'.trans pending, details'.trans details⟩
  failed raised := g.failed (h.failed raised)

theorem Part.Follows.ite {s t u : Part} (c : Prop) [Decidable c] (h : s.Follows t) (g : s.Follows u) :
    s.Follows (if c then t else u) := by split <;> assumption

section
variable {s t : Part}

theorem Part.Follows.rests (h : s.Follows t) {k : LoadId}
    (rests : (s.load k).phase = .off ∨ (s.load k).phase = .queued) :
    (t.load k).phase = .off ∨ (t.load k).phase = .queued := by
  obtain same | off | queued | ⟨runs, -⟩ := h.phase k
  · rw [same]; exact rests
  · exact .inl off
  · exact .inr queued
  · obtain off | queued := rests
    · rw [off] at runs; cases runs
    · rw [queued] at runs; cases runs

/-- In a sound plant the loads that are UNREACHABLE stay those. -/
theorem Part.Follows.unreachable (h : s.Follows t) (ok : s.Sound) (k : LoadId) :
    (t.load k).phase = .unreachable ↔ (s.load k).phase = .unreachable := by
  constructor
  · intro lost
    obtain same | off | queued | ⟨-, runs | stopping⟩ := h.phase k
    · rw [← same]; exact lost
    · rw [off] at lost; cases lost
    · rw [queued] at lost; cases lost
    · rw [lost] at runs; cases runs
    · rw [stopping] at lost; cases lost
  · intro lost
    have out : k ∉ s.queuedLoads := fun listed => by
      rw [(ok.queued k).2 listed] at lost; cases lost
    obtain ⟨phase, -⟩ := h.kept k (by rw [lost]; nofun) (by rw [lost]; rfl) out
    exact phase.trans lost

/-- An update of what no load's record, entry or starting origin reads, the mode staying. -/
theorem Part.Follows.of_same (work : s.ModeWork t) (holds : t.holds = s.holds) (mode : t.mode = s.mode)
    (loads : t.loads = s.loads) (queue : t.dgv.queue = s.dgv.queue)
    (starting : t.dgv.startingOrigin = s.dgv.startingOrigin) (scan : s.dgv.scanDue = true → t.dgv.scanDue = true)
    (causes : ∀ i : Fin 8, i ≠ 3 → i ≠ 5 → i ≠ 6 →
      t.atl.pending.getLsbD i = s.atl.pending.getLsbD i ∧ t.atl.details[i] = s.atl.details[i])
    (failed : s.atl.pending.getLsbD 3 = true → t.atl.pending.getLsbD 3 = true) : s.Follows t := by
  have load (k : LoadId) : t.load k = s.load k := by rw [Part.load, loads]; rfl
  have list : t.queuedLoads = s.queuedLoads := by rw [Part.queuedLoads, queue]; rfl
  refine ⟨work, holds, fun now => mode ▸ now, fun ok => ?_, fun k => .inl (by rw [load]), fun k => ?_, fun k h => ?_,
    fun k _ _ => by rw [load], fun k _ _ out => ?_, fun k runs out => ?_, starting, scan, causes, failed⟩
  · exact ok.congr load work.inUse list (queue ▸ ok.keys) starting mode
  · rw [load]
  · rw [load]; exact h
  · rw [load, list]; exact ⟨rfl, rfl, rfl, out⟩
  · rw [load, list]; exact ⟨.inl runs, out⟩

end

/-! ## Stops (R30, R31, R34) -/

theorem Part.enterStopping_load (s : Part) (n k : LoadId) :
    (s.enterStopping n).load k =
      if k = n then { s.load n with phase := .stopping s.now, stopPending := false, changed := true } else s.load k := by
  rw [Part.enterStopping, Part.reportChange_load, Part.moveLoad_load]

theorem Part.enterStopping_queuedLoads (s : Part) (n : LoadId) : (s.enterStopping n).queuedLoads = s.queuedLoads := by
  simp [Part.queuedLoads, Part.enterStopping]

/-- A report of a change starts a scan, or does nothing (R92, R98). -/
theorem Part.reportChange_scan (before after : Part) (n : LoadId) (due : after.dgv.scanDue = true) :
    (before.reportChange after n).dgv.scanDue = true := by
  unfold Part.reportChange
  split
  · rfl
  · exact due

theorem Part.follows_enterStopping {s : Part} {n : LoadId} (runs : (s.load n).phase.running = true)
    (live : s.mode ≠ .setup) : s.Follows (s.enterStopping n) where
  work := (s.loadWork_enterStopping n).modeWork
  holds := (s.loadWork_enterStopping n).holds
  setup now := (s.loadWork_enterStopping n).mode ▸ now
  sound ok := by
    have sound := ok.loads n
    have work := s.loadWork_enterStopping n
    have list := s.enterStopping_queuedLoads n
    have starting : (s.enterStopping n).dgv.startingOrigin = s.dgv.startingOrigin := by simp [Part.enterStopping]
    have queue : (s.enterStopping n).dgv.queue = s.dgv.queue := by simp [Part.enterStopping]
    refine ok.update n (fun k other => ⟨?_, by rw [list], by rw [starting]⟩) ?_ work.inUse work.mode (list ▸ ok.once)
      (queue ▸ ok.keys)
    · rw [Part.enterStopping_load, if_neg other]
    · have used : s.inUse n ≠ false := fun unused => by rw [sound.unused.2 unused] at runs; cases runs
      have out : n ∉ s.queuedLoads := fun listed => by
        rw [(ok.queued n).2 listed] at runs; cases runs
      have origin : (s.dgv.startingOrigin[n]).isSome ≠ true := fun some => by
        rw [sound.starting.1 some] at runs; cases runs
      rw [Part.enterStopping_load, if_pos rfl, list, starting]
      refine ⟨by simpa using used, by simpa using out, nofun, fun _ => .inl rfl, by simpa using origin, nofun, nofun,
        fun setup => absurd setup live⟩
  phase k := by
    rw [Part.enterStopping_load]; split
    · next same => subst same; exact .inr (.inr (.inr ⟨runs, .inr rfl⟩))
    · exact .inl rfl
  record k := by
    rw [Part.enterStopping_load]; split
    · next same => subst same; rfl
    · rfl
  changed k h := by
    rw [Part.enterStopping_load]; split
    · rfl
    · exact h
  held k _ _ := by
    rw [Part.enterStopping_load]; split
    · next same => subst same; rfl
    · rfl
  kept k _ rests out := by
    have other : k ≠ n := fun same => by rw [same, runs] at rests; cases rests
    rw [Part.enterStopping_load, if_neg other, Part.enterStopping_queuedLoads]
    exact ⟨rfl, rfl, rfl, out⟩
  ran k runs out := by
    rw [Part.enterStopping_load, Part.enterStopping_queuedLoads]; split
    · exact ⟨.inr rfl, out⟩
    · exact ⟨.inl runs, out⟩
  starting := by simp [Part.enterStopping]
  scan due := Part.reportChange_scan _ _ n due
  causes _ _ _ _ := by simp [Part.enterStopping]
  failed h := by simpa [Part.enterStopping] using h

/-- A check that passes is that of a load that runs, outside SETUP (R29, R34). -/
theorem Part.stopsNow_running {s : Part} {n : LoadId} (stops : s.stopsNow n = true) :
    (s.load n).phase.running = true ∧ s.mode ≠ .setup := by
  simp only [Part.stopsNow, Part.idleStopDue, Bool.or_eq_true, Bool.and_eq_true, decide_eq_true_eq, bne_iff_ne] at stops
  obtain ⟨⟨⟨⟨⟨⟨⟨night, watch⟩, -⟩, -⟩, -⟩, -⟩, -⟩, -⟩ | ⟨⟨⟨-, runs⟩, live⟩, -⟩ := stops
  · exact ⟨by rw [watch]; rfl, by rw [night]; nofun⟩
  · exact ⟨runs, live⟩

theorem Part.follows_nextChoice (s : Part) : s.Follows s.nextChoice :=
  .of_same s.loadWork_nextChoice.modeWork rfl rfl rfl rfl rfl id (fun _ _ _ _ => ⟨rfl, rfl⟩) id

theorem Part.follows_noteInputs (before s : Part) : s.Follows (before.noteInputs s) :=
  .of_same (before.loadWork_noteInputs s).modeWork rfl rfl rfl rfl rfl id (fun _ _ _ _ => ⟨rfl, rfl⟩) id

theorem Part.follows_settleChecks (before s : Part) : s.Follows (before.settleChecks s) :=
  .of_same (before.loadWork_settleChecks s).modeWork rfl rfl rfl rfl rfl id (fun _ _ _ _ => ⟨rfl, rfl⟩) id

theorem Part.follows_recomputeDemand (before s : Part) : s.Follows (before.recomputeDemand s) := by
  refine .of_same (before.loadWork_recomputeDemand s).modeWork ?_ ?_ (by simp) (by simp) (by simp) (fun due => ?_)
    (fun _ _ _ _ => ?_) fun h => ?_
  · rw [(before.loadWork_recomputeDemand s).holds]
  · rw [(before.loadWork_recomputeDemand s).mode]
  · simp [Part.recomputeDemand, due]
  · simp [Part.recomputeDemand]
  · simpa [Part.recomputeDemand] using h

/-- The load that a round of checks stops: the only one of the list, or the one chosen (R30). -/
theorem getD_freeChoice_mem (n m : LoadId) (rest : List LoadId) (choice : Nat) :
    (n :: m :: rest).getD (choice % (rest.length + 2)) n ∈ n :: m :: rest := by
  have within : choice % (rest.length + 2) < (n :: m :: rest).length := Nat.mod_lt _ (Nat.succ_pos _)
  rw [List.getD_eq_getElem _ _ within]
  exact List.getElem_mem within

theorem Part.follows_takeChecks (fuel : Nat) (s : Part) (due : List LoadId) : s.Follows (s.takeChecks fuel due) := by
  induction fuel generalizing s due with
  | zero => exact .refl s
  | succ fuel ih =>
    have stops {n : LoadId} (listed : n ∈ due.filter s.stopsNow) := Part.stopsNow_running (List.mem_filter.1 listed).2
    unfold Part.takeChecks
    split
    · exact .refl s
    · next n alone =>
      obtain ⟨runs, live⟩ := stops (n := n) (by rw [alone]; exact List.mem_singleton_self n)
      exact (Part.follows_enterStopping runs live).trans (ih _ _)
    · next n m rest several =>
      obtain ⟨runs, live⟩ := stops (n := (n :: m :: rest).getD (Config.freeChoice s.freeCount % (rest.length + 2)) n)
        (by rw [several]; exact getD_freeChoice_mem n m rest _)
      exact (s.follows_nextChoice.trans (Part.follows_enterStopping (s := s.nextChoice) runs live)).trans (ih _ _)

theorem Part.follows_recheck (before s : Part) : s.Follows (before.recheck s) :=
  (Part.follows_takeChecks 64 s _).trans (before.follows_settleChecks _)

/-! ## Mode changes (R116) -/

theorem Part.chooseLamps_same (s : Part) : s.Follows s.chooseLamps := by
  rw [Part.chooseLamps_eq]
  exact .of_same ⟨rfl, rfl, rfl, rfl, rfl, rfl, rfl, rfl, rfl, rfl, rfl⟩ rfl rfl rfl rfl rfl id
    (fun _ _ _ _ => ⟨rfl, rfl⟩) id

theorem Part.follows_setMode {s : Part} {m : ModeState} (mode : (s.setMode m).mode = s.mode) : s.Follows (s.setMode m) :=
  .of_same (s.modeWork_setMode m) rfl mode rfl rfl rfl id (fun _ _ _ _ => ⟨rfl, rfl⟩) id

theorem Part.raise_causes (s : Part) (d : Detail) (own : d.cause = .mode ∨ d.cause = .plan) :
    (∀ i : Fin 8, i ≠ 3 → i ≠ 5 → i ≠ 6 →
      (s.raise d).atl.pending.getLsbD i = s.atl.pending.getLsbD i ∧ (s.raise d).atl.details[i] = s.atl.details[i]) ∧
    (s.atl.pending.getLsbD 3 = true → (s.raise d).atl.pending.getLsbD 3 = true) := by
  have index : d.cause.index = 5 ∨ d.cause.index = 6 := by obtain own | own := own <;> rw [own] <;> decide
  refine ⟨fun i _ b c => s.raise_others d fun same => ?_, fun h => ?_⟩
  · obtain own | own := index
    · exact b (same.trans own)
    · exact c (same.trans own)
  · exact ((s.raise_others d (i := 3) fun same => by rw [← same] at index; revert index; decide).1).trans h

theorem Part.follows_raiseMode (s : Part) (late : Bool) : s.Follows (s.raiseMode late) := by
  obtain ⟨others, failed⟩ := s.raise_causes (.mode s.mode late) (.inl rfl)
  exact .of_same (s.modeWork_raiseMode late) rfl rfl rfl rfl rfl id others failed

theorem Part.follows_setLate (s : Part) (late : Bool) : s.Follows (s.setLate late) :=
  .of_same (s.modeWork_setLate late) rfl rfl rfl rfl rfl id (fun _ _ _ _ => ⟨rfl, rfl⟩) id

theorem Part.follows_swapPlans (s : Part) : s.Follows s.swapPlans := by
  obtain ⟨others, failed⟩ := Part.raise_causes
    (Part.setCeilings { s with
      cfg := { s.cfg with active := s.cfg.staged, staged := s.cfg.active }, ncc := { s.ncc with armed := false } }
      { value := (Settings.planCeilings { s.cfg with active := s.cfg.staged, staged := s.cfg.active }).1 }
      { value := (Settings.planCeilings { s.cfg with active := s.cfg.staged, staged := s.cfg.active }).2 })
    (.plan s.cfg.staged.planNo) (.inr rfl)
  refine .of_same s.modeWork_swapPlans rfl rfl rfl rfl rfl (fun due => ?_) others failed
  simp [Part.swapPlans, Part.setCeilings, due]

theorem Part.follows_swapIfArmed (s : Part) : s.Follows s.swapIfArmed := .ite _ s.follows_swapPlans (.refl s)

theorem Part.moveRunning_load (s : Part) (m : Mode) (n : LoadId) :
    (s.moveRunning m).load n =
      if (s.load n).phase.running && (s.load n).phase != runningPhase m then
        { s.load n with phase := runningPhase m, changed := true } else s.load n :=
  tabulate_getElem _ n.val n.isLt

/-- The telling of a mode leaves a load's record, or moves it from LOCAL or WATCH to the running state of the mode
(R26). -/
theorem Part.tellMode_load (s : Part) (m : ModeState) (n : LoadId) :
    (s.tellMode m).load n =
      if (s.load n).phase.running && (s.load n).phase != runningPhase (s.setMode m).mode then
        { s.load n with phase := runningPhase (s.setMode m).mode, changed := true } else s.load n := by
  obtain ⟨lamps, due, told⟩ := s.tellMode_eq m
  rw [told]
  exact (s.setMode m).moveRunning_load _ n

theorem Part.tellMode_dgv (s : Part) (m : ModeState) : (s.tellMode m).dgv = s.dgv := by
  obtain ⟨lamps, due, told⟩ := s.tellMode_eq m
  rw [told]; rfl

theorem Part.tellMode_atl (s : Part) (m : ModeState) : (s.tellMode m).atl = s.atl := by
  obtain ⟨lamps, due, told⟩ := s.tellMode_eq m
  rw [told]; rfl

theorem Part.follows_tellMode {s : Part} {m : ModeState} (live : (s.setMode m).mode ≠ .setup) :
    s.Follows (s.tellMode m) := by
  have load := s.tellMode_load m
  have dgv := s.tellMode_dgv m
  have atl := s.tellMode_atl m
  have mode := s.tellMode_mode m
  have work := s.modeWork_tellMode m
  have holds := s.tellMode_holds m
  have running := runningPhase_running (s.setMode m).mode
  generalize s.tellMode m = t at load dgv atl mode work holds ⊢
  generalize (s.setMode m).mode = now at live load mode running
  have list : t.queuedLoads = s.queuedLoads := by rw [Part.queuedLoads, dgv]; rfl
  refine ⟨work, holds, fun setup => absurd (mode ▸ setup) live, fun ok => ⟨fun k => ?_, list ▸ ok.once, dgv ▸ ok.keys⟩,
    fun k => ?_, fun k => ?_, fun k h => ?_, fun k _ _ => ?_, fun k _ rests out => ?_, fun k runs out => ?_, by rw [dgv],
    fun due => by rw [dgv, due], fun _ _ _ _ => by rw [atl]; exact ⟨rfl, rfl⟩, fun h => by rw [atl]; exact h⟩
  · have sound := ok.loads k
    rw [load, work.inUse, list, dgv, mode]
    split
    · next moves =>
      have runs := (Bool.and_eq_true_iff.1 moves).1
      have none {p : LoadPhase} (away : p.running = false) : (s.load k).phase ≠ p ∧ runningPhase now ≠ p :=
        ⟨fun h => (by rw [h, away] at runs; cases runs), fun h => (by rw [h, away] at running; cases running)⟩
      refine ⟨?_, ?_, fun _ => running, fun held => ?_, ?_, fun h => absurd h (none rfl).2, fun _ => rfl,
        fun setup => absurd setup live⟩
      · rw [← sound.unused]; simp [none (p := .unused) rfl]
      · rw [← sound.queue]; simp [none (p := .queued) rfl]
      · obtain stopping | fault := sound.held held
        · rw [LoadPhase.not_running_of_stopping stopping] at runs; cases runs
        · exact absurd fault (none rfl).1
      · rw [sound.starting]; simp [none (p := .starting) rfl]
    · next stays =>
      refine { sound with running := fun runs => ?_, setup := fun setup => absurd setup live }
      simpa [runs] using stays
  · rw [load]; split
    · next moves => exact .inr (.inr (.inr ⟨(Bool.and_eq_true_iff.1 moves).1, .inl running⟩))
    · exact .inl rfl
  · rw [load]; split <;> rfl
  · rw [load]; split
    · rfl
    · exact h
  · rw [load]; split <;> rfl
  · rw [load, rests, list]
    exact ⟨rfl, rfl, rfl, out⟩
  · rw [load, list]; split
    · exact ⟨.inl running, out⟩
    · exact ⟨.inl runs, out⟩

theorem Part.follows_takeLead {s : Part} (night : s.mode = .night) (target : Option WakeTarget) :
    s.Follows (s.takeLead target).1 := Part.follows_setMode (m := .night _ _ _) night.symm

theorem Part.follows_nightChecks (s : Part) : s.Follows s.nightChecks := Part.follows_takeChecks 64 s _

theorem Part.follows_enterNight {s : Part} (night : s.mode = .night) : s.Follows s.enterNight.1 := by
  have still : s.nextChoice.nightChecks.mode = .night := (Part.loadWork_takeChecks _ _ _).mode.trans night
  unfold Part.enterNight
  dsimp only
  split
  · exact Part.follows_takeLead night _
  · split
    · exact (s.follows_nextChoice.trans (Part.follows_takeLead (s := s.nextChoice) night _)).trans
        (Part.follows_nightChecks _)
    · exact (s.follows_nextChoice.trans (Part.follows_nightChecks _)).trans (Part.follows_takeLead still _)

theorem Part.follows_enterDay {s : Part} (day : s.mode = .day) (late : Bool) (mark : Option Nat) :
    s.Follows (s.enterDay late mark).1 := by
  have swapped := (s.follows_setLate late).trans (Part.follows_swapIfArmed _)
  have mode : (s.setLate late).swapIfArmed.mode = .day := by
    rw [Part.mode, Part.swapIfArmed_ncc]; exact day
  exact swapped.trans (Part.follows_setMode (m := .day _ _) mode.symm)

/-- A move of the mode other than to SETUP. -/
theorem Part.follows_applyMove {s : Part} {m : Move} (live : m.isSetup = false) : s.Follows (s.applyMove m).1 := by
  have told {m : ModeState} (live : (s.setMode m).mode ≠ .setup) := Part.follows_tellMode live
  cases m with
  | setup => cases live
  | day late mark =>
    exact ((told (m := .day none none) nofun).trans
      (Part.follows_enterDay (s.tellMode_mode _) late mark)).trans (Part.follows_raiseMode _ _)
  | windDown deadline scheduled =>
    exact (told (m := .windDown deadline scheduled) nofun).trans (Part.follows_raiseMode _ _)
  | night =>
    exact ((told (m := .night none none 0) nofun).trans (Part.follows_enterNight (s.tellMode_mode _))).trans
      (Part.follows_raiseMode _ _)
  | wake grace atOnce =>
    exact ((told (m := .wake (grace.map Int.toNat)) nofun).trans (Part.asks_sweep _).follows).trans
      (Part.follows_raiseMode _ _)

theorem Part.follows_runMoves (fuel : Nat) (s : Part) (m : Option Move) (live : ∀ m' ∈ m.toList, m'.isSetup = false) :
    s.Follows (s.runMoves fuel m) := by
  induction fuel generalizing s m with
  | zero => cases m <;> exact .refl s
  | succ fuel ih =>
    cases m with
    | none => exact .refl s
    | some m => exact (Part.follows_applyMove (live m (by simp))).trans (ih _ _ (s.applyMove_next m))

theorem Part.follows_changeMode {s : Part} {m : Move} (live : m.isSetup = false) : s.Follows (s.changeMode m) :=
  Part.follows_runMoves 8 s _ (by simpa using live)

theorem Part.follows_wakeEndTest (s : Part) : s.Follows s.wakeEndTest :=
  .ite _ (Part.follows_changeMode rfl) (.refl s)

/-- The close of an event's handling. -/
theorem Part.follows_finish (before s : Part) : s.Follows (before.finish s) :=
  (((before.follows_recheck s).trans (before.follows_recomputeDemand _)).trans (Part.follows_wakeEndTest _)).trans
    (before.follows_settleChecks _)

theorem Part.Follows.finish {s u : Part} (before : Part) (h : s.Follows u) : s.Follows (before.finish u) :=
  h.trans (before.follows_finish u)

theorem Part.mode_of_wake {s : Part} {grace : Option Nat} (h : s.ncc.mode = .wake grace) : s.mode = .wake := by
  rw [Part.mode, h]

theorem Part.follows_reclassify (s : Part) : s.Follows s.reclassify := by
  have moves {m : Move} (live : m.isSetup = false) := Part.follows_changeMode (s := s) live
  unfold Part.reclassify
  split
  · split
    · next h => exact Part.follows_setMode (m := .day none _) (Part.mode_of_day h).symm
    · exact .refl s
  · split
    · exact .refl s
    · next h _ => exact Part.follows_setMode (m := .day _ _) (Part.mode_of_day h).symm
    · exact moves rfl
    · exact moves rfl
    · exact moves rfl
    · next h _ => exact Part.follows_setMode (m := .windDown _ _) (Part.mode_of_windDown h).symm
    · exact moves rfl
    · exact moves rfl
    · next h _ =>
      exact (Part.follows_takeLead (Part.mode_of_night h) _).trans (Part.follows_runMoves _ _ _ (s.takeLead_notSetup _))
    · next h _ =>
      exact (Part.follows_takeLead (Part.mode_of_night h) _).trans (Part.follows_runMoves _ _ _ (s.takeLead_notSetup _))
    · next h =>
      have told := Part.follows_setMode (s := s) (m := .wake (s.clockGrace.map Int.toNat)) (Part.mode_of_wake h).symm
      dsimp only
      split
      · exact .ite _ (told.trans (Part.follows_changeMode rfl)) told
      · exact told

end Sys2Proof.Machine
end

section
/-! What a plant keeps through every handling of its loads: it stays sound, and the UNREACHABLE loads stay those (R20,
R45, R78). -/

namespace Sys2Proof.Machine

/-- From s to t a sound plant stays sound, the same loads are UNREACHABLE, SETUP is not entered, and no hold comes to
stand in it. -/
structure Part.Keeps (s t : Part) : Prop where
  flm : t.flm = s.flm
  records : t.cfg.loads = s.cfg.loads
  setup : t.mode = .setup → s.mode = .setup
  holds : t.mode = .setup → s.holds = [] → t.holds = []
  plant : s.Sound → t.Sound ∧ ∀ k, (t.load k).phase = .unreachable ↔ (s.load k).phase = .unreachable

theorem Part.Follows.keeps {s t : Part} (h : s.Follows t) : s.Keeps t :=
  ⟨h.work.flm, by rw [h.work.records], h.setup, fun _ none => h.holds.trans none,
    fun ok => ⟨h.sound ok, h.unreachable ok⟩⟩

theorem Part.Keeps.refl (s : Part) : s.Keeps s := (Part.Follows.refl s).keeps

theorem Part.Keeps.trans {s t u : Part} (h : s.Keeps t) (g : t.Keeps u) : s.Keeps u where
  flm := g.flm.trans h.flm
  records := g.records.trans h.records
  setup now := h.setup (g.setup now)
  holds now none := g.holds now (h.holds (g.setup now) none)
  plant ok := by
    obtain ⟨ok, lost⟩ := h.plant ok
    obtain ⟨ok, lost'⟩ := g.plant ok
    exact ⟨ok, fun k => (lost' k).trans (lost k)⟩

theorem Part.Keeps.ite {s t u : Part} (c : Prop) [Decidable c] (h : s.Keeps t) (g : s.Keeps u) :
    s.Keeps (if c then t else u) := by split <;> assumption

theorem Part.Keeps.foldl {α : Type} (f : Part → α → Part) (h : ∀ (s : Part) (a : α), s.Keeps (f s a)) (l : List α)
    (s : Part) : s.Keeps (l.foldl f s) := by
  induction l generalizing s with
  | nil => exact .refl s
  | cons a l ih => exact (h s a).trans (ih _)

theorem Part.Keeps.sound {s t : Part} (h : s.Keeps t) (ok : s.Sound) : t.Sound := (h.plant ok).1

/-- An update of one load's record, entry and starting origin that leaves the load sound and neither loses nor returns
it. -/
theorem Part.Keeps.update {s t : Part} (n : LoadId) (work : s.LoadWork t)
    (load : ∀ k, k ≠ n → t.load k = s.load k)
    (queue : ∀ k, k ≠ n → (k ∈ t.queuedLoads ↔ k ∈ s.queuedLoads))
    (origin : ∀ k, k ≠ n → t.dgv.startingOrigin[k] = s.dgv.startingOrigin[k])
    (self : s.Sound → (t.load n).SoundIn (s.inUse n) (n ∈ t.queuedLoads) t.dgv.startingOrigin[n] s.mode)
    (lost : s.Sound → ((t.load n).phase = .unreachable ↔ (s.load n).phase = .unreachable))
    (once : s.queuedLoads.Nodup → t.queuedLoads.Nodup)
    (keys : s.dgv.queue.Pairwise (fun a b => a.key ≤ b.key) → t.dgv.queue.Pairwise fun a b => a.key ≤ b.key) :
    s.Keeps t where
  flm := work.flm
  records := by rw [work.cfg]
  setup now := work.mode ▸ now
  holds _ none := work.holds.trans none
  plant ok := by
    refine ⟨ok.update n (fun k other => ⟨load k other, queue k other, origin k other⟩) (self ok) work.inUse work.mode
      (once ok.once) (keys ok.keys), fun k => ?_⟩
    by_cases same : k = n
    · subst same; exact lost ok
    · rw [load k same]

/-! ## Records -/

/-- A record that differs in nothing soundness reads. -/
theorem LoadRecord.SoundIn.congr {r r' : LoadRecord} {inUse : Bool} {queued : Prop} {origin : Option Origin} {mode : Mode}
    (h : r.SoundIn inUse queued origin mode) (phase : r'.phase = r.phase) (pending : r'.stopPending = r.stopPending)
    (held : r'.heldEnqueue = r.heldEnqueue) (started : r'.startedAt = r.startedAt) :
    r'.SoundIn inUse queued origin mode := by
  constructor <;> simp only [phase, pending, held, started]
  · exact h.unused
  · exact h.queue
  · exact h.pending
  · exact h.held
  · exact h.starting
  · exact h.started
  · exact h.running
  · exact h.setup

/-- Neither UNUSED, nor QUEUED, nor STARTING: a state that needs no entry and no starting origin. -/
def LoadPhase.plain : LoadPhase → Bool
  | .unused | .queued | .starting => false
  | _ => true

theorem LoadPhase.ne_of_plain {p : LoadPhase} (h : p.plain = true) : p ≠ .unused ∧ p ≠ .queued ∧ p ≠ .starting := by
  refine ⟨?_, ?_, ?_⟩ <;> rintro rfl <;> cases h

theorem LoadPhase.plain_of_running {p : LoadPhase} (h : p.running = true) : p.plain = true := by
  cases p <;> first | rfl | cases h

/-- A load that comes from one plain state to another outside SETUP. -/
theorem LoadRecord.SoundIn.move {r r' : LoadRecord} {inUse : Bool} {queued : Prop} {origin : Option Origin} {mode : Mode}
    (h : r.SoundIn inUse queued origin mode) (old : r.phase.plain = true) (new : r'.phase.plain = true)
    (pending : r'.stopPending = true → r'.phase.running = true)
    (held : r'.heldEnqueue.isSome = true → r'.phase.isStopping = true ∨ r'.phase = .fault .noStop)
    (running : r'.phase.running = true → r'.phase = runningPhase mode)
    (setup : mode = .setup → (r'.phase = .unused ∨ r'.phase = .localRun ∨ r'.phase = .unreachable) ∧
      r'.stopPending = false ∧ r'.heldEnqueue = none) : r'.SoundIn inUse queued origin mode := by
  obtain ⟨unused, queue, start⟩ := LoadPhase.ne_of_plain old
  obtain ⟨unused', queue', start'⟩ := LoadPhase.ne_of_plain new
  refine ⟨?_, ?_, pending, held, ?_, fun h => absurd h start', running, setup⟩
  · rw [← h.unused]; simp [unused, unused']
  · rw [← h.queue]; simp [queue, queue']
  · rw [h.starting]; simp [start, start']

/-- A STARTING load that comes to a plain state, its starting origin dropped. -/
theorem LoadRecord.SoundIn.leaveStarting {r r' : LoadRecord} {inUse : Bool} {queued : Prop} {origin : Option Origin}
    {mode : Mode} (h : r.SoundIn inUse queued origin mode) (old : r.phase = .starting) (new : r'.phase.plain = true)
    (pending : r'.stopPending = r.stopPending) (held : r'.heldEnqueue = r.heldEnqueue)
    (running : r'.phase.running = true → r'.phase = runningPhase mode) : r'.SoundIn inUse queued none mode := by
  obtain ⟨unused', queue', start'⟩ := LoadPhase.ne_of_plain new
  have calm : r.stopPending = false := by
    refine Bool.eq_false_iff.2 fun p => ?_
    have := h.pending p; rw [old] at this; cases this
  have free : r.heldEnqueue = none := by
    refine Option.not_isSome_iff_eq_none.1 fun p => ?_
    have := h.held p; rw [old] at this; simp [LoadPhase.isStopping] at this
  refine ⟨?_, ?_, fun p => ?_, fun p => ?_, ?_, fun p => absurd p start', running, fun setup => ?_⟩
  · rw [← h.unused]; simp [old, unused']
  · rw [← h.queue]; simp [old, queue']
  · rw [pending, calm] at p; cases p
  · rw [held, free] at p; cases p
  · simp [start']
  · have := (h.setup setup).1; rw [old] at this; simp at this

/-- No stop is pending and no request is kept where a load neither runs, nor stops, nor failed to. -/
theorem LoadRecord.SoundIn.calm {r : LoadRecord} {inUse : Bool} {queued : Prop} {origin : Option Origin} {mode : Mode}
    (h : r.SoundIn inUse queued origin mode) (rests : r.phase.running = false) : r.stopPending = false :=
  Bool.eq_false_iff.2 fun p => by rw [h.pending p] at rests; cases rests

theorem LoadRecord.SoundIn.free {r : LoadRecord} {inUse : Bool} {queued : Prop} {origin : Option Origin} {mode : Mode}
    (h : r.SoundIn inUse queued origin mode) (going : r.phase.isStopping = false) (sound : r.phase ≠ .fault .noStop) :
    r.heldEnqueue = none :=
  Option.not_isSome_iff_eq_none.1 fun p => (h.held p).elim (fun stops => by rw [going] at stops; cases stops) sound

theorem Part.Sound.live {s : Part} (ok : s.Sound) {n : LoadId}
    (away : (s.load n).phase ≠ .unused ∧ (s.load n).phase ≠ .localRun ∧ (s.load n).phase ≠ .unreachable) :
    s.mode ≠ .setup := by
  intro setup
  obtain unused | local_ | lost := ((ok.loads n).setup setup).1
  · exact away.1 unused
  · exact away.2.1 local_
  · exact away.2.2 lost

/-- A record replaced, the entry and the starting origin staying. -/
theorem Part.keeps_setLoad {s : Part} {n : LoadId} {r : LoadRecord}
    (self : s.Sound → r.SoundIn (s.inUse n) (n ∈ s.queuedLoads) s.dgv.startingOrigin[n] s.mode)
    (lost : s.Sound → (r.phase = .unreachable ↔ (s.load n).phase = .unreachable)) : s.Keeps (s.setLoad n r) := by
  refine .update n (s.loadWork_setLoad n r) (fun k other => Part.setLoad_load_ne s r other) (fun _ _ => Iff.rfl)
    (fun _ _ => rfl) (fun ok => ?_) (fun ok => ?_) id id
  · rw [Part.setLoad_load_self]; exact self ok
  · rw [Part.setLoad_load_self]; exact lost ok

theorem Part.keeps_moveLoad {s : Part} {n : LoadId} {r : LoadRecord}
    (self : s.Sound → r.SoundIn (s.inUse n) (n ∈ s.queuedLoads) s.dgv.startingOrigin[n] s.mode)
    (lost : s.Sound → (r.phase = .unreachable ↔ (s.load n).phase = .unreachable)) : s.Keeps (s.moveLoad n r) :=
  (Part.keeps_setLoad self lost).trans (s.follows_noteInputs _).keeps

theorem Part.setStartingOrigin_self (s : Part) (n : LoadId) (o : Option Origin) :
    (s.setStartingOrigin n o).dgv.startingOrigin[n] = o := Vector.getElem_set_self _

theorem Part.setStartingOrigin_ne (s : Part) {n k : LoadId} (o : Option Origin) (other : k ≠ n) :
    (s.setStartingOrigin n o).dgv.startingOrigin[k] = s.dgv.startingOrigin[k] :=
  Vector.getElem_set_ne n.isLt k.isLt fun same => other (Fin.ext same.symm)

/-- A STARTING load's record replaced, its starting origin dropped. -/
theorem Part.keeps_leaveStarting {s : Part} {n : LoadId} {r : LoadRecord} (old : (s.load n).phase = .starting)
    (new : r.phase.plain = true) (reachable : r.phase ≠ .unreachable)
    (pending : r.stopPending = (s.load n).stopPending) (held : r.heldEnqueue = (s.load n).heldEnqueue)
    (running : r.phase.running = true → r.phase = runningPhase s.mode) :
    s.Keeps ((s.moveLoad n r).setStartingOrigin n none) := by
  refine .update n ((s.loadWork_moveLoad n r).trans (Part.loadWork_setStartingOrigin _ n none))
    (fun k other => ?_) (fun _ _ => Iff.rfl) (fun k other => Part.setStartingOrigin_ne _ none other) (fun ok => ?_)
    (fun ok => ?_) id id
  · rw [Part.setStartingOrigin_load, Part.moveLoad_load, if_neg other]
  · rw [Part.setStartingOrigin_load, Part.moveLoad_load_self, Part.setStartingOrigin_self]
    exact (ok.loads n).leaveStarting old new pending held running
  · rw [Part.setStartingOrigin_load, Part.moveLoad_load_self, old]
    simp [reachable]

/-! ## Entries to OFF, FAULT and OVERRIDE, completion (R32, R33, R37, R38, R40) -/

/-- A load in OFF from the present second, its kept request taken off it (R32). -/
def Part.reachedOff (s : Part) (n : LoadId) : Part :=
  let t := s.moveLoad n { s.load n with phase := .off, stoppedAt := some s.now, changed := true }
  t.setLoad n { t.load n with heldEnqueue := none }

theorem Part.asks_offReports (s : Part) (n : LoadId) :
    (s.setLoad n { s.load n with heldEnqueue := none }).Asks (s.offReports n) := by
  unfold Part.offReports
  refine Part.Asks.trans ?_ (Part.asks_floorForMember _ n)
  cases (s.load n).heldEnqueue with
  | none => exact .ite _ (Part.asks_enqueue _ n _) (.refl _)
  | some o => exact .ite _ ((Part.asks_enqueue _ n o).trans (Part.asks_enqueue _ n _)) (Part.asks_enqueue _ n o)

theorem Part.asks_enterOff (s : Part) (n : LoadId) : (s.reachedOff n).Asks (s.enterOff n) :=
  (Part.asks_offReports _ n).trans (Part.asks_needReview _)

theorem Part.reachedOff_load (s : Part) (n k : LoadId) :
    (s.reachedOff n).load k =
      if k = n then
        { s.load n with phase := .off, stoppedAt := some s.now, changed := true, heldEnqueue := none }
      else s.load k := by
  rw [Part.reachedOff, Part.setLoad_load]
  split
  · rw [Part.moveLoad_load_self]
  · next other => rw [Part.moveLoad_load, if_neg other]

theorem Part.keeps_enterOff {s : Part} {n : LoadId}
    (from_ : (s.load n).phase.isStopping = true ∨ (s.load n).phase.isFault = true ∨ (s.load n).phase = .override) :
    s.Keeps (s.enterOff n) := by
  have old : (s.load n).phase.plain = true ∧ (s.load n).phase.running = false ∧ (s.load n).phase ≠ .unreachable := by
    obtain h | h | h := from_ <;> revert h <;> cases (s.load n).phase <;> simp [LoadPhase.plain, LoadPhase.running,
      LoadPhase.isStopping, LoadPhase.isFault]
  refine Part.Keeps.trans ?_ (s.asks_enterOff n).follows.keeps
  refine .update n ((s.loadWork_moveLoad n _).trans (Part.loadWork_setLoad _ n _)) (fun k other => ?_)
    (fun _ _ => Iff.rfl) (fun _ _ => rfl) (fun ok => ?_) (fun _ => ?_) id id
  · exact (s.reachedOff_load n k).trans (if_neg other)
  · have origin : (s.reachedOff n).dgv.startingOrigin[n] = s.dgv.startingOrigin[n] := rfl
    show ((s.reachedOff n).load n).SoundIn _ _ (s.reachedOff n).dgv.startingOrigin[n] _
    have live : s.mode ≠ .setup := ok.live (n := n) (by
      obtain h | h | h := from_ <;> revert h <;> cases (s.load n).phase <;> simp [LoadPhase.isStopping,
        LoadPhase.isFault])
    rw [Part.reachedOff_load, if_pos rfl, origin]
    refine (ok.loads n).move old.1 rfl (fun pending => ?_) nofun nofun fun setup => absurd setup live
    have := (ok.loads n).pending pending
    rw [old.2.1] at this; cases this
  · show ((s.reachedOff n).load n).phase = .unreachable ↔ _
    rw [Part.reachedOff_load, if_pos rfl]
    simp [old.2.2]

theorem Part.keeps_raiseFault (s : Part) (n : LoadId) : s.Keeps (s.raise (.loadFault n)) :=
  ⟨rfl, rfl, id, fun _ none => none, fun ok =>
    ⟨ok.congr (fun _ => rfl) (fun _ => rfl) rfl ok.keys rfl rfl, fun _ => Iff.rfl⟩⟩

theorem Part.keeps_failStart {s : Part} {n : LoadId} (old : (s.load n).phase = .starting) : s.Keeps (s.failStart n) :=
  (((Part.keeps_leaveStarting (r := { s.load n with phase := .fault .noStart, changed := true }) old rfl nofun rfl rfl
    nofun).trans (Part.keeps_raiseFault _ n)).trans (Part.asks_floorForMember _ n).follows.keeps).trans
    (Part.asks_needReview _).follows.keeps

theorem Part.keeps_failStop {s : Part} {n : LoadId} (old : (s.load n).phase.isStopping = true) :
    s.Keeps (s.failStop n) := by
  have plain : (s.load n).phase.plain = true ∧ (s.load n).phase ≠ .unreachable ∧ (s.load n).phase ≠ .localRun := by
    revert old; cases (s.load n).phase <;> simp [LoadPhase.plain, LoadPhase.isStopping]
  have failed : s.Keeps (s.setPhase n (.fault .noStop)) := by
    refine Part.keeps_moveLoad (fun ok => ?_) fun _ => by simp [plain.2.1]
    have live := ok.live (n := n) ⟨(LoadPhase.ne_of_plain plain.1).1, plain.2.2, plain.2.1⟩
    refine (ok.loads n).move plain.1 rfl (fun pending => ?_) (fun _ => .inr rfl) nofun fun setup => absurd setup live
    have := (ok.loads n).pending pending
    rw [LoadPhase.not_running_of_stopping old] at this; cases this
  exact (failed.trans (Part.keeps_raiseFault _ n)).trans (Part.asks_needReview _).follows.keeps

/-- A KEEP_OFF stop asked for outside SETUP (R34). -/
theorem Part.keeps_keepOffStop {s : Part} (n : LoadId) (live : s.mode ≠ .setup) : s.Keeps (s.keepOffStop n) := by
  unfold Part.keepOffStop
  split
  · next runs =>
    refine .ite _ (Part.follows_enterStopping runs live).keeps (Part.keeps_setLoad (fun ok => ?_) fun _ => Iff.rfl)
    exact { ok.loads n with pending := fun _ => runs, setup := fun setup => absurd setup live }
  · exact .refl s

theorem Part.follows_reportChange (before after : Part) (n : LoadId) : after.Follows (before.reportChange after n) := by
  refine .of_same (before.loadWork_reportChange after n).modeWork (by simp) (by simp) (by simp) (by simp) (by simp)
    (Part.reportChange_scan before after n) (fun _ _ _ _ => by simp) (by simp)

theorem Part.reportChange_setStartingOrigin (before after : Part) (n : LoadId) (o : Option Origin) :
    (before.reportChange after n).setStartingOrigin n o = before.reportChange (after.setStartingOrigin n o) n := by
  unfold Part.reportChange
  have contribution : (after.setStartingOrigin n o).contribution n = after.contribution n := rfl
  have serving : (after.setStartingOrigin n o).serving n = after.serving n := rfl
  have need : before.needBecameSatisfied (after.setStartingOrigin n o) = before.needBecameSatisfied after := rfl
  rw [contribution, serving, need]
  split <;> rfl

theorem Part.keeps_completeStart {s : Part} {n : LoadId} (old : (s.load n).phase = .starting) :
    s.Keeps (s.completeStart n) := by
  have running := runningPhase_running s.mode
  have done : s.Keeps ((s.reportChange (s.moveLoad n { s.load n with
      phase := runningPhase s.mode, lastActivity := s.now, changed := true }) n).setStartingOrigin n none) := by
    rw [Part.reportChange_setStartingOrigin]
    refine Part.Keeps.trans (Part.keeps_leaveStarting (r := { s.load n with
      phase := runningPhase s.mode, lastActivity := s.now, changed := true }) old (LoadPhase.plain_of_running running)
      ?_ rfl rfl fun _ => rfl) (Part.follows_reportChange s _ n).keeps
    intro lost
    rw [show runningPhase s.mode = _ from lost] at running; cases running
  by_cases live : s.mode = .setup
  · have work := s.loadWork_completeStart n
    exact ⟨work.flm, by rw [work.cfg], fun now => work.mode ▸ now, fun _ none => work.holds.trans none,
      fun ok => absurd live (ok.live (n := n) (by rw [old]; simp))⟩
  · unfold Part.completeStart
    exact .ite _ (done.trans (Part.keeps_keepOffStop n (by simpa using live))) done

/-- A load is withdrawn OVERRIDE (R40, R85). -/
theorem Part.keeps_enterOverride {s : Part} {n : LoadId}
    (old : (s.load n).phase = .off ∨ (s.load n).phase = .queued ∨ (s.load n).phase = .fault .noStart) :
    s.Keeps (s.enterOverride n) := by
  have calm (ok : s.Sound) : s.mode ≠ .setup ∧ (s.load n).stopPending = false ∧ (s.load n).heldEnqueue = none := by
    refine ⟨ok.live (n := n) ?_, (ok.loads n).calm ?_, (ok.loads n).free ?_ ?_⟩ <;>
      obtain h | h | h := old <;> simp [h, LoadPhase.running, LoadPhase.isStopping]
  unfold Part.enterOverride
  split
  · next queued =>
    have gone : s.Keeps ((s.removeEntry n).setPhase n .override) := by
      have load (k : LoadId) : ((s.removeEntry n).setPhase n .override).load k = _ := Part.setPhase_load _ n k _
      refine .update n ((s.loadWork_removeEntry n).trans (Part.loadWork_setPhase _ n _)) (fun k other => ?_)
        (fun k other => ?_) (fun _ _ => rfl) (fun ok => ?_) (fun _ => ?_) (fun once => ?_) fun keys => keys.filter _
      · rw [load, if_neg other]; rfl
      · exact Part.mem_removeEntry.trans (and_iff_left other)
      · obtain ⟨live, calm, free⟩ := calm ok
        have sound := ok.loads n
        have out : n ∉ ((s.removeEntry n).setPhase n .override).queuedLoads := fun listed =>
          (Part.mem_removeEntry.1 listed).2 rfl
        have origin : ((s.removeEntry n).setPhase n .override).dgv.startingOrigin[n] = s.dgv.startingOrigin[n] := rfl
        rw [load, if_pos rfl, origin]
        refine ⟨?_, ?_, ?_, ?_, ?_, nofun, nofun, fun setup => absurd setup live⟩
        · rw [← sound.unused, queued]; simp
        · simp [out]
        · simp [calm]
        · simp [free]
        · rw [sound.starting, queued]; simp
      · rw [load, if_pos rfl, queued]; simp
      · show ((s.removeEntry n).queuedLoads).Nodup
        rw [Part.removeEntry_queuedLoads]
        exact once.filter _
    exact (gone.trans (Part.asks_raise _ n .override).follows.keeps).trans (Part.asks_settleOrphans _ _ _).follows.keeps
  · next idle =>
    refine Part.keeps_moveLoad (fun ok => ?_) fun _ => ?_
    · obtain ⟨live, calm, free⟩ := calm ok
      have plain : (s.load n).phase.plain = true := by
        obtain h | h | h := old
        · rw [h]; rfl
        · exact absurd h idle
        · rw [h]; rfl
      exact (ok.loads n).move plain rfl (by simp [calm]) (by simp [free]) nofun fun setup => absurd setup live
    · obtain h | h | h := old <;> simp [h]

/-! ## Admission (R99 to R101) -/

theorem Part.keeps_setWait (s : Part) (n : LoadId) (w : Wait) : s.Keeps (s.setWait n w) := by
  refine ⟨rfl, rfl, id, fun _ none => none, fun ok => ⟨?_, fun _ => Iff.rfl⟩⟩
  refine ok.congr (fun _ => rfl) (fun _ => rfl) (s.setWait_queuedLoads n w) (keys_map (fun e => ?_) ok.keys) rfl rfl
  split <;> rfl

theorem Part.admitLoad_load (s : Part) (n k : LoadId) :
    (s.admitLoad n).load k =
      if k = n then
        { s.load n with
          phase := .starting, startedAt := some s.now, startHistory := (s.load n).startHistory ++ [s.now]
          changed := true }
      else s.load k := by
  unfold Part.admitLoad
  rw [Part.setStartingOrigin_load, Part.moveLoad_load]
  rfl

theorem Part.keeps_admitLoad {s : Part} {n : LoadId} (queued : (s.entry? n).isSome = true) : s.Keeps (s.admitLoad n) := by
  have origin : (s.admitLoad n).dgv.startingOrigin[n] = (s.entry? n).map Entry.origin := Part.setStartingOrigin_self _ n _
  have others (k : LoadId) (other : k ≠ n) : (s.admitLoad n).dgv.startingOrigin[k] = s.dgv.startingOrigin[k] :=
    Part.setStartingOrigin_ne _ _ other
  have listed := Part.entry?_isSome.1 queued
  have list : (s.admitLoad n).queuedLoads = (s.removeEntry n).queuedLoads := rfl
  refine .update n (s.loadWork_admitLoad n) (fun k other => ?_) (fun k other => ?_) others (fun ok => ?_) (fun ok => ?_)
    (fun once => ?_) fun keys => keys.filter _
  · rw [Part.admitLoad_load, if_neg other]
  · rw [list, Part.mem_removeEntry]; simp [other]
  · have phase := (ok.queued n).2 listed
    have sound := ok.loads n
    have calm := sound.calm (by rw [phase]; rfl)
    have free := sound.free (by rw [phase]; rfl) (by rw [phase]; nofun)
    rw [Part.admitLoad_load, if_pos rfl, origin, list]
    refine ⟨?_, ?_, by simp [calm], by simp [free], by simpa using queued, fun _ => rfl, nofun,
      fun setup => absurd setup (ok.mode_of_queued listed)⟩
    · rw [← sound.unused, phase]; simp
    · simp [Part.mem_removeEntry]
  · rw [Part.admitLoad_load, if_pos rfl, (ok.queued n).2 listed]; simp
  · rw [list, Part.removeEntry_queuedLoads]; exact once.filter _

theorem Part.keeps_scanFrom (l : List LoadId) (s : Part) : s.Keeps (Part.scanFrom l s) := by
  induction l generalizing s with
  | nil => exact .refl s
  | cons n rest ih =>
    unfold Part.scanFrom
    split
    · next queued =>
      split
      · exact (s.keeps_setWait n _).trans (ih _)
      · split
        · exact (Part.asks_withdraw (.inl (Part.entry?_isSome.1 queued)) rfl).follows.keeps.trans (ih _)
        · split
          · exact (Part.keeps_admitLoad queued).trans (ih _)
          · exact s.keeps_setWait n _
    · exact ih s

theorem Part.keeps_scan (s : Part) : s.Keeps s.scan := by
  refine Part.Keeps.trans (t := { s with dgv := { s.dgv with scanDue := false } }) ?_ (Part.keeps_scanFrom _ _)
  exact ⟨rfl, rfl, id, fun _ none => none,
    fun ok => ⟨ok.congr (fun _ => rfl) (fun _ => rfl) rfl ok.keys rfl rfl, fun _ => Iff.rfl⟩⟩

end Sys2Proof.Machine
end

section
/-! What the Hold Table, the lines and the field link's readings leave of a sound plant (R22 to R25, R53 to R73). -/

namespace Sys2Proof.Machine

/-- A handling that keeps to load work keeps whatever a plant that is not sound has. -/
theorem Part.Keeps.of_unsound {s t : Part} (work : s.LoadWork t) (unsound : ¬s.Sound) : s.Keeps t :=
  ⟨work.flm, by rw [work.cfg], fun now => work.mode ▸ now, fun _ none => work.holds.trans none, fun ok => absurd ok unsound⟩

/-- An update of what no load's record, entry or starting origin reads. -/
theorem Part.Keeps.of_same {s t : Part} (flm : t.flm = s.flm) (records : t.cfg.loads = s.cfg.loads)
    (mode : t.mode = s.mode) (holds : t.mode = .setup → s.holds = [] → t.holds = []) (loads : t.loads = s.loads)
    (queue : t.dgv.queue = s.dgv.queue) (starting : t.dgv.startingOrigin = s.dgv.startingOrigin) : s.Keeps t := by
  have load (n : LoadId) : t.load n = s.load n := by rw [Part.load, loads]; rfl
  have inUse (n : LoadId) : t.inUse n = s.inUse n := by rw [Part.inUse, Part.config, records]; rfl
  refine ⟨flm, records, fun now => mode ▸ now, holds, fun ok => ⟨?_, fun k => by rw [load]⟩⟩
  exact ok.congr load inUse (by rw [Part.queuedLoads, queue]; rfl) (queue ▸ ok.keys) starting mode

/-- A fold of what keeps a plant outside SETUP. -/
theorem Part.Keeps.foldl_live {α : Type} {f : Part → α → Part}
    (h : ∀ (s : Part) (a : α), s.mode ≠ .setup → s.Keeps (f s a)) (l : List α) {s : Part} (live : s.mode ≠ .setup) :
    s.Keeps (l.foldl f s) := by
  induction l generalizing s with
  | nil => exact .refl s
  | cons a l ih =>
    have first := h s a live
    exact first.trans (ih fun setup => live (first.setup setup))

theorem Part.keeps_raise (s : Part) (d : Detail) : s.Keeps (s.raise d) :=
  .of_same rfl rfl rfl (fun _ none => none) rfl rfl rfl

theorem Part.keeps_chooseLamp (s : Part) (p : PanelId) : s.Keeps (s.chooseLamp p) :=
  .of_same rfl rfl rfl (fun _ none => none) rfl rfl rfl

theorem Part.keeps_ownerLamp (s : Part) (o : Owner) : s.Keeps (s.ownerLamp o) := by
  cases o with
  | panel p => exact s.keeps_chooseLamp p
  | supervisor | call => exact .refl s

/-! ## Placement (R53 to R63) -/

theorem Part.keeps_reportKeepOff {s : Part} (n : LoadId) (live : s.mode ≠ .setup) : s.Keeps (s.reportKeepOff n) := by
  have stop := Part.keeps_keepOffStop n live
  have withdrawn {u : Part} (queued : (u.load n).phase = .queued) : u.Keeps (u.withdraw n .keepOff) := by
    by_cases ok : u.Sound
    · exact (Part.asks_withdraw (.inl ((ok.queued n).1 queued)) rfl).follows.keeps
    · exact .of_unsound (u.loadWork_withdraw n _) ok
  unfold Part.reportKeepOff
  refine Part.Keeps.trans ?_ (Part.asks_needReview _).follows.keeps
  split
  · next queued => exact stop.trans (withdrawn queued)
  · exact stop

theorem Part.keeps_reportPlacement {s : Part} (h : Hold) (live : s.mode ≠ .setup) : s.Keeps (s.reportPlacement h) := by
  unfold Part.reportPlacement
  split
  · exact .ite _ (s.asks_floorRequest _ _).follows.keeps (.refl s)
  · exact (Part.Asks.foldl _ (fun s n => s.asks_enqueue n .hold) _ s).follows.keeps
  · exact .foldl_live (fun s n live => Part.keeps_reportKeepOff n live) _ live

theorem Part.keeps_createHold {s : Part} (h : Hold) (live : s.mode ≠ .setup) : s.Keeps (s.createHold h) := by
  have placed : s.Keeps { s with
      holds := insertHold h s.holds
      nextId := freeId ((insertHold h s.holds).map Hold.id) 49 (stepId h.id) } :=
    .of_same rfl rfl rfl (fun setup => absurd setup live) rfl rfl rfl
  exact (placed.trans (Part.keeps_reportPlacement h live)).trans (Part.keeps_ownerLamp _ _)

theorem Part.keeps_updateHold (s : Part) (h : Hold) : s.Keeps (s.updateHold h) :=
  .of_same rfl rfl rfl (fun _ none => by simp [Part.updateHold, none]) rfl rfl rfl

theorem Part.keeps_place (s : Part) (kind : HoldKind) (t : Target) (owner : Owner) (duration reason : Nat) :
    s.Keeps (s.place kind t owner duration reason).1 := by
  unfold Part.place
  dsimp only
  split
  · exact .refl s
  · next live =>
    split
    · exact .refl s
    · split
      · exact (s.keeps_updateHold _).trans (Part.keeps_ownerLamp _ _)
      · split
        · exact .refl s
        · split
          · exact .refl s
          · exact Part.keeps_createHold _ live

theorem Part.keeps_afterPlacement {s : Part} {r : Part × Placement} (h : s.Keeps r.1) : s.Keeps (s.afterPlacement r) := by
  have closed := h.trans (s.follows_finish r.1).keeps
  unfold Part.afterPlacement
  split
  · exact closed
  · exact closed
  all_goals exact .refl s

theorem Part.keeps_callRequest (s : Part) (c : CallId) : s.Keeps (s.callRequest c) := by
  have placed := s.keeps_place .keepOn (.group s.cfg.calls[c].group) (.call c) s.cfg.calls[c].callMin 0
  unfold Part.callRequest
  dsimp only
  split
  · exact placed.trans (Part.keeps_raise _ _)
  · exact placed.trans (Part.keeps_raise _ _)
  · exact placed

theorem Part.keeps_setRefusal (s : Part) (p : PanelId) (t : Option Nat) : s.Keeps (s.setRefusal p t) :=
  .of_same rfl rfl rfl (fun _ none => none) rfl rfl rfl

theorem Part.keeps_setDebounce (s : Part) (l : Line) (d : Debounce) : s.Keeps (s.setDebounce l d) :=
  .of_same rfl rfl rfl (fun _ none => none) rfl rfl rfl

theorem Part.keeps_keepOutcome (s : Part) (p : PanelId) (r : Placement) : s.Keeps (s.keepOutcome p r) := by
  have chosen (u : Option Nat) := (s.keeps_setRefusal p u).trans (Part.keeps_chooseLamp _ p)
  unfold Part.keepOutcome
  split
  case h_5 | h_6 => exact .refl s
  all_goals exact chosen _

theorem Part.keeps_keepPressed (s : Part) (p : PanelId) : s.Keeps (s.keepPressed p) :=
  .ite _ ((s.keeps_place _ _ _ _ _).trans (Part.keeps_keepOutcome _ p _)) (.refl s)

/-! ## Retirement (R67 to R73) -/

theorem Part.keeps_reportKeepOffLoss (s : Part) (n : LoadId) : s.Keeps (s.reportKeepOffLoss n) := by
  have cleared : s.Keeps (s.setLoad n { s.load n with stopPending := false }) := by
    refine Part.keeps_setLoad (fun ok => ?_) fun _ => Iff.rfl
    refine { ok.loads n with pending := nofun, setup := fun setup => ?_ }
    obtain ⟨phase, -, held⟩ := (ok.loads n).setup setup
    exact ⟨phase, rfl, held⟩
  exact (cleared.trans (Part.asks_needReview _).follows.keeps).trans (Part.asks_floorForMember _ n).follows.keeps

theorem Part.keeps_reportRetirement (s : Part) (h : Hold) : s.Keeps (s.reportRetirement h) := by
  unfold Part.reportRetirement
  split
  · exact .ite _ (Part.Asks.foldl _ Part.asks_reexamine _ s).follows.keeps (.refl s)
  · exact (Part.Asks.foldl _ Part.asks_reexamine _ s).follows.keeps
  · exact .foldl _ Part.keeps_reportKeepOffLoss _ s

theorem Part.keeps_retire (s : Part) (h : Hold) : s.Keeps (s.retire h) := by
  have gone : s.Keeps { s with holds := s.holds.filter fun x => x.id != h.id } :=
    .of_same rfl rfl rfl (fun _ none => by simp [none]) rfl rfl rfl
  exact ((gone.trans (Part.keeps_reportRetirement _ h)).trans (s.follows_recheck _).keeps).trans
    (Part.keeps_ownerLamp _ _)

theorem Part.keeps_panelRelease (s : Part) (p : PanelId) : s.Keeps (s.panelRelease p) :=
  .foldl _ Part.keeps_retire _ s

/-! ## Readings (R22 to R25, R32 to R40) -/

theorem Part.keeps_handSilence (s : Part) (k : StationId) (silence : Nat) : s.Keeps (s.handSilence k silence) := by
  refine .ite _ (.refl s) (.foldl _ (fun s n => ?_) _ s)
  exact Part.keeps_setLoad (fun ok => (ok.loads n).congr rfl rfl rfl rfl) fun _ => Iff.rfl

/-- A reading changes a load's feedback, filter and activity alone (R22 to R24). -/
theorem LoadRecord.qualified_frame (r : LoadRecord) (filter : Nat) (c : LoadConfig) (now : Nat) (v : Reading) :
    (r.qualifyFeedback filter v.feedback).qualifyActivity c now v = { r with
      feedback := ((r.qualifyFeedback filter v.feedback).qualifyActivity c now v).feedback
      filterCount := ((r.qualifyFeedback filter v.feedback).qualifyActivity c now v).filterCount
      activityCount := ((r.qualifyFeedback filter v.feedback).qualifyActivity c now v).activityCount
      activityWindow := ((r.qualifyFeedback filter v.feedback).qualifyActivity c now v).activityWindow
      lastActivity := ((r.qualifyFeedback filter v.feedback).qualifyActivity c now v).lastActivity } := by
  unfold LoadRecord.qualifyActivity LoadRecord.qualifyFeedback LoadRecord.qualifyPulse LoadRecord.qualifyLevel
  dsimp only
  split <;> split_ifs <;> rfl

theorem Part.keeps_qualifyLoad (s : Part) (n : LoadId) (v : Reading) : s.Keeps (s.qualifyLoad n v) := by
  have frame := (s.load n).qualified_frame (s.config n).feedbackFilter (s.config n) s.now v
  refine Part.Keeps.trans (Part.keeps_moveLoad (fun ok => ?_) fun _ => ?_) (s.follows_reportChange _ n).keeps
  · rw [frame]; exact (ok.loads n).congr rfl rfl rfl rfl
  · rw [frame]

theorem Part.keeps_feedbackEffect (s : Part) (n : LoadId) (was : Bool) : s.Keeps (s.feedbackEffect n was) := by
  have same := Part.Keeps.refl s
  unfold Part.feedbackEffect
  dsimp only
  split
  · next h => exact .ite _ same (Part.keeps_enterOff (.inl (by rw [h]; rfl)))
  · next h => exact .ite _ same (Part.keeps_enterOff (.inr (.inl (by rw [h]; rfl))))
  · next h => exact .ite _ (Part.keeps_enterOverride (.inl h)) same
  · next h => exact .ite _ (Part.keeps_enterOverride (.inr (.inl h))) same
  · next h => exact .ite _ (Part.keeps_enterOverride (.inr (.inr h))) same
  · next h => exact .ite _ (Part.keeps_enterOff (.inr (.inr h))) same
  · next h => exact .ite _ (Part.keeps_completeStart h) (.ite _ (Part.keeps_failStart h) same)
  all_goals exact same

theorem Part.keeps_qualifyReply (s : Part) (k : StationId) (v : Vector Reading 4) : s.Keeps (s.qualifyReply k v) :=
  (Part.Keeps.foldl _ (fun s n => s.keeps_qualifyLoad n _) _ s).trans
    (.foldl _ (fun s' n => s'.keeps_feedbackEffect n _) _ _)

/-! ## The time bases -/

theorem Part.keeps_renewLead (s : Part) : s.Keeps s.renewLead := by
  unfold Part.renewLead
  split
  · next h =>
    exact ((Part.follows_takeLead (Part.mode_of_night h) _).trans
      (Part.follows_runMoves _ _ _ (s.takeLead_notSetup _))).keeps
  · exact .refl s

theorem Part.keeps_renewCalls (s : Part) : s.Keeps s.renewCalls := .foldl _ Part.keeps_callRequest _ s

theorem Part.keeps_minuteBoundary (s : Part) : s.Keeps s.minuteBoundary := by
  have taken : s.Keeps { s with ncc := { s.ncc with minuteDue := false } } :=
    .of_same rfl rfl rfl (fun _ none => none) rfl rfl rfl
  have lead := Part.keeps_renewLead
  have calls := Part.keeps_renewCalls
  have choice (u : Part) := u.follows_nextChoice.keeps
  refine Part.Keeps.trans ?_ (Part.chooseLamps_same _).keeps
  exact taken.trans (.ite _ ((lead _).trans (calls _))
    (.ite _ (((choice _).trans (lead _)).trans (calls _)) (((choice _).trans (calls _)).trans (lead _))))

theorem Part.keeps_swapInDay (s : Part) : s.Keeps s.swapInDay := by
  unfold Part.swapInDay
  split
  · next h =>
    exact ((s.follows_swapPlans.trans (Part.follows_setMode (m := .day _ _) (Part.mode_of_day h).symm)).trans
      (Part.follows_runMoves 8 _ _ (nextNightMove_notSetup _ _))).keeps
  · exact .refl s

theorem Part.keeps_arm (s : Part) (armed : Bool) : s.Keeps (s.arm armed).1 := by
  have set : s.Keeps { s with ncc := { s.ncc with armed := armed } } :=
    .of_same rfl rfl rfl (fun _ none => none) rfl rfl rfl
  unfold Part.arm
  dsimp only
  split
  · exact set.trans (Part.keeps_swapInDay _)
  · exact set

theorem Part.keeps_takeLine (s : Part) (line : Line) (due : Debounce → Nat → Bool) (level : Level)
    (then_ : Part → Part) (h : ∀ q : Part, q.Keeps (then_ q)) : s.Keeps (s.takeLine line due level then_) :=
  .ite _ ((s.keeps_setDebounce _ _).trans (h _)) (.refl s)

theorem Part.keeps_closeInterval (s : Part) : s.Keeps s.closeInterval := by
  unfold Part.closeInterval
  dsimp only
  split
  · exact .of_same rfl rfl rfl (fun _ none => none) rfl rfl rfl
  · split
    · exact .of_same rfl rfl rfl (fun _ none => none) rfl rfl rfl
    · split <;> exact .of_same rfl rfl rfl (fun _ none => none) rfl rfl rfl

/-- The clock taken, the mode stays, its mark gone (R108). -/
theorem Part.keeps_takeClock (s : Part) (minute second : Nat) : s.Keeps (s.takeClock minute second) := by
  have mode : (s.clockTaken minute second).mode = s.mode := by
    show Part.mode { s with ncc := { s.ncc with mode := s.ncc.mode.clearMark } } = s.mode
    unfold Part.mode
    cases s.ncc.mode <;> rfl
  refine Part.Keeps.trans ?_ (Part.follows_reclassify _).keeps
  exact .of_same rfl rfl mode (fun _ none => none) rfl rfl rfl

/-- An uptime second, at which only D is computed and a scan may be started (R92, R98). -/
theorem Part.keeps_second (s : Part) : s.Keeps s.second := by
  have ticked : s.Keeps { s with ncc := s.ncc.tick s.cfg.meter.intervalMin } :=
    .of_same rfl rfl rfl (fun _ none => none) rfl rfl rfl
  exact (Part.Keeps.ite _ ticked (ticked.trans (Part.asks_startScan _).follows.keeps)).trans
    (s.follows_recomputeDemand _).keeps

/-- The entry to SETUP keeps a sound plant sound, with the same loads UNREACHABLE (R27, R88). -/
theorem Part.applyMove_setup_sound {s : Part} (ok : s.Sound) :
    (s.applyMove .setup).1.Sound ∧
      ∀ k, ((s.applyMove .setup).1.load k).phase = .unreachable ↔ (s.load k).phase = .unreachable := by
  have cleared (u : Part) : u.clearHolds.loads = u.loads := by
    unfold Part.clearHolds
    split
    · rfl
    · rw [Part.chooseLamps_eq]; rfl
  have inUse (n : LoadId) : (s.tellMode .setup).clearHolds.inUse n = s.inUse n :=
    ((Part.modeWork_clearHolds _).inUse n).trans ((s.modeWork_tellMode _).inUse n)
  have record (n : LoadId) : (s.applyMove .setup).1.load n =
      if s.inUse n then
        { (s.tellMode .setup).load n with
          phase := if ((s.tellMode .setup).load n).phase = .unreachable then .unreachable else .localRun
          stopPending := false, heldEnqueue := none
          changed := ((s.tellMode .setup).load n).changed ||
            (((s.tellMode .setup).load n).phase != .unreachable && ((s.tellMode .setup).load n).phase != .localRun) }
      else (s.tellMode .setup).load n := by
    have load : (s.tellMode .setup).clearHolds.load n = (s.tellMode .setup).load n := by
      rw [Part.load, cleared]; rfl
    refine (tabulate_getElem _ n.val n.isLt).trans ?_
    rw [← inUse, ← load]
  have mode : (s.applyMove .setup).1.mode = .setup := by
    show (s.tellMode .setup).clearHolds.mode = .setup
    have : (s.tellMode .setup).clearHolds.ncc = (s.tellMode .setup).ncc := by
      unfold Part.clearHolds
      split
      · rfl
      · rw [Part.chooseLamps_eq]; rfl
    have told : (s.tellMode .setup).mode = (s.setMode .setup).mode := s.tellMode_mode _
    unfold Part.mode at told ⊢
    rw [this, told]
    rfl
  have told (n : LoadId) : ((s.tellMode .setup).load n).phase = .unreachable ↔ (s.load n).phase = .unreachable := by
    rw [Part.tellMode_load]
    split
    · next moves =>
      have runs := (Bool.and_eq_true_iff.1 moves).1
      constructor <;> intro h
      · cases h
      · rw [h] at runs; cases runs
    · rfl
  have used (n : LoadId) : (s.applyMove .setup).1.inUse n = s.inUse n := (s.modeWork_applyMove _).inUse n
  have queue : (s.applyMove .setup).1.queuedLoads = [] := rfl
  have starting (n : LoadId) : (s.applyMove .setup).1.dgv.startingOrigin[n] = none := Vector.getElem_replicate n.isLt
  refine ⟨⟨fun n => ?_, by rw [queue]; exact .nil, .nil⟩, fun n => ?_⟩
  · have sound := ok.loads n
    rw [record, used, queue, starting, mode]
    split
    · next inUse =>
      dsimp only
      by_cases lost : ((s.tellMode .setup).load n).phase = .unreachable
      · rw [if_pos lost]
        exact ⟨by simp [inUse], by simp, nofun, nofun, by simp, nofun, nofun, fun _ => ⟨.inr (.inr rfl), rfl, rfl⟩⟩
      · rw [if_neg lost]
        exact ⟨by simp [inUse], by simp, nofun, nofun, by simp, nofun, fun _ => rfl, fun _ => ⟨.inr (.inl rfl), rfl, rfl⟩⟩
    · next out =>
      have unused : (s.load n).phase = .unused := sound.unused.2 (by simpa using out)
      have same : (s.tellMode .setup).load n = s.load n := by
        rw [Part.tellMode_load, if_neg (by simp [unused, LoadPhase.running])]
      have calm := sound.calm (by rw [unused]; rfl)
      have free := sound.free (by rw [unused]; rfl) (by rw [unused]; nofun)
      rw [same]
      refine ⟨by simp [unused, out], by simp [unused], by simp [calm], by simp [free], by simp [unused],
        by simp [unused], by simp [unused, LoadPhase.running], fun _ => ⟨.inl unused, calm, free⟩⟩
  · rw [record, ← told]
    split
    · dsimp only
      split
      · next h => simp [h]
      · next h => simp [h]
    · rfl

end Sys2Proof.Machine
end

section
/-! What the field link leaves of a sound plant: a station's loads are UNREACHABLE exactly while it is OFFLINE, its
record is sound, and in HALT every polled station is OFFLINE (R45, R46, R132, R134 to R145). -/

namespace Sys2Proof.Machine

/-! ## The parts of a sound plant -/

/-- The in-use loads of OFFLINE stations are the UNREACHABLE ones (R45). -/
def Part.Linked (s : Part) : Prop :=
  ∀ n, s.inUse n = true → ((s.load n).phase = .unreachable ↔ (s.station (stationOf n)).grade = .offline)

/-- The loads and the stations' records are sound together, whatever the link does (R132, R138 to R141). -/
structure Part.Joined (s : Part) : Prop where
  sound : s.Sound
  linked : s.Linked
  grades : ∀ k : StationId, (s.station k).ok
  unpolled : ∀ k : StationId, s.polled k = false → (s.station k).grade = .online ∧ (s.station k).err = 0
  holds : s.mode = .setup → s.holds = []

/-- A transaction in flight is with a polled station; in HALT no poll is in flight or to come, and every polled station
is OFFLINE (R132, R145). -/
structure Part.LinkOk (s : Part) : Prop where
  polled : ∀ t ∈ s.flm.inFlight.toList, s.polled t.station = true
  halted : s.flm.link = .halt → s.flm.inFlight = none ∧ s.flm.toPoll = [] ∧
    ∀ k : StationId, s.polled k = true → (s.station k).grade = .offline

theorem Part.plantOk_iff (s : Part) : s.PlantOk ↔ s.Joined ∧ s.LinkOk := by
  rw [Part.PlantOk, s.loadsOk_iff]
  constructor
  · rintro ⟨⟨sound, linked⟩, ⟨ok, unpolled, polled, halted⟩, holds⟩
    exact ⟨⟨sound, linked, ok, unpolled, holds⟩, ⟨polled, halted⟩⟩
  · rintro ⟨joined, link⟩
    exact ⟨⟨joined.sound, joined.linked⟩, ⟨joined.grades, joined.unpolled, link.polled, link.halted⟩, joined.holds⟩

theorem Part.PlantOk.joined {s : Part} (h : s.PlantOk) : s.Joined := (s.plantOk_iff.1 h).1

theorem Part.PlantOk.linkOk {s : Part} (h : s.PlantOk) : s.LinkOk := (s.plantOk_iff.1 h).2

theorem Part.Joined.plantOk {s : Part} (h : s.Joined) (link : s.LinkOk) : s.PlantOk := s.plantOk_iff.2 ⟨h, link⟩

/-- What the link's soundness reads is the records in use and the link itself. -/
theorem Part.LinkOk.congr {s t : Part} (h : s.LinkOk) (flm : t.flm = s.flm) (polled : ∀ k, t.polled k = s.polled k) :
    t.LinkOk := by
  refine ⟨fun x sent => ?_, fun halt => ?_⟩
  · rw [polled]; exact h.polled x (flm ▸ sent)
  · obtain ⟨flight, toPoll, offline⟩ := h.halted (flm ▸ halt)
    refine ⟨flm ▸ flight, flm ▸ toPoll, fun k listed => ?_⟩
    rw [Part.station, flm]
    exact offline k (polled k ▸ listed)

theorem Part.Keeps.station {s t : Part} (h : s.Keeps t) (k : StationId) : t.station k = s.station k := by
  rw [Part.station, h.flm]; rfl

theorem Part.Keeps.polled {s t : Part} (h : s.Keeps t) (k : StationId) : t.polled k = s.polled k :=
  Part.polled_of_records h.records k

theorem Part.Keeps.inUse {s t : Part} (h : s.Keeps t) (n : LoadId) : t.inUse n = s.inUse n := by
  rw [Part.inUse, Part.config, h.records]; rfl

theorem Part.Keeps.linkOk {s t : Part} (h : s.Keeps t) (ok : s.LinkOk) : t.LinkOk := ok.congr h.flm h.polled

theorem Part.Keeps.joined {s t : Part} (h : s.Keeps t) (ok : s.Joined) : t.Joined := by
  obtain ⟨sound, lost⟩ := h.plant ok.sound
  refine ⟨sound, fun n used => ?_, fun k => ?_, fun k => ?_, fun setup => h.holds setup (ok.holds (h.setup setup))⟩
  · rw [lost, h.station]; exact ok.linked n (h.inUse n ▸ used)
  · rw [h.station]; exact ok.grades k
  · rw [h.station, h.polled]; exact ok.unpolled k

theorem Part.Keeps.plantOk {s t : Part} (h : s.Keeps t) (ok : s.PlantOk) : t.PlantOk :=
  (h.joined ok.joined).plantOk (h.linkOk ok.linkOk)

/-! ## Stations' records -/

theorem Part.setStation_ne (s : Part) {k j : StationId} (r : Station) (other : j ≠ k) :
    (s.setStation k r).station j = s.station j := by
  rw [Part.setStation_station, if_neg other]

theorem Part.setStation_polled (s : Part) (k j : StationId) (r : Station) : (s.setStation k r).polled j = s.polled j :=
  Part.polled_of_records rfl j

theorem Part.Sound.setStation {s : Part} (h : s.Sound) (k : StationId) (r : Station) : (s.setStation k r).Sound :=
  h.congr (fun _ => rfl) (fun _ => rfl) rfl h.keys rfl rfl

/-- A polled station's record is replaced by a sound one of the same grade, OFFLINE or not. -/
theorem Part.Joined.setStation {s : Part} (h : s.Joined) {k : StationId} {r : Station} (ok : r.ok)
    (polled : s.polled k = true) (same : r.grade = .offline ↔ (s.station k).grade = .offline) :
    (s.setStation k r).Joined := by
  refine ⟨h.sound.setStation k r, fun n used => ?_, fun j => ?_, fun j => ?_, h.holds⟩ <;> rw [Part.setStation_station]
  · rw [Part.setStation_load]
    split
    · next here => rw [same, ← here]; exact h.linked n used
    · exact h.linked n used
  · split
    · exact ok
    · exact h.grades j
  · rw [Part.setStation_polled]
    split
    · next same => rw [same, polled]; nofun
    · exact h.unpolled j

/-- A station's record set, an OFFLINE one's in HALT to one OFFLINE still. -/
theorem Part.LinkOk.setStation {s : Part} (h : s.LinkOk) {k : StationId} {r : Station}
    (halted : s.flm.link = .halt → r.grade = .offline) : (s.setStation k r).LinkOk := by
  refine ⟨fun x sent => ?_, fun halt => ?_⟩
  · rw [Part.setStation_polled]; exact h.polled x sent
  · obtain ⟨flight, toPoll, offline⟩ := h.halted halt
    refine ⟨flight, toPoll, fun j listed => ?_⟩
    rw [Part.setStation_station]
    split
    · exact halted halt
    · exact offline j (s.setStation_polled k j r ▸ listed)

/-! ## Loss of a station's loads (R45) -/

/-- A load's record as UNREACHABLE leaves it (R45). -/
def LoadRecord.lost (r : LoadRecord) : LoadRecord :=
  { r with
    phase := .unreachable, filterCount := 0, activityCount := 0, activityWindow := none, stopPending := false
    heldEnqueue := none, changed := true }

/-- A load UNREACHABLE, its entry and its starting origin gone, and no entry's orphans settled yet (R45). -/
def Part.lostLoad (s : Part) (n : LoadId) : Part :=
  let u := (s.moveLoad n (s.load n).lost).setStartingOrigin n none
  if (s.load n).phase = .queued then (u.removeEntry n).setPhase n .unreachable else u

theorem Part.lostLoad_load (s : Part) (n k : LoadId) :
    (s.lostLoad n).load k = if k = n then (s.load n).lost else s.load k := by
  have moved : ((s.moveLoad n (s.load n).lost).setStartingOrigin n none).load k =
      if k = n then (s.load n).lost else s.load k := by
    rw [Part.setStartingOrigin_load, Part.moveLoad_load]
  unfold Part.lostLoad
  dsimp only
  split
  · rw [Part.setPhase_load]
    split
    · rw [Part.removeEntry_load, Part.setStartingOrigin_load, Part.moveLoad_load_self]; rfl
    · next other => exact moved.trans (if_neg other)
  · exact moved

theorem Part.loadWork_lostLoad (s : Part) (n : LoadId) : s.LoadWork (s.lostLoad n) := by
  have moved := (s.loadWork_moveLoad n (s.load n).lost).trans (Part.loadWork_setStartingOrigin _ n none)
  exact .ite _ ((moved.trans (Part.loadWork_removeEntry _ n)).trans (Part.loadWork_setPhase _ n _)) moved

theorem Part.asks_loseLoad (s : Part) (n : LoadId) : (s.lostLoad n).Asks (s.loseLoad n) := by
  have raised (u : Part) : u.Asks (Part.settleOrphans 64 (u.raise (.startFailed n .unreachable)) [n]) :=
    (u.asks_raise n _).trans (Part.asks_settleOrphans _ _ _)
  unfold Part.lostLoad Part.loseLoad
  dsimp only
  split
  · exact raised _
  · exact .refl _

theorem Part.mem_lostLoad {s : Part} {n k : LoadId} :
    k ∈ (s.lostLoad n).queuedLoads ↔ k ∈ s.queuedLoads ∧ ((s.load n).phase = .queued → k ≠ n) := by
  unfold Part.lostLoad
  dsimp only
  split
  · next queued => exact Part.mem_removeEntry.trans (and_congr_right fun _ => ⟨fun h _ => h, fun h => h queued⟩)
  · next up => exact (and_iff_left fun queued => absurd queued up).symm

theorem Part.lostLoad_origin (s : Part) (n : LoadId) :
    (s.lostLoad n).dgv.startingOrigin = s.dgv.startingOrigin.set n none := by
  unfold Part.lostLoad
  dsimp only
  split <;> rfl

/-- The loss of a load keeps a sound plant sound, the load UNREACHABLE besides those that were. -/
theorem Part.loseLoad_sound {s : Part} {n : LoadId} (ok : s.Sound) (used : s.inUse n = true) :
    (s.loseLoad n).Sound ∧
      ∀ k, ((s.loseLoad n).load k).phase = .unreachable ↔ k = n ∨ (s.load k).phase = .unreachable := by
  have work := s.loadWork_lostLoad n
  have self : (s.lostLoad n).load n = (s.load n).lost := (s.lostLoad_load n n).trans (if_pos rfl)
  have queue : (s.lostLoad n).dgv.queue.Sublist s.dgv.queue := by
    unfold Part.lostLoad
    dsimp only
    split
    · exact List.filter_sublist
    · exact List.Sublist.refl _
  have sound : (s.lostLoad n).Sound := by
    refine ok.update n (fun k other => ⟨?_, ?_, ?_⟩) ?_ work.inUse work.mode ?_ (ok.keys.sublist queue)
    · rw [Part.lostLoad_load, if_neg other]
    · rw [Part.mem_lostLoad]; simp [other]
    · simp only [Part.lostLoad_origin]
      exact Vector.getElem_set_ne n.isLt k.isLt fun same => other (Fin.ext same.symm)
    · have origin : (s.lostLoad n).dgv.startingOrigin[n] = none := by
        simp only [Part.lostLoad_origin]
        exact Vector.getElem_set_self _
      rw [self, origin]
      have out : n ∉ (s.lostLoad n).queuedLoads := fun listed => by
        obtain ⟨listed, away⟩ := Part.mem_lostLoad.1 listed
        exact away ((ok.queued n).2 listed) rfl
      exact ⟨by simp [LoadRecord.lost, used], by simp [LoadRecord.lost, out], nofun, nofun, by simp [LoadRecord.lost],
        nofun, nofun, fun _ => ⟨.inr (.inr rfl), rfl, rfl⟩⟩
    · exact ok.once.sublist (queue.map Entry.load)
  have asks := s.asks_loseLoad n
  refine ⟨asks.sound sound, fun k => ?_⟩
  rw [asks.follows.unreachable sound, Part.lostLoad_load]
  split
  · next same => simp [same, LoadRecord.lost]
  · next other => simp [other]

/-- The loads of a list become UNREACHABLE one after the other. -/
theorem Part.loseList_sound (ns : List LoadId) {s : Part} (ok : s.Sound) (used : ∀ n ∈ ns, s.inUse n = true) :
    (ns.foldl Part.loseLoad s).Sound ∧
      ∀ k, ((ns.foldl Part.loseLoad s).load k).phase = .unreachable ↔ k ∈ ns ∨ (s.load k).phase = .unreachable := by
  induction ns generalizing s with
  | nil => exact ⟨ok, fun k => by simp⟩
  | cons n ns ih =>
    obtain ⟨sound, lost⟩ := Part.loseLoad_sound ok (used n List.mem_cons_self)
    obtain ⟨sound, rest⟩ := ih sound fun m listed =>
      ((s.loadWork_loseLoad n).inUse m).trans (used m (List.mem_cons_of_mem n listed))
    refine ⟨sound, fun k => (rest k).trans ?_⟩
    rw [lost, List.mem_cons]
    tauto

theorem mem_slotsOf {k : StationId} {n : LoadId} : n ∈ slotsOf k ↔ stationOf n = k := by
  simp only [slotsOf, List.mem_map, List.mem_finRange, true_and, slotOf, stationOf, Fin.ext_iff]
  constructor
  · rintro ⟨c, slot⟩
    omega
  · intro station
    exact ⟨channelOf n, by simp only [channelOf]; omega⟩

theorem Part.polled_of_inUse {s : Part} {n : LoadId} (used : s.inUse n = true) : s.polled (stationOf n) = true :=
  List.any_eq_true.2 ⟨n, mem_slotsOf.2 rfl, used⟩

theorem Part.loseLoads_sound {s : Part} (ok : s.Sound) (k : StationId) :
    (s.loseLoads k).Sound ∧ ∀ n, ((s.loseLoads k).load n).phase = .unreachable ↔
      (stationOf n = k ∧ s.inUse n = true) ∨ (s.load n).phase = .unreachable := by
  obtain ⟨sound, lost⟩ := Part.loseList_sound ((slotsOf k).filter s.inUse) ok fun n listed => (List.mem_filter.1 listed).2
  have reviewed := Part.Asks.foldl _ Part.asks_afterLoss ((slotsOf k).filter s.inUse)
    (((slotsOf k).filter s.inUse).foldl Part.loseLoad s)
  refine ⟨reviewed.sound sound, fun n => ?_⟩
  unfold Part.loseLoads
  rw [reviewed.follows.unreachable sound, lost, List.mem_filter, mem_slotsOf]

end Sys2Proof.Machine
end

section
/-! What failures, good replies, halts and polls leave of a sound plant (R45, R46, R132, R134 to R145). -/

namespace Sys2Proof.Machine

theorem Part.LoadWork.linkOk {s t : Part} (h : s.LoadWork t) (ok : s.LinkOk) : t.LinkOk :=
  ok.congr h.flm fun k => Part.polled_of_records (by rw [h.cfg]) k

/-- A station that comes to OFFLINE, its record set and its loads lost (R139, R145). -/
theorem Part.Joined.goesOffline {s : Part} (h : s.Joined) {k : StationId} {r : Station} (ok : r.ok)
    (polled : s.polled k = true) (offline : r.grade = .offline) (d : Detail) :
    (((s.setStation k r).raise d).loseLoads k).Joined := by
  have base : ((s.setStation k r).raise d).Sound := (Part.keeps_raise _ d).sound (h.sound.setStation k r)
  have work := Part.loadWork_loseLoads ((s.setStation k r).raise d) k
  have record (j : StationId) : (((s.setStation k r).raise d).loseLoads k).station j = if j = k then r else s.station j :=
    (work.station j).trans (s.setStation_station k j r)
  obtain ⟨sound, lost⟩ := Part.loseLoads_sound base k
  refine ⟨sound, fun n used => ?_, fun j => ?_, fun j unpolled => ?_, fun setup => ?_⟩
  · have inUse : s.inUse n = true := (work.inUse n).symm.trans used
    rw [lost, record]
    split
    · next here => exact iff_of_true (.inl ⟨here, inUse⟩) offline
    · next away => simpa [away] using h.linked n inUse
  · rw [record]
    split
    · exact ok
    · exact h.grades j
  · have out : s.polled j = false := (Part.polled_of_records (by rw [work.cfg]; rfl) j).symm.trans unpolled
    rw [record, if_neg fun same => by rw [same, polled] at out; cases out]
    exact h.unpolled j out
  · rw [work.holds]
    exact h.holds (work.mode ▸ setup)

theorem Part.PlantOk.setStation {s : Part} (h : s.PlantOk) {k : StationId} {r : Station} (ok : r.ok)
    (polled : s.polled k = true) (same : r.grade = .offline ↔ (s.station k).grade = .offline) :
    (s.setStation k r).PlantOk :=
  (h.joined.setStation ok polled same).plantOk
    (h.linkOk.setStation fun halt => same.2 ((h.linkOk.halted halt).2.2 k polled))

/-! ## Failures (R137 to R139, R143) -/

theorem Station.afterFailure_ok {r : Station} (h : r.ok) : r.afterFailure.ok := by
  obtain ⟨grade, err⟩ := r
  simp only [Station.ok, Config.errMax, Config.errSuspect, Config.errClear, Config.recoverRun, Config.probeGap] at h
  unfold Station.afterFailure Station.failed
  simp only [Station.ok, Config.errMax, Config.errSuspect, Config.errClear, Config.recoverRun, Config.probeGap,
    Config.errStep]
  cases grade with
  | offline => simp_all
  | online => simp at h ⊢; split_ifs <;> simp_all <;> omega
  | suspect => simp at h ⊢; (split_ifs <;> simp_all); omega

theorem Station.afterFailure_offline {r : Station} (offline : r.grade = .offline) : r.afterFailure.grade = .offline := by
  simp [Station.afterFailure, offline]

theorem Part.failPoll_plantOk {s : Part} (h : s.PlantOk) {k : StationId} (polled : s.polled k = true) :
    (s.failPoll k).PlantOk := by
  have ok := Station.afterFailure_ok (h.joined.grades k)
  have asleep := Station.afterFailure_offline (r := s.station k)
  unfold Part.failPoll
  dsimp only
  by_cases lost : (s.station k).afterFailure.grade = .offline ∧ (s.station k).grade ≠ .offline
  · have moved : (s.station k).afterFailure.grade ≠ (s.station k).grade := fun same => lost.2 (same ▸ lost.1)
    rw [if_pos (by simpa using lost), if_neg moved]
    exact (h.joined.goesOffline ok polled lost.1 _).plantOk ((Part.loadWork_loseLoads _ k).linkOk
      ((Part.keeps_raise _ _).linkOk (h.linkOk.setStation fun _ => lost.1)))
  · rw [if_neg (by simpa using lost)]
    have set := h.setStation ok polled ⟨fun now => by by_contra before; exact lost ⟨now, before⟩, asleep⟩
    split
    · exact set
    · exact (Part.keeps_raise _ _).plantOk set

/-! ## Good replies (R46, R137, R140, R141) -/

theorem Station.afterGood_ok {r : Station} (h : r.ok) (auto : Bool) : (r.afterGood auto).ok := by
  obtain ⟨grade, err⟩ := r
  simp only [Station.ok, Config.errMax, Config.errSuspect, Config.errClear, Config.recoverRun, Config.probeGap] at h
  unfold Station.afterGood
  simp only [Station.ok, Config.errMax, Config.errSuspect, Config.errClear, Config.recoverRun, Config.probeGap]
  cases grade with
  | online => simp_all; omega
  | suspect =>
    by_cases clear : err - 1 < 64
    · simp [clear] at h ⊢; simp [h]; omega
    · simp [clear] at h ⊢; simp [h]; omega
  | offline => simp at h ⊢; (split_ifs <;> simp_all); omega

theorem Station.afterGood_awake {r : Station} (awake : r.grade ≠ .offline) (auto : Bool) :
    (r.afterGood auto).grade ≠ .offline := by
  unfold Station.afterGood
  cases grade : r.grade
  · nofun
  · dsimp only; split <;> nofun
  · exact absurd grade awake

/-- Activity qualified changes the activity alone (R23, R24). -/
theorem LoadRecord.qualifyActivity_frame (r : LoadRecord) (c : LoadConfig) (now : Nat) (v : Reading) :
    r.qualifyActivity c now v = { r with
      activityCount := (r.qualifyActivity c now v).activityCount
      activityWindow := (r.qualifyActivity c now v).activityWindow
      lastActivity := (r.qualifyActivity c now v).lastActivity } := by
  unfold LoadRecord.qualifyActivity LoadRecord.qualifyPulse LoadRecord.qualifyLevel
  dsimp only
  split
  · split_ifs <;> rfl
  · rfl

/-- A load's record as a reply returns it from UNREACHABLE, its activity yet to be qualified (R46). -/
def LoadRecord.returned (r : LoadRecord) (mode : Mode) (now : Nat) (v : Reading) : LoadRecord :=
  { r with
    phase := runningPhase mode, feedback := v.feedback, filterCount := 0, lastActivity := now, changed := true }

/-- The return of an UNREACHABLE load up to the application of R34. -/
def Part.backLoad (s : Part) (n : LoadId) (v : Reading) : Part :=
  s.moveLoad n (((s.load n).returned s.mode s.now v).qualifyActivity (s.config n) s.now v)

theorem Part.returnLoad_eq (s : Part) (n : LoadId) (v : Reading) :
    s.returnLoad n v =
      if 0 < s.offCount n then (s.reportChange (s.backLoad n v) n).keepOffStop n
      else s.reportChange (s.backLoad n v) n := by
  have count : (s.reportChange (s.backLoad n v) n).offCount n = s.offCount n := by
    rw [Part.reportChange_offCount, Part.backLoad, Part.moveLoad_offCount]
  rw [← count]
  rfl

theorem Part.returnLoad_sound {s : Part} {n : LoadId} (ok : s.Sound) (v : Reading)
    (unreachable : (s.load n).phase = .unreachable) (holds : s.mode = .setup → s.holds = []) :
    (s.returnLoad n v).Sound ∧
      ∀ k, ((s.returnLoad n v).load k).phase = .unreachable ↔ k ≠ n ∧ (s.load k).phase = .unreachable := by
  have frame := ((s.load n).returned s.mode s.now v).qualifyActivity_frame (s.config n) s.now v
  have runs := runningPhase_running s.mode
  have calm := (ok.loads n).calm (by rw [unreachable]; rfl)
  have free := (ok.loads n).free (by rw [unreachable]; rfl) (by rw [unreachable]; nofun)
  have load (k : LoadId) : (s.backLoad n v).load k = _ := s.moveLoad_load n k _
  have self : ((s.backLoad n v).load n).phase = runningPhase s.mode := by
    rw [load, if_pos rfl, frame]; rfl
  have back : (s.backLoad n v).Sound := by
    refine ok.update n (fun k other => ⟨?_, Iff.rfl, rfl⟩) ?_ (fun _ => rfl) rfl ok.once ok.keys
    · rw [load, if_neg other]
    · rw [load, if_pos rfl, frame]
      refine (ok.loads n).move (by rw [unreachable]; rfl) (LoadPhase.plain_of_running runs) (fun _ => runs) ?_
        (fun _ => rfl) fun setup => ⟨.inr (.inl ?_), calm, free⟩
      · simp [LoadRecord.returned, free]
      · simp [LoadRecord.returned, runningPhase, setup]
  have reported := s.follows_reportChange (s.backLoad n v) n
  have settled : (s.reportChange (s.backLoad n v) n).Keeps (s.returnLoad n v) := by
    rw [Part.returnLoad_eq]
    split
    · next covered =>
      refine Part.keeps_keepOffStop n fun setup => ?_
      have none := holds ((Part.reportChange_mode s (s.backLoad n v) n).symm.trans setup)
      rw [Part.offCount, none] at covered
      cases covered
    · exact .refl _
  obtain ⟨sound, same⟩ := (reported.keeps.trans settled).plant back
  refine ⟨sound, fun k => (same k).trans ?_⟩
  by_cases here : k = n
  · subst here
    rw [self]
    simp only [ne_eq, not_true_eq_false, false_and, iff_false]
    intro lost
    rw [lost] at runs; cases runs
  · rw [load, if_neg here]
    exact (and_iff_right here).symm

theorem Part.returnList_sound (v : LoadId → Reading) (ns : List LoadId) (once : ns.Nodup) {s : Part} (ok : s.Sound)
    (unreachable : ∀ n ∈ ns, (s.load n).phase = .unreachable) (holds : s.mode = .setup → s.holds = []) :
    (ns.foldl (fun s n => s.returnLoad n (v n)) s).Sound ∧
      ∀ k, ((ns.foldl (fun s n => s.returnLoad n (v n)) s).load k).phase = .unreachable ↔
        k ∉ ns ∧ (s.load k).phase = .unreachable := by
  induction ns generalizing s with
  | nil => exact ⟨ok, fun k => by simp⟩
  | cons n ns ih =>
    obtain ⟨out, once⟩ := List.nodup_cons.1 once
    obtain ⟨sound, back⟩ := Part.returnLoad_sound ok (v n) (unreachable n List.mem_cons_self) holds
    have work := s.loadWork_returnLoad n (v n)
    obtain ⟨sound, rest⟩ := ih once sound
      (fun m listed => (back m).2 ⟨fun same => out (same ▸ listed), unreachable m (List.mem_cons_of_mem n listed)⟩)
      fun setup => work.holds.trans (holds (work.mode ▸ setup))
    refine ⟨sound, fun k => (rest k).trans ?_⟩
    rw [back, List.mem_cons, not_or]
    tauto

theorem slotsOf_nodup (k : StationId) : (slotsOf k).Nodup := by
  refine List.Nodup.map (fun a b same => ?_) (List.nodup_finRange 4)
  simpa [slotOf, Fin.ext_iff] using same

/-- A station's record after stage 1 of a good reply (R137). -/
def Part.graded (s : Part) (k : StationId) (v : Vector Reading 4) : Station :=
  { (s.station k).afterGood (s.recoversAuto k) with lastGood := some s.now, lastReply := some v }

/-- A good reply's station record set, a change of its grade raised (R137, R143). -/
def Part.regraded (s : Part) (k : StationId) (v : Vector Reading 4) : Part :=
  if (s.graded k v).grade = (s.station k).grade then s.setStation k (s.graded k v)
  else (s.setStation k (s.graded k v)).raise (.station k)

/-- What stage 1 of a good reply does besides the station's record and STATION (R98, R137). -/
theorem Part.follows_gradeReply (s : Part) (k : StationId) (v : Vector Reading 4) :
    (s.regraded k v).Follows (s.gradeReply k v) := by
  unfold Part.gradeReply
  dsimp only
  refine Part.Follows.trans ?_ (Part.follows_recheck _ _)
  exact .ite _ (Part.asks_startScan _).follows (.refl _)

theorem Part.keeps_gradeReply (s : Part) (k : StationId) (v : Vector Reading 4) :
    (s.setStation k (s.graded k v)).Keeps (s.gradeReply k v) :=
  (Part.Keeps.ite _ (.refl _) (Part.keeps_raise _ _)).trans (s.follows_gradeReply k v).keeps

theorem Part.graded_ok {s : Part} {k : StationId} (h : (s.station k).ok) (v : Vector Reading 4) : (s.graded k v).ok :=
  Station.afterGood_ok h (s.recoversAuto k)

theorem Part.gradeReply_station (s : Part) (k j : StationId) (v : Vector Reading 4) :
    (s.gradeReply k v).station j = if j = k then s.graded k v else s.station j :=
  ((s.keeps_gradeReply k v).station j).trans (s.setStation_station k j _)

/-- An OFFLINE station after a good reply is OFFLINE still or ONLINE (R141). -/
theorem Station.afterGood_offline {r : Station} (offline : r.grade = .offline) (auto : Bool) :
    (r.afterGood auto).grade = .online ∨ (r.afterGood auto).grade = .offline := by
  unfold Station.afterGood
  rw [offline]
  dsimp only
  split
  · split
    · exact .inl rfl
    · exact .inr rfl
  · exact .inr offline

/-- The loads of a station that has come back ONLINE return (R46). -/
theorem Part.returnLoads_linked {s : Part} {k : StationId} (ok : s.Sound) (holds : s.mode = .setup → s.holds = [])
    (others : ∀ n, stationOf n ≠ k → s.inUse n = true →
      ((s.load n).phase = .unreachable ↔ (s.station (stationOf n)).grade = .offline))
    (back : (s.station k).grade ≠ .offline) (v : Vector Reading 4) :
    (s.returnLoads k v).Sound ∧ (s.returnLoads k v).Linked := by
  have work := s.loadWork_returnLoads k v
  obtain ⟨sound, returned⟩ := Part.returnList_sound (fun n => v[channelOf n])
    ((slotsOf k).filter fun n => s.inUse n && (s.load n).phase = .unreachable)
    ((slotsOf_nodup k).filter _) ok (fun n listed => by
      have := (List.mem_filter.1 listed).2
      simp only [Bool.and_eq_true, decide_eq_true_eq] at this
      exact this.2) holds
  refine ⟨sound, fun n inUse => ?_⟩
  have used : s.inUse n = true := (work.inUse n).symm.trans inUse
  rw [work.station]
  refine (returned n).trans ?_
  rw [List.mem_filter, mem_slotsOf]
  by_cases here : stationOf n = k
  · simp [here, used, back]
  · simpa [here] using others n here used

theorem Part.useReply_plantOk {s : Part} (h : s.PlantOk) {k : StationId} (polled : s.polled k = true)
    (run : s.flm.link ≠ .halt) (v : Vector Reading 4) : ((s.gradeReply k v).useReply k (s.station k) v).PlantOk := by
  have joined := h.joined
  have okay := Part.graded_ok (joined.grades k) v
  have graded := s.keeps_gradeReply k v
  have record := (s.gradeReply_station k k v).trans (if_pos rfl)
  unfold Part.useReply
  by_cases offline : (s.station k).grade = .offline
  · rw [if_pos offline]
    by_cases online : ((s.gradeReply k v).station k).grade = .online
    · rw [if_pos online]
      obtain ⟨base, same⟩ := graded.plant (joined.sound.setStation k _)
      have work := (s.gradeReply k v).loadWork_returnLoads k v
      have holds (setup : (s.gradeReply k v).mode = .setup) : (s.gradeReply k v).holds = [] :=
        graded.holds setup (joined.holds (graded.setup setup))
      obtain ⟨sound, linked⟩ := Part.returnLoads_linked base holds (fun n away used => by
        rw [same, Part.gradeReply_station, if_neg away]
        exact joined.linked n ((graded.inUse n).symm.trans used)) (by rw [online]; nofun) v
      have link := work.linkOk (graded.linkOk (h.linkOk.setStation fun halt => absurd halt run))
      refine Part.Joined.plantOk ⟨sound, linked, fun j => ?_, fun j unpolled => ?_, fun setup => ?_⟩ link
      · rw [work.station, Part.gradeReply_station]
        split
        · exact okay
        · exact joined.grades j
      · have out : s.polled j = false :=
          (graded.polled j).symm.trans ((Part.polled_of_records (by rw [work.cfg]) j).symm.trans unpolled)
        rw [work.station, Part.gradeReply_station, if_neg fun same => by rw [same, polled] at out; cases out]
        exact joined.unpolled j out
      · exact work.holds.trans (holds (work.mode ▸ setup))
    · rw [if_neg online]
      have still := (Station.afterGood_offline offline (s.recoversAuto k)).resolve_left fun now =>
        online ((congrArg Station.grade record).trans now)
      exact graded.plantOk (h.setStation okay polled (iff_of_true still offline))
  · rw [if_neg offline]
    have awake := Station.afterGood_awake offline (s.recoversAuto k)
    have plant := graded.plantOk (h.setStation okay polled (iff_of_false awake offline))
    refine Part.Keeps.plantOk (Part.Keeps.trans ?_ (Part.keeps_qualifyReply _ k v)) plant
    split
    · exact .ite _ (Part.keeps_handSilence _ _ _) (.refl _)
    · exact .refl _

theorem Part.goodReply_plantOk {s : Part} (h : s.PlantOk) {k : StationId} (polled : s.polled k = true)
    (run : s.flm.link ≠ .halt) (v : Vector Reading 4) : (s.goodReply k v).PlantOk := by
  have used := Part.useReply_plantOk h polled run v
  have work := (s.gradeReply k v).loadWork_useReply k (s.station k) v
  have stays : ((s.gradeReply k v).useReply k (s.station k) v).polled k = true :=
    (Part.polled_of_records (by rw [work.cfg]) k).trans
      (((s.keeps_gradeReply k v).polled k).trans ((s.setStation_polled k k _).trans polled))
  obtain ⟨range, offline, online, suspect, good, awake, probe, -⟩ := used.joined.grades k
  exact used.setStation ⟨range, offline, online, suspect, good, awake, probe, Nat.zero_le _⟩ stays Iff.rfl

/-! ## Halt (R145) -/

/-- A station's record as LINK HALT leaves it (R145). -/
def Station.halted (r : Station) : Station :=
  { r with
    grade := .offline, err := Config.errMax, goodRun := 0, probeCount := 0, recoverArmed := false, forcedAuto := true }

theorem Station.halted_ok {r : Station} (h : r.ok) : r.halted.ok := by
  obtain ⟨-, -, -, -, -, -, -, missed⟩ := h
  exact ⟨Nat.le_refl _, iff_of_true rfl rfl, nofun, nofun, Nat.succ_pos 15, fun up => absurd rfl up, Nat.zero_le _,
    missed⟩

theorem Part.haltStation_joined {s : Part} (h : s.Joined) (k : StationId) : (s.haltStation k).Joined := by
  have okay := Station.halted_ok (h.grades k)
  unfold Part.haltStation
  split
  · next polled =>
    dsimp only
    split
    · next asleep => exact h.setStation okay polled (iff_of_true rfl asleep)
    · exact h.goesOffline okay polled rfl _
  · exact h

theorem Part.haltStation_station (s : Part) (k j : StationId) :
    (s.haltStation k).station j = if j = k ∧ s.polled k = true then (s.station k).halted else s.station j := by
  unfold Part.haltStation
  split
  · next polled =>
    have set : (s.setStation k (s.station k).halted).station j =
        if j = k ∧ s.polled k = true then (s.station k).halted else s.station j := by
      rw [Part.setStation_station]
      simp [polled]
    dsimp only
    split
    · exact set
    · exact ((Part.loadWork_loseLoads _ k).station j).trans set
  · next out => simp [out]

/-- LINK HALT changes of the link what it halts (R145). -/
theorem Part.haltStation_frame (s : Part) (k : StationId) :
    (s.haltStation k).cfg = s.cfg ∧ (s.haltStation k).flm.link = s.flm.link ∧
      (s.haltStation k).flm.inFlight = s.flm.inFlight ∧ (s.haltStation k).flm.toPoll = s.flm.toPoll := by
  unfold Part.haltStation
  split
  · dsimp only
    split
    · exact ⟨rfl, rfl, rfl, rfl⟩
    · have work := Part.loadWork_loseLoads ((s.setStation k (s.station k).halted).raise (.station k)) k
      exact ⟨work.cfg, (congrArg FieldLink.link work.flm).trans rfl, (congrArg FieldLink.inFlight work.flm).trans rfl,
        (congrArg FieldLink.toPoll work.flm).trans rfl⟩
  · exact ⟨rfl, rfl, rfl, rfl⟩

theorem Station.halted_halted (r : Station) : r.halted.halted = r.halted := rfl

/-- The stations of a list are halted one after the other. -/
theorem Part.haltList_station (ks : List StationId) (s : Part) (j : StationId) :
    (ks.foldl Part.haltStation s).station j =
      if j ∈ ks ∧ s.polled j = true then (s.station j).halted else s.station j := by
  induction ks generalizing s with
  | nil => simp
  | cons k ks ih =>
    have polled : (s.haltStation k).polled j = s.polled j := Part.polled_of_records (by rw [(s.haltStation_frame k).1]) j
    rw [List.foldl_cons, ih, polled, Part.haltStation_station]
    by_cases here : j = k
    · subst here
      by_cases listed : s.polled j = true <;> simp [listed, Station.halted_halted]
    · simp [here]

/-- The link in HALT, its stations yet to be taken OFFLINE (R145 step 1). -/
def Part.haltBegun (s : Part) : Part := { s with flm := { s.flm with link := .halt, toPoll := [], inFlight := none } }

theorem Part.haltLink_eq (s : Part) : s.haltLink = allStations.foldl Part.haltStation s.haltBegun := rfl

theorem Part.haltLink_frame (s : Part) :
    s.haltLink.cfg = s.cfg ∧ s.haltLink.flm.link = .halt ∧ s.haltLink.flm.inFlight = none ∧ s.haltLink.flm.toPoll = [] := by
  have fold (ks : List StationId) (u : Part) : (ks.foldl Part.haltStation u).cfg = u.cfg ∧
      (ks.foldl Part.haltStation u).flm.link = u.flm.link ∧
      (ks.foldl Part.haltStation u).flm.inFlight = u.flm.inFlight ∧
      (ks.foldl Part.haltStation u).flm.toPoll = u.flm.toPoll := by
    induction ks generalizing u with
    | nil => exact ⟨rfl, rfl, rfl, rfl⟩
    | cons k ks ih =>
      obtain ⟨cfg, link, flight, toPoll⟩ := ih (u.haltStation k)
      obtain ⟨cfg', link', flight', toPoll'⟩ := u.haltStation_frame k
      exact ⟨cfg.trans cfg', link.trans link', flight.trans flight', toPoll.trans toPoll'⟩
  rw [Part.haltLink_eq]
  exact fold allStations s.haltBegun

theorem Part.haltLink_station (s : Part) (k : StationId) :
    s.haltLink.station k = if s.polled k = true then (s.station k).halted else s.station k := by
  have listed : k ∈ allStations := List.mem_finRange k
  have polled : s.haltBegun.polled k = s.polled k := rfl
  rw [Part.haltLink_eq, Part.haltList_station]
  simp only [listed, true_and, polled]
  rfl

theorem Part.haltLink_plantOk {s : Part} (h : s.PlantOk) : s.haltLink.PlantOk := by
  have fold (ks : List StationId) {u : Part} (ok : u.Joined) : (ks.foldl Part.haltStation u).Joined := by
    induction ks generalizing u with
    | nil => exact ok
    | cons k ks ih => exact ih (Part.haltStation_joined ok k)
  have joined := h.joined
  have begun : s.haltBegun.Joined :=
    ⟨joined.sound.congr (fun _ => rfl) (fun _ => rfl) rfl joined.sound.keys rfl rfl, joined.linked, joined.grades,
      joined.unpolled, joined.holds⟩
  obtain ⟨cfg, -, flight, toPoll⟩ := s.haltLink_frame
  have halted : s.haltLink.Joined := by rw [Part.haltLink_eq]; exact fold allStations begun
  refine halted.plantOk ⟨fun x sent => ?_, fun _ => ⟨flight, toPoll, fun k listed => ?_⟩⟩
  · rw [flight] at sent
    cases sent
  · rw [Part.polled_of_records (s := s) (by rw [cfg])] at listed
    rw [Part.haltLink_station, if_pos listed]
    rfl

end Sys2Proof.Machine
end

section
/-! What polls, the polled set and resets leave of a sound plant (R4, R47, R48, R104, R132 to R136, R203). -/

namespace Sys2Proof.Machine

/-! ## Polls (R134 to R136) -/

/-- The link changes, the stations' records stay. -/
theorem Part.Joined.of_flm {s t : Part} (h : s.Joined) (rest : t = { s with flm := t.flm })
    (station : ∀ k, t.station k = s.station k) : t.Joined := by
  have load (n : LoadId) : t.load n = s.load n := by rw [rest]; rfl
  have inUse (n : LoadId) : t.inUse n = s.inUse n := by rw [rest]; rfl
  have mode : t.mode = s.mode := by rw [rest]; rfl
  refine ⟨h.sound.congr load inUse (by rw [rest]; rfl) (by rw [rest]; exact h.sound.keys) (by rw [rest]) mode,
    fun n used => ?_, fun k => ?_, fun k => ?_, fun setup => ?_⟩
  · rw [load, station]; exact h.linked n (inUse n ▸ used)
  · rw [station]; exact h.grades k
  · rw [station, show t.polled k = s.polled k from Part.polled_of_records (by rw [rest]) k]; exact h.unpolled k
  · rw [show t.holds = s.holds by rw [rest]]
    exact h.holds (mode ▸ setup)

/-- A station's record after a poll has been sent to it (R135, R136). -/
def Station.polled (r : Station) : Station :=
  { r with
    pollTag := r.pollTag + 1
    probeCount := if r.grade = .offline then Config.probeGap else r.probeCount }

theorem Station.polled_ok {r : Station} (h : r.ok) : r.polled.ok := by
  obtain ⟨range, offline, online, suspect, good, awake, probe, missed⟩ := h
  refine ⟨range, offline, online, suspect, good, awake, ?_, missed⟩
  unfold Station.polled
  dsimp only
  split
  · exact Nat.le_refl _
  · exact probe

theorem Part.sendPoll_station (s : Part) (k j : StationId) :
    (s.sendPoll k).station j = if j = k then (s.station k).polled else s.station j := by
  refine Eq.trans ?_ (s.setStation_station k j (s.station k).polled)
  unfold Part.sendPoll Station.polled
  simp only
  rfl

theorem Part.sendPoll_joined {s : Part} (h : s.Joined) {k : StationId} (polled : s.polled k = true) :
    (s.sendPoll k).Joined := by
  have set : (s.setStation k (s.station k).polled).Joined :=
    h.setStation (Station.polled_ok (h.grades k)) polled Iff.rfl
  refine set.of_flm rfl fun j => ?_
  rw [Part.sendPoll_station, Part.setStation_station]

/-- What the next poll is: none where no polled station is left in the cycle, and otherwise to the first of them (R132,
R134). -/
theorem Part.pollNext_cases (s : Part) :
    s.pollNext = { s with flm := { s.flm with toPoll := [], inFlight := none } } ∨
    ∃ k rest, s.polled k = true ∧ k ∈ s.flm.toPoll ∧
      s.pollNext = Part.sendPoll { s with flm := { s.flm with toPoll := rest, inFlight := none } } k := by
  unfold Part.pollNext
  split
  · exact .inl rfl
  · next k rest found =>
    have head := List.head_dropWhile_not (fun k => !s.polled k) (l := s.flm.toPoll) (by rw [found]; nofun)
    have listed : k ∈ s.flm.toPoll := (List.dropWhile_suffix _).subset (found ▸ List.mem_cons_self)
    exact .inr ⟨k, rest, by simpa [found] using head, listed, rfl⟩

theorem Part.pollNext_joined {s : Part} (h : s.Joined) : s.pollNext.Joined := by
  obtain ended | ⟨k, rest, polled, -, sent⟩ := s.pollNext_cases
  · rw [ended]; exact h.of_flm rfl fun _ => rfl
  · rw [sent]
    have begun := h.of_flm (t := { s with flm := { s.flm with toPoll := rest, inFlight := none } }) rfl fun _ => rfl
    exact Part.sendPoll_joined begun polled

/-- The next poll leaves the link sound, whatever transaction was in flight (R132, R145). -/
theorem Part.pollNext_linkOk {s : Part} (halted : s.flm.link = .halt → s.flm.toPoll = [] ∧
    ∀ k : StationId, s.polled k = true → (s.station k).grade = .offline) : s.pollNext.LinkOk := by
  obtain ended | ⟨k, rest, polled, listed, sent⟩ := s.pollNext_cases
  · rw [ended]
    exact ⟨nofun, fun halt => ⟨rfl, rfl, (halted halt).2⟩⟩
  · rw [sent]
    refine ⟨fun x flight => ?_, fun halt => ?_⟩
    · obtain rfl : _ = x := Option.some.inj (Option.mem_toList.1 flight)
      exact polled
    · have none := (halted halt).1
      rw [none] at listed
      cases listed

theorem Part.pollNext_plantOk {s : Part} (h : s.PlantOk) : s.pollNext.PlantOk :=
  (Part.pollNext_joined h.joined).plantOk (Part.pollNext_linkOk fun halt => (h.linkOk.halted halt).2)

/-- A station's record after a cycle has passed over it, where it does (R134). -/
def Part.passedOver (s : Part) (k : StationId) : Station :=
  if s.polled k && (s.station k).grade = .offline && 0 < (s.station k).probeCount then
    { s.station k with probeCount := (s.station k).probeCount - 1 }
  else s.station k

/-- The stations of a cycle listed, its first poll yet to be sent (R134). -/
def Part.cycleListed (s : Part) : Part :=
  { s with flm := { s.flm with
      toPoll := allStations.filter s.onList, inFlight := none, stations := tabulate s.passedOver } }

theorem Part.beginCycle_eq (s : Part) : s.beginCycle = s.cycleListed.pollNext := rfl

theorem Part.cycleListed_station (s : Part) (k : StationId) : s.cycleListed.station k = s.passedOver k :=
  tabulate_getElem s.passedOver k.val k.isLt

theorem Part.passedOver_eq (s : Part) (k : StationId) :
    s.passedOver k = s.station k ∨ s.passedOver k = { s.station k with probeCount := (s.station k).probeCount - 1 } := by
  unfold Part.passedOver
  split
  · exact .inr rfl
  · exact .inl rfl

theorem Part.passedOver_grade (s : Part) (k : StationId) : (s.passedOver k).grade = (s.station k).grade := by
  obtain same | fewer := s.passedOver_eq k
  · rw [same]
  · rw [fewer]

theorem Part.passedOver_err (s : Part) (k : StationId) : (s.passedOver k).err = (s.station k).err := by
  obtain same | fewer := s.passedOver_eq k
  · rw [same]
  · rw [fewer]

/-- A poll cycle begins in RUN (R134). -/
theorem Part.beginCycle_plantOk {s : Part} (h : s.Joined) (run : s.flm.link ≠ .halt) : s.beginCycle.PlantOk := by
  rw [Part.beginCycle_eq]
  refine Part.Joined.plantOk (Part.pollNext_joined ?_) (Part.pollNext_linkOk fun halt => absurd halt run)
  refine ⟨h.sound.congr (fun _ => rfl) (fun _ => rfl) rfl h.sound.keys rfl rfl, fun n used => ?_, fun k => ?_,
    fun k out => ?_, h.holds⟩ <;> rw [Part.cycleListed_station]
  · rw [Part.passedOver_grade]; exact h.linked n used
  · obtain same | fewer := s.passedOver_eq k
    · rw [same]; exact h.grades k
    · obtain ⟨range, offline, online, suspect, good, awake, probe, missed⟩ := h.grades k
      rw [fewer]
      exact ⟨range, offline, online, suspect, good, awake, (Nat.sub_le _ _).trans probe, missed⟩
  · rw [Part.passedOver_grade, Part.passedOver_err]
    exact h.unpolled k out

/-! ## The polled set (R132) -/

theorem Station.fresh_ok : Station.ok {} := by decide

theorem Station.absent_ok : Station.ok { grade := .offline, err := Config.errMax, forcedAuto := true } := by decide

theorem Part.repollStation_ok {s : Part} (ok : ∀ j, (s.station j).ok) (k : StationId) (was : Bool) (j : StationId) :
    ((s.repollStation k was).station j).ok := by
  have set {r : Station} (okay : r.ok) (j : StationId) : ((s.setStation k r).station j).ok := by
    rw [Part.setStation_station]
    split
    · exact okay
    · exact ok j
  unfold Part.repollStation
  split
  · exact ok j
  · split
    · dsimp only
      split
      · split
        · obtain ended | ⟨i, rest, -, -, sent⟩ := Part.pollNext_cases
            { s.setStation k {} with flm := { (s.setStation k {}).flm with
              toPoll := (s.setStation k {}).flm.toPoll.filter fun j => j != k } }
          · rw [ended]; exact set Station.fresh_ok j
          · rw [sent, Part.sendPoll_station]
            split
            · exact Station.polled_ok (set Station.fresh_ok i)
            · exact set Station.fresh_ok j
        · exact set Station.fresh_ok j
      · exact set Station.fresh_ok j
    · split
      · exact set Station.fresh_ok j
      · exact set Station.absent_ok j

/-- The link stays sound where one station's place in the polled set is computed again. -/
theorem Part.repollStation_linkOk {s : Part} {k : StationId} {was : Bool}
    (flight : ∀ x ∈ s.flm.inFlight.toList, if x.station = k then was = true else s.polled x.station = true)
    (halted : s.flm.link = .halt → s.flm.inFlight = none ∧ s.flm.toPoll = [] ∧
      ∀ j : StationId, (if j = k then was = true else s.polled j = true) → (s.station j).grade = .offline) :
    (s.repollStation k was).LinkOk := by
  unfold Part.repollStation
  split
  · next same =>
    have back (j : StationId) : (if j = k then was = true else s.polled j = true) ↔ s.polled j = true := by
      split
      · next here => rw [here, same]
      · rfl
    refine ⟨fun x sent => (back _).1 (flight x sent), fun halt => ?_⟩
    obtain ⟨none, empty, offline⟩ := halted halt
    exact ⟨none, empty, fun j polled => offline j ((back j).2 polled)⟩
  · next changed =>
    cases was with
    | true =>
      have out : s.polled k = false := by simpa using Ne.symm changed
      have dropped (halt : s.flm.link = .halt) : s.flm.toPoll.filter (fun j => j != k) = [] ∧
          ∀ j : StationId, s.polled j = true → ((s.setStation k {}).station j).grade = .offline := by
        obtain ⟨-, empty, offline⟩ := halted halt
        refine ⟨by rw [empty]; rfl, fun j polled => ?_⟩
        have away : j ≠ k := fun same => by rw [same, out] at polled; cases polled
        rw [Part.setStation_ne s _ away]
        exact offline j (by rw [if_neg away]; exact polled)
      have stays (sent : ∀ x ∈ s.flm.inFlight.toList, x.station ≠ k) :
          ({ s.setStation k {} with flm := { (s.setStation k {}).flm with
            toPoll := (s.setStation k {}).flm.toPoll.filter fun j => j != k } } : Part).LinkOk := by
        refine ⟨fun x flown => ?_, fun halt => ⟨(halted halt).1, dropped halt⟩⟩
        have := flight x flown
        rwa [if_neg (sent x flown)] at this
      simp only [if_true]
      split
      · next x found =>
        split
        · exact Part.pollNext_linkOk dropped
        · next away =>
          exact stays fun y flown => by
            rw [show s.flm.inFlight = some x from found] at flown
            obtain rfl : y = x := by simpa using flown
            exact away
      · next found =>
        exact stays fun y flown => by
          rw [show s.flm.inFlight = none from found] at flown
          cases flown
    | false =>
      have sent (x : Transaction) (flown : x ∈ s.flm.inFlight.toList) : s.polled x.station = true := by
        have := flight x flown
        split at this
        · cases this
        · exact this
      cases link : s.flm.link with
      | run => exact ⟨sent, fun halt => absurd (link.symm.trans halt) nofun⟩
      | halt =>
        obtain ⟨none, empty, offline⟩ := halted link
        refine ⟨sent, fun _ => ⟨none, empty, fun j polled => ?_⟩⟩
        show ((s.setStation k _).station j).grade = _
        rw [Part.setStation_station]
        split
        · rfl
        · next away => exact offline j (by rw [if_neg away]; exact polled)

/-! ## WRITE LOAD CONFIG and WRITE LINK (R4, R47, R133) -/

theorem Part.withConfig_inUse {s : Part} {n k : LoadId} {c : LoadConfig} (other : k ≠ n) :
    (s.withConfig n c).inUse k = s.inUse k :=
  congrArg LoadConfig.inUse (Vector.getElem_set_ne n.isLt k.isLt fun same => other (Fin.ext same.symm))

theorem Part.withConfig_polled_ne {s : Part} {n : LoadId} {c : LoadConfig} {k : StationId} (away : k ≠ stationOf n) :
    (s.withConfig n c).polled k = s.polled k := by
  rw [Bool.eq_iff_iff]
  simp only [Part.polled, Settings.polled, List.any_eq_true, mem_slotsOf]
  refine exists_congr fun m => and_congr_right fun here => ?_
  have other : m ≠ n := fun same => away (here.symm.trans (congrArg stationOf same))
  exact Bool.eq_iff_iff.1 (Part.withConfig_inUse other)

section
variable {s t : Part} {n : LoadId} {c : LoadConfig}

theorem Part.TakesLoad.inUse_self (h : s.TakesLoad t n c) : t.inUse n = c.inUse := by
  rw [Part.inUse, Part.config, h.rest]
  exact congrArg LoadConfig.inUse (s.withConfig_config n c)

theorem Part.TakesLoad.inUse_ne (h : s.TakesLoad t n c) {k : LoadId} (other : k ≠ n) : t.inUse k = s.inUse k := by
  rw [Part.inUse, Part.config, h.rest]
  exact Part.withConfig_inUse other

theorem Part.TakesLoad.mode (h : s.TakesLoad t n c) : t.mode = s.mode := by rw [h.rest]; rfl

theorem Part.TakesLoad.queuedLoads (h : s.TakesLoad t n c) : t.queuedLoads = s.queuedLoads := by rw [h.rest]; rfl

theorem Part.TakesLoad.polled (h : s.TakesLoad t n c) (k : StationId) : t.polled k = (s.withConfig n c).polled k :=
  Part.polled_of_records (by rw [h.rest]) k

theorem Part.TakesLoad.holds (h : s.TakesLoad t n c) : t.holds = s.holds := by rw [h.rest]

end

theorem Part.writeLoad_plantOk_of_keepsUse {s : Part} (h : s.PlantOk) {n : LoadId} {c : LoadConfig}
    (use : c.inUse = s.inUse n) : (s.writeLoad n c).PlantOk := by
  have joined := h.joined
  have sound := joined.sound
  have takes := s.takesLoad_writeLoad n c
  have record : ∃ count window, (s.writeLoad n c).load n =
      { s.load n with activityCount := count, activityWindow := window } ∧ (s.writeLoad n c).flm = s.flm := by
    by_cases activity : c.activityMode = (s.config n).activityMode
    · obtain ⟨load, flm⟩ := takes.same use activity
      exact ⟨_, _, load, flm⟩
    · obtain ⟨load, flm⟩ := takes.activity use activity
      exact ⟨_, _, load, flm⟩
  obtain ⟨count, window, record, flm⟩ := record
  have starting : (s.writeLoad n c).dgv.startingOrigin = s.dgv.startingOrigin := by
    by_cases activity : c.activityMode = (s.config n).activityMode
    · rw [Part.writeLoad_keepsActivity use activity]; rfl
    · rw [Part.writeLoad_changesActivity use activity]; rfl
  have polled (k : StationId) : (s.writeLoad n c).polled k = s.polled k :=
    (takes.polled k).trans (Part.withConfig_polled use k)
  have inUse (k : LoadId) : (s.writeLoad n c).inUse k = s.inUse k := by
    by_cases other : k = n
    · rw [other, takes.inUse_self, use]
    · exact takes.inUse_ne other
  have station (k : StationId) : (s.writeLoad n c).station k = s.station k := by rw [Part.station, flm]; rfl
  have phase (k : LoadId) : ((s.writeLoad n c).load k).phase = (s.load k).phase := by
    by_cases other : k = n
    · rw [other, record]
    · rw [takes.others k other]
  refine Part.Joined.plantOk ⟨?_, fun k used => ?_, fun k => ?_, fun k => ?_, fun now => ?_⟩ (h.linkOk.congr flm polled)
  · refine sound.update n (fun k other => ⟨takes.others k other, by rw [takes.queuedLoads], by rw [starting]⟩) ?_
      inUse takes.mode
      (takes.queuedLoads ▸ sound.once) (by rw [takes.rest]; exact sound.keys)
    rw [takes.queuedLoads, starting, record]
    exact (sound.loads n).congr rfl rfl rfl rfl
  · rw [phase, station]; exact joined.linked k (inUse k ▸ used)
  · rw [station]; exact joined.grades k
  · rw [station, polled]; exact joined.unpolled k
  · rw [takes.holds]; exact joined.holds (takes.mode ▸ now)

/-- A slot of a plant in SETUP comes into use, or goes out of it (R47, R132). -/
theorem Part.writeLoad_plantOk_of_changesUse {s : Part} (h : s.PlantOk) (setup : s.mode = .setup) {n : LoadId}
    {c : LoadConfig} (use : c.inUse ≠ s.inUse n) : (s.writeLoad n c).PlantOk := by
  have joined := h.joined
  have sound := joined.sound
  have takes := s.takesLoad_writeLoad n c
  have empty (k : LoadId) : k ∉ s.queuedLoads := fun queued => sound.mode_of_queued queued setup
  have repolls := (s.withConfig n c).repolls_repollStation (stationOf n) (s.polled (stationOf n))
  have link : ((s.withConfig n c).repollStation (stationOf n) (s.polled (stationOf n))).LinkOk := by
    refine Part.repollStation_linkOk (fun x flown => ?_) fun halt => ?_
    · have polled := h.linkOk.polled x flown
      split
      · next here => rw [← here]; exact polled
      · next away => rw [Part.withConfig_polled_ne away]; exact polled
    · obtain ⟨none, empty, offline⟩ := h.linkOk.halted halt
      refine ⟨none, empty, fun j polled => offline j ?_⟩
      split at polled
      · next here => rw [here]; exact polled
      · next away => rwa [Part.withConfig_polled_ne away] at polled
  have grades := Part.repollStation_ok (s := s.withConfig n c) joined.grades (stationOf n) (s.polled (stationOf n))
  have written := Part.writeLoad_changesUse (s := s) (n := n) (c := c) use
  have flm : (s.writeLoad n c).flm =
      ((s.withConfig n c).repollStation (stationOf n) (s.polled (stationOf n))).flm := by rw [written]; rfl
  have polledNe (k : StationId) (away : k ≠ stationOf n) : (s.writeLoad n c).polled k = s.polled k :=
    (takes.polled k).trans (Part.withConfig_polled_ne away)
  have station (k : StationId) : (s.writeLoad n c).station k =
      ((s.withConfig n c).repollStation (stationOf n) (s.polled (stationOf n))).station k := by
    rw [Part.station, flm]; rfl
  have stays (same : s.polled (stationOf n) = (s.withConfig n c).polled (stationOf n)) (k : StationId) :
      (s.writeLoad n c).station k = s.station k := by
    rw [station, repolls.same same]; rfl
  have record : (s.writeLoad n c).load n = { phase := if c.inUse = false then .unused
      else if ((s.writeLoad n c).station (stationOf n)).grade = .offline then .unreachable else .localRun } := by
    cases used : c.inUse with
    | false => exact takes.left used (by rw [used] at use; simpa using Ne.symm use)
    | true => exact takes.joined used (by rw [used] at use; simpa using Ne.symm use)
  have starting : (s.writeLoad n c).dgv.startingOrigin = s.dgv.startingOrigin.set n none := by
    rw [written]
    refine Eq.trans (b := ((s.withConfig n c).repollStation (stationOf n) (s.polled (stationOf n))).dgv.startingOrigin.set
      n none) rfl ?_
    rw [repolls.rest]
    rfl
  refine Part.Joined.plantOk ⟨?_, fun k used => ?_, fun k => ?_, fun k out => ?_, fun now => ?_⟩
    (link.congr flm fun k => (takes.polled k).trans (Part.polled_of_records (by rw [repolls.rest]) k).symm)
  · have self : ((s.writeLoad n c).load n).SoundIn c.inUse (n ∈ s.queuedLoads) none .setup := by
      rw [record]
      refine ⟨?_, ?_, nofun, nofun, ?_, ?_, ?_, fun _ => ⟨?_, rfl, rfl⟩⟩ <;> dsimp only
      · cases c.inUse <;> simp
        split <;> nofun
      · simp only [empty, iff_false]
        split_ifs <;> nofun
      · split_ifs <;> simp
      · split_ifs <;> nofun
      · split_ifs <;> simp [LoadPhase.running, runningPhase]
      · split_ifs <;> simp
    refine ⟨fun k => ?_, takes.queuedLoads ▸ sound.once, by rw [takes.rest]; exact sound.keys⟩
    rw [takes.queuedLoads, takes.mode, setup]
    simp only [starting]
    by_cases other : k = n
    · rw [other, takes.inUse_self,
        show (s.dgv.startingOrigin.set n none)[n] = none from Vector.getElem_set_self n.isLt]
      exact self
    · rw [takes.others k other, takes.inUse_ne other, show (s.dgv.startingOrigin.set n none)[k] = s.dgv.startingOrigin[k] from
        Vector.getElem_set_ne n.isLt k.isLt fun same => other (Fin.ext same.symm), ← setup]
      exact sound.loads k
  · by_cases other : k = n
    · rw [other] at used ⊢
      rw [record, if_neg (by rw [← takes.inUse_self, used]; nofun)]
      split
      · next offline => exact iff_of_true rfl offline
      · next awake => exact iff_of_false nofun awake
    · have inUse := (takes.inUse_ne other).symm.trans used
      rw [takes.others k other, joined.linked k inUse]
      by_cases here : stationOf k = stationOf n
      · have before : s.polled (stationOf n) = true := here ▸ Part.polled_of_inUse inUse
        have after : (s.withConfig n c).polled (stationOf n) = true :=
          here ▸ Part.polled_of_inUse ((Part.withConfig_inUse other).trans inUse)
        rw [stays (before.trans after.symm)]
      · rw [(takes.stations _ here).1]
  · rw [station]; exact grades k
  · by_cases here : k = stationOf n
    · subst here
      cases was : s.polled (stationOf n) with
      | true => rw [takes.stationLeft was out]; exact ⟨rfl, rfl⟩
      | false =>
        rw [stays (by rw [was, ← takes.polled, out])]
        exact joined.unpolled _ was
    · obtain ⟨grade, err⟩ := takes.stations k here
      rw [grade, err]
      exact joined.unpolled k (polledNe k here ▸ out)
  · rw [takes.holds]; exact joined.holds (takes.mode ▸ now)

/-- A write of a load record keeps a plant in SETUP sound (R4, R47, R132). -/
theorem Part.writeLoad_plantOk {s : Part} (h : s.PlantOk) (setup : s.mode = .setup) (n : LoadId) (c : LoadConfig) :
    (s.writeLoad n c).PlantOk := by
  by_cases use : c.inUse = s.inUse n
  · exact Part.writeLoad_plantOk_of_keepsUse h use
  · exact Part.writeLoad_plantOk_of_changesUse h setup use

/-- A change of a station's recovery clears what its recovery has counted (R133). -/
theorem Part.writeLink_plantOk {s : Part} (h : s.PlantOk) (c : LinkConfig) : (s.writeLink c).PlantOk := by
  have joined := h.joined
  have station (k : StationId) : (s.writeLink c).station k = s.station k ∨
      (s.writeLink c).station k = { s.station k with goodRun := 0, recoverArmed := false } := by
    rw [show (s.writeLink c).station k = _ from tabulate_getElem _ k.val k.isLt]
    dsimp only
    split
    · exact .inr rfl
    · exact .inl rfl
  have grade (k : StationId) : ((s.writeLink c).station k).grade = (s.station k).grade := by
    obtain same | cleared := station k
    · rw [same]
    · rw [cleared]
  refine Part.Joined.plantOk ⟨joined.sound.congr (fun _ => rfl) (fun _ => rfl) rfl joined.sound.keys rfl rfl,
    fun n used => ?_, fun k => ?_, fun k out => ?_, joined.holds⟩ ⟨h.linkOk.polled, fun halt => ?_⟩
  · rw [grade]; exact joined.linked n used
  · obtain same | cleared := station k
    · rw [same]; exact joined.grades k
    · obtain ⟨range, offline, online, suspect, -, awake, probe, missed⟩ := joined.grades k
      rw [cleared]
      exact ⟨range, offline, online, suspect, Nat.succ_pos 15, fun up => ⟨rfl, rfl, (awake up).2.2⟩, probe, missed⟩
  · obtain ⟨online, err⟩ := joined.unpolled k out
    refine ⟨(grade k).trans online, ?_⟩
    obtain same | cleared := station k
    · rw [same]; exact err
    · rw [cleared]; exact err
  · obtain ⟨none, empty, offline⟩ := h.linkOk.halted halt
    exact ⟨none, empty, fun k listed => (grade k).trans (offline k listed)⟩

/-! ## The held condition and the resets (R48, R104, R130, R203) -/

theorem Part.hold_plantOk {s : Part} (h : s.PlantOk) (marked : Bool) : (s.hold marked).PlantOk := by
  have joined := h.joined
  refine Part.Joined.plantOk ⟨joined.sound.congr (fun _ => rfl) (fun _ => rfl) rfl joined.sound.keys rfl rfl,
    joined.linked, joined.grades, joined.unpolled, joined.holds⟩ ⟨fun x flown => ?_, fun halt => ?_⟩
  · cases flown
  · exact ⟨rfl, rfl, (h.linkOk.halted halt).2.2⟩

/-- A load at rest: LOCAL in a slot in use, UNUSED in another, with nothing asked of it. -/
def LoadRecord.AtRest (r : LoadRecord) (inUse : Bool) : Prop :=
  r.phase = (if inUse then .localRun else .unused) ∧ r.stopPending = false ∧ r.heldEnqueue = none

theorem LoadRecord.AtRest.soundIn {r : LoadRecord} {inUse : Bool} {queued : Prop} {mode : Mode} (h : r.AtRest inUse)
    (out : ¬queued) (running : runningPhase mode = .localRun) : r.SoundIn inUse queued none mode := by
  obtain ⟨phase, pending, held⟩ := h
  cases inUse with
  | true =>
    have here : r.phase = .localRun := phase
    exact ⟨by simp [here], by simp [here, out], by simp [pending], by simp [held], by simp [here], by simp [here],
      fun _ => here.trans running.symm, fun _ => ⟨.inr (.inl here), pending, held⟩⟩
  | false =>
    have here : r.phase = .unused := phase
    exact ⟨by simp [here], by simp [here, out], by simp [pending], by simp [held], by simp [here], by simp [here],
      by simp [here, LoadPhase.running], fun _ => ⟨.inl here, pending, held⟩⟩

theorem LoadRecord.AtRest.reachable {r : LoadRecord} {inUse : Bool} (h : r.AtRest inUse) : r.phase ≠ .unreachable := by
  rw [h.1]
  split <;> nofun

/-- A plant at rest in SETUP or DAY, with nothing else begun. -/
theorem Part.plantOk_of_rest {s : Part} (load : ∀ n, (s.load n).AtRest (s.inUse n))
    (mode : s.mode = .setup ∨ s.mode = .day) (queue : s.dgv.queue = [])
    (starting : s.dgv.startingOrigin = Vector.replicate 64 none) (flm : s.flm = {}) (holds : s.holds = []) :
    s.PlantOk := by
  have running : runningPhase s.mode = .localRun := by
    obtain mode | mode := mode <;> rw [mode] <;> rfl
  have station (k : StationId) : s.station k = {} := by
    rw [Part.station, flm]
    exact Vector.getElem_replicate k.isLt
  have none : s.queuedLoads = [] := by rw [Part.queuedLoads, queue]; rfl
  refine Part.Joined.plantOk ⟨⟨fun n => ?_, by rw [none]; exact .nil, by rw [queue]; exact .nil⟩, fun n _ => ?_,
    fun k => ?_, fun k _ => ?_, fun _ => holds⟩ ⟨fun x flown => ?_, fun halt => ?_⟩
  · have origin : s.dgv.startingOrigin[n] = Option.none := by
      simp only [starting]
      exact Vector.getElem_replicate n.isLt
    rw [none, origin]
    exact (load n).soundIn List.not_mem_nil running
  · rw [station]; exact iff_of_false (load n).reachable nofun
  · rw [station]; exact Station.fresh_ok
  · rw [station]; exact ⟨rfl, rfl⟩
  · rw [flm] at flown; cases flown
  · rw [flm] at halt; cases halt

theorem freshLoad_atRest (inUse : Bool) : (freshLoad inUse).AtRest inUse := by cases inUse <;> exact ⟨rfl, rfl, rfl⟩

theorem Part.firstMode_mode (s : Part) (good : Bool) : (s.firstMode good).mode = .setup ∨ (s.firstMode good).mode = .day := by
  unfold Part.firstMode
  split
  · exact .inr rfl
  · exact .inl rfl

theorem Part.repowered_plantOk (s : Part) (image : Option Settings) (good : Bool) :
    ((s.repowered image).entered good).PlantOk := by
  refine (Part.chooseLamps_same _).keeps.plantOk (Part.plantOk_of_rest (fun n => ?_) (Part.firstMode_mode _ good) rfl rfl
    rfl rfl)
  have record : ((s.repowered image).firstMode good).load n = freshLoad ((image.getD {}).loads[n]).inUse :=
    tabulate_getElem _ n.val n.isLt
  rw [record]
  exact freshLoad_atRest _

theorem Part.reloaded_plantOk (s : Part) (image : Option Settings) (good : Bool) :
    ((s.reloaded image).entered good).PlantOk := by
  refine (Part.chooseLamps_same _).keeps.plantOk (Part.plantOk_of_rest (fun n => ?_) (Part.firstMode_mode _ good) rfl rfl
    rfl rfl)
  show ((s.reloaded image).load n).AtRest ((image.getD {}).loads[n]).inUse
  rw [Part.reloaded_load]
  split
  · next used => rw [used]; exact ⟨rfl, rfl, rfl⟩
  · next out => rw [Bool.eq_false_iff.2 out]; exact ⟨rfl, rfl, rfl⟩

theorem Part.powerResetFrom_plantOk (s : Part) (image : Option Settings) : (s.powerResetFrom image).PlantOk := by
  have entered := s.repowered_plantOk image image.isSome
  rw [Part.powerResetFrom_eq]
  split
  · exact entered
  · exact (Part.keeps_raise _ _).plantOk entered

theorem Part.commandReset_plantOk (s : Part) : s.commandReset.PlantOk := by
  rw [Part.commandReset_eq rfl, Part.commandResetFrom_eq]
  exact ((Part.follows_reclassify _).finish _).keeps.plantOk (s.reloaded_plantOk _ _)

end Sys2Proof.Machine
end

section
/-! Every row keeps the plant sound (R20, R27, R45, R78, R79, R101, R132, R138 to R141, R145). -/

namespace Sys2Proof.Machine

/-! ## Entry to SETUP (R27, R73, R88) -/

theorem Part.applyMove_setup_holds (s : Part) : (s.applyMove .setup).1.holds = [] := by
  show (s.tellMode .setup).clearHolds.holds = []
  unfold Part.clearHolds
  split
  · next none => simpa using none
  · rw [Part.chooseLamps_eq]; rfl

theorem Part.changeMode_setup (s : Part) : s.changeMode .setup = (s.applyMove .setup).1 := by
  unfold Part.changeMode
  rw [Part.runMoves_some]
  exact Part.runMoves_none _ _

theorem Part.changeMode_setup_plantOk {s : Part} (h : s.PlantOk) : (s.changeMode .setup).PlantOk := by
  rw [Part.changeMode_setup]
  have joined := h.joined
  have work := s.modeWork_applyMove .setup
  obtain ⟨sound, lost⟩ := Part.applyMove_setup_sound joined.sound
  have station (k : StationId) : (s.applyMove .setup).1.station k = s.station k := by rw [Part.station, work.flm]; rfl
  have polled (k : StationId) : (s.applyMove .setup).1.polled k = s.polled k :=
    Part.polled_of_records (by rw [work.records]) k
  refine Part.Joined.plantOk ⟨sound, fun n used => ?_, fun k => ?_, fun k => ?_, fun _ => s.applyMove_setup_holds⟩
    (h.linkOk.congr work.flm polled)
  · rw [lost, station]; exact joined.linked n (work.inUse n ▸ used)
  · rw [station]; exact joined.grades k
  · rw [station, polled]; exact joined.unpolled k

theorem Part.moveMode_plantOk {s : Part} (h : s.PlantOk) (m : Move) : (s.moveMode m).1.PlantOk := by
  refine (s.follows_finish _).keeps.plantOk ?_
  cases m with
  | setup => exact Part.changeMode_setup_plantOk h
  | day | windDown | night | wake => exact (Part.follows_changeMode rfl).keeps.plantOk h

/-! ## The rows -/

theorem Part.keeps_answer (s : Part) (c : Instr) (a : Answer) : s.Keeps (s.answer c a) :=
  .of_same rfl rfl rfl (fun _ none => none) rfl rfl rfl

theorem Part.keeps_setReceiver (s : Part) (r : Receiver) : s.Keeps (s.setReceiver r) :=
  .of_same rfl rfl rfl (fun _ none => none) rfl rfl rfl

theorem plantOk_of_request {c : Instr} {rule : Part → Part × Answer} {s t : State} (h : request c rule s = .next t)
    (ok : s.PlantOk) (ruled : (rule s.toPart).1.PlantOk) : t.PlantOk :=
  request_cases (P := Part.PlantOk) h ok ((Part.keeps_answer _ _ _).plantOk ruled)

theorem keeps_of_request {c : Instr} {rule : Part → Part × Answer} {s t : State} (h : request c rule s = .next t)
    (ok : s.PlantOk) (ruled : s.Keeps (rule s.toPart).1) : t.PlantOk :=
  plantOk_of_request h ok (ruled.plantOk ok)

/-- A request that reads its data off the part and changes nothing. -/
theorem plantOk_of_read {c : Instr} {rule : Part → Part × Answer} {s t : State} (h : request c rule s = .next t)
    (ok : s.PlantOk) (read : ∀ p, (rule p).1 = p) : t.PlantOk :=
  plantOk_of_request h ok (by rw [read]; exact ok)

theorem plantOk_of_event {handle : Part → Part} {s t : State} (h : event handle s = .next t) (ok : s.PlantOk)
    (handled : (handle s.toPart).PlantOk) : t.PlantOk :=
  event_cases (P := Part.PlantOk) h ok handled

theorem keeps_of_event {handle : Part → Part} {s t : State} (h : event handle s = .next t) (ok : s.PlantOk)
    (handled : s.Keeps (handle s.toPart)) : t.PlantOk :=
  plantOk_of_event h ok (handled.plantOk ok)

theorem Part.keeps_onLoad {s : Part} (load : Byte) {rule : LoadId → Part → Part × Answer}
    (h : ∀ n, s.Keeps (rule n s).1) : s.Keeps (onLoad load rule s).1 := by
  unfold onLoad
  split
  · exact h _
  · exact .refl s

theorem Part.Keeps.finish {s u : Part} (before : Part) (h : s.Keeps u) : s.Keeps (before.finish u) :=
  h.trans (before.follows_finish u).keeps

/-- A record, a timer or a buffer no load's soundness reads. -/
theorem Part.keeps_cfg (s : Part) (cfg : Settings) (records : cfg.loads = s.cfg.loads) : s.Keeps { s with cfg := cfg } :=
  .of_same rfl records rfl (fun _ none => none) rfl rfl rfl

theorem Part.keeps_lin (s : Part) (lin : LineInputs) : s.Keeps { s with lin := lin } :=
  .of_same rfl rfl rfl (fun _ none => none) rfl rfl rfl

theorem Part.keeps_cfs (s : Part) (cfs : ConfigStore) : s.Keeps { s with cfs := cfs } :=
  .of_same rfl rfl rfl (fun _ none => none) rfl rfl rfl

theorem Part.keeps_power (s : Part) (power : Power) : s.Keeps { s with power := power } :=
  .of_same rfl rfl rfl (fun _ none => none) rfl rfl rfl

theorem Part.keeps_receive (s : Part) (c : Received) : s.Keeps (s.receive c) := by
  have set (u : Part) (r : Receiver) := u.keeps_setReceiver r
  unfold Part.receive
  split
  · exact .ite _ (set _ _) (set _ _)
  · refine .ite _ (set _ _) (.ite _ ?_ (set _ _))
    unfold Part.accept
    split
    · exact set _ _
    · exact set _ _
  all_goals exact .refl s

theorem Part.PlantOk.flies {s : Part} (h : s.PlantOk) {x : Transaction} (flown : s.flm.inFlight = some x) :
    s.polled x.station = true ∧ s.flm.link ≠ .halt := by
  refine ⟨h.linkOk.polled x (by rw [flown]; exact List.mem_singleton_self x), fun halt => ?_⟩
  have none := (h.linkOk.halted halt).1
  rw [flown] at none
  cases none

/-- The transaction in flight fails, and the next station is polled (R136, R137). -/
theorem Part.failTransaction_plantOk {s : Part} (h : s.PlantOk) {x : Transaction} (flown : s.flm.inFlight = some x) :
    (s.failTransaction x).PlantOk := by
  have failed := Part.failPoll_plantOk h (h.flies flown).1
  rw [show s.failTransaction x = (s.finish (s.failPoll x.station)).pollNext from rfl]
  exact Part.pollNext_plantOk ((s.follows_finish (s.failPoll x.station)).keeps.plantOk failed)

theorem Part.keeps_writePanel (s : Part) (q : PanelId) (c : PanelConfig) : s.Keeps (s.writePanel q c) := by
  unfold Part.writePanel
  dsimp only
  split <;> exact .of_same rfl rfl rfl (fun _ none => none) rfl rfl rfl

theorem Part.keeps_writeCall (s : Part) (l : CallId) (c : CallConfig) : s.Keeps (s.writeCall l c) :=
  .of_same rfl rfl rfl (fun _ none => none) rfl rfl rfl

theorem Part.keeps_writeMeter (s : Part) (c : MeterConfig) : s.Keeps (s.writeMeter c) := by
  unfold Part.writeMeter
  dsimp only
  split <;> exact .of_same rfl rfl rfl (fun _ none => none) rfl rfl rfl

/-- The configuration writes, in SETUP (R10). -/
theorem configWrite_plantOk {c : Instr} {s t : State} (write : c.isConfigWrite = true) (h : exec c s = .next t)
    (ok : s.PlantOk) : t.PlantOk := by
  have gate {rule : Part → Part × Answer} (taken : s.mode = .setup → (rule s.toPart).1.PlantOk) :
      (writeGate rule s.toPart).1.PlantOk := by
    refine saveGate_cases (P := Part.PlantOk) ok ?_
    split
    · next setup => exact taken setup
    · exact ok
  unfold exec at h
  cases c with
  | writeLoadConfig load record =>
    refine plantOk_of_request h ok (gate fun setup => onRecord_cases (P := Part.PlantOk) ok fun n => ?_)
    split
    · exact ok
    · split
      · exact ok
      · exact (s.follows_finish _).keeps.plantOk (Part.writeLoad_plantOk ok setup n _)
  | writeGroup g record =>
    refine plantOk_of_request h ok (gate fun _ => onRecord_cases (P := Part.PlantOk) ok fun g => ?_)
    split
    · exact ok
    · exact (s.keeps_cfg _ rfl).plantOk ok
  | writeZone z tag =>
    refine plantOk_of_request h ok (gate fun _ => onRecord_cases (P := Part.PlantOk) ok fun z => ?_)
    split
    · exact ok
    · exact (s.keeps_cfg _ rfl).plantOk ok
  | writePanel q record =>
    refine plantOk_of_request h ok (gate fun _ => onRecord_cases (P := Part.PlantOk) ok fun q => ?_)
    split
    · exact ok
    · exact (s.keeps_writePanel q _).plantOk ok
  | writeCall l record =>
    refine plantOk_of_request h ok (gate fun _ => onRecord_cases (P := Part.PlantOk) ok fun l => ?_)
    split
    · exact ok
    · exact (s.keeps_writeCall l _).plantOk ok
  | writeMeter record =>
    refine plantOk_of_request h ok (gate fun _ => ?_)
    split
    · exact ok
    · exact (s.keeps_writeMeter _).plantOk ok
  | writeLink record =>
    refine plantOk_of_request h ok (gate fun _ => ?_)
    split
    · exact ok
    · exact Part.writeLink_plantOk ok _
  | writePort a v q =>
    refine plantOk_of_request h ok (gate fun _ => ?_)
    split
    · exact ok
    · split
      · exact ok
      · exact (s.keeps_cfg _ rfl).plantOk ok
  | _ => cases write

/-- What STOP LOAD makes of a load that it may stop (R42). -/
def Part.stopped (s : Part) (n : LoadId) : Part :=
  if (s.load n).phase = .queued then s.withdraw n .stop else s.enterStopping n

theorem Part.stopRefusal_none {s : Part} {n : LoadId} (allowed : s.stopRefusal n = none) :
    s.mode ≠ .setup ∧ ((s.load n).phase.running = true ∨ (s.load n).phase = .queued) := by
  unfold Part.stopRefusal at allowed
  dsimp only at allowed
  split_ifs at allowed with setup going
  refine ⟨setup, ?_⟩
  by_contra still
  rw [not_or] at still
  exact going (by simp [still])

theorem Part.stopped_keeps {s : Part} {n : LoadId} (ok : s.Sound) (allowed : s.stopRefusal n = none) :
    s.Keeps (s.stopped n) := by
  obtain ⟨live, going⟩ := Part.stopRefusal_none allowed
  unfold Part.stopped
  split
  · next queued => exact (Part.asks_withdraw (.inl ((ok.queued n).1 queued)) rfl).follows.keeps
  · next up => exact (Part.follows_enterStopping (going.resolve_right up) live).keeps

/-! ### Requests -/

section
variable {s t : State}

theorem setClock_plantOk {minute : Half} {second : Byte} (h : exec (.setClock minute second) s = .next t)
    (ok : s.PlantOk) : t.PlantOk := by
  refine keeps_of_request h ok ?_
  dsimp only
  split
  · exact .refl _
  · split
    · exact .refl _
    · exact (s.keeps_takeClock _ _).finish _

theorem setMode_plantOk {b : Byte} (h : exec (.setMode b) s = .next t) (ok : s.PlantOk) : t.PlantOk := by
  refine plantOk_of_request h ok ?_
  split
  · exact ok
  · split
    · exact ok
    · split
      · exact ok
      · exact Part.moveMode_plantOk ok _
      · split
        · exact Part.moveMode_plantOk ok _
        · exact ok

theorem Part.keeps_stagePlan (s : Part) (plan : Plan) (arm : Bool) : s.Keeps (s.stagePlan plan arm).1 := by
  have staged := (s.keeps_cfg { s.cfg with staged := plan } rfl).trans (Part.keeps_arm _ (plan.valid && arm))
  exact staged.finish s

theorem writePlan_plantOk {arm : Byte} {plan : RawPlan} (h : exec (.writePlan arm plan) s = .next t) (ok : s.PlantOk) :
    t.PlantOk := by
  refine keeps_of_request h ok (saveGate_cases (P := s.Keeps) (.refl _) ?_)
  split
  · exact .refl _
  · split
    · exact .refl _
    · exact s.keeps_stagePlan _ _

theorem armPlan_plantOk {v : Byte} (h : exec (.armPlan v) s = .next t) (ok : s.PlantOk) : t.PlantOk := by
  refine keeps_of_request h ok ?_
  dsimp only
  split
  · exact .refl _
  · split
    · exact .refl _
    · split
      · exact .refl _
      · exact (s.keeps_arm _).finish _

theorem placeHold_plantOk {kind targetKind target : Byte} {duration : Half} {reason : Byte}
    (h : exec (.placeHold kind targetKind target duration reason) s = .next t) (ok : s.PlantOk) : t.PlantOk := by
  refine keeps_of_request h ok ?_
  dsimp only
  split
  · exact .refl _
  · split
    · exact .refl _
    · exact s.keeps_afterPlacement (s.keeps_place _ _ _ _ _)

theorem renewHold_plantOk {id duration : Half} (h : exec (.renewHold id duration) s = .next t) (ok : s.PlantOk) :
    t.PlantOk := by
  refine keeps_of_request h ok ?_
  dsimp only
  split
  · exact .refl _
  · split
    · exact .refl _
    · split
      · exact .refl _
      · exact s.keeps_updateHold _

theorem releaseHold_plantOk {id : Half} {force : Byte} (h : exec (.releaseHold id force) s = .next t) (ok : s.PlantOk) :
    t.PlantOk := by
  refine keeps_of_request h ok ?_
  split
  · exact .refl _
  · split
    · exact .refl _
    · split
      · exact .refl _
      · split
        · exact (s.keeps_retire _).finish _
        · exact .refl _

theorem startLoad_plantOk {load : Byte} (h : exec (.startLoad load) s = .next t) (ok : s.PlantOk) : t.PlantOk := by
  refine keeps_of_request h ok (Part.keeps_onLoad load fun n => ?_)
  have asked := (s.asks_enqueue n .command).follows.keeps.finish s.toPart
  split
  · split
    · exact .refl _
    · exact asked
  · exact asked
  all_goals exact .refl _

theorem stopLoad_plantOk {load : Byte} (h : exec (.stopLoad load) s = .next t) (ok : s.PlantOk) : t.PlantOk := by
  refine keeps_of_request h ok (Part.keeps_onLoad load fun n => ?_)
  dsimp only
  split
  · exact .refl _
  · next allowed => exact (Part.stopped_keeps ok.joined.sound allowed).finish _

theorem clearFault_plantOk {load : Byte} (h : exec (.clearFault load) s = .next t) (ok : s.PlantOk) : t.PlantOk := by
  refine keeps_of_request h ok (Part.keeps_onLoad load fun n => ?_)
  dsimp only
  split
  · next failed => exact (Part.keeps_enterOff (.inr (.inl (by rw [failed]; rfl)))).finish _
  · exact .refl _
  · exact .refl _

theorem recoverStation_plantOk {station : Byte} (h : exec (.recoverStation station) s = .next t) (ok : s.PlantOk) :
    t.PlantOk := by
  refine plantOk_of_request h ok ?_
  dsimp only
  split
  · exact ok
  · next k _ =>
    split
    · exact ok
    · next polled =>
      split
      · exact ok
      · next asleep =>
        split
        · exact ok
        · obtain ⟨range, offline, online, suspect, -, -, probe, missed⟩ := ok.joined.grades k
          have down : (s.station k).grade = .offline := by simpa using asleep
          exact ok.setStation ⟨range, offline, online, suspect, Nat.succ_pos 15, fun up => absurd down up, probe, missed⟩
            (by simpa using polled) Iff.rfl

theorem linkHalt_plantOk (h : exec .linkHalt s = .next t) (ok : s.PlantOk) : t.PlantOk := by
  refine plantOk_of_request h ok ?_
  dsimp only
  split
  · exact ok
  · exact (s.follows_finish _).keeps.plantOk (Part.haltLink_plantOk ok)

theorem linkRun_plantOk (h : exec .linkRun s = .next t) (ok : s.PlantOk) : t.PlantOk := by
  refine plantOk_of_request h ok ?_
  dsimp only
  split
  · exact ok
  · have begun := ok.joined.of_flm (t := { s.toPart with flm := { s.flm with link := .run } }) rfl fun _ => rfl
    exact Part.beginCycle_plantOk begun nofun

/-- The requests that are no configuration writes (Table 10-7). -/
theorem exec_request_plantOk {c : Instr} (h : exec c s = .next t) (request : c.isRequest = true)
    (other : c.isConfigWrite = false) (ok : s.PlantOk) : t.PlantOk := by
  cases c with
  | writeLoadConfig | writeGroup | writeZone | writePanel | writeCall | writeMeter | writeLink | writePort => cases other
  | identify | readStatus | readClock | readDemand | readAttention => exact plantOk_of_read h ok fun _ => rfl
  | readPlan | readHold | readStation => exact plantOk_of_read h ok fun p => by split <;> rfl
  | listHolds | readQueue => exact plantOk_of_read h ok fun p => by split <;> rfl
  | readConfig kind number =>
    refine plantOk_of_read h ok fun p => ?_
    split
    case h_9 => rfl
    all_goals exact readRecord_fst _ _ _
  | reset => exact plantOk_of_request h ok (saveGate_cases (P := Part.PlantOk) ok ok)
  | save =>
    refine keeps_of_request h ok (saveGate_cases (P := s.Keeps) (.refl _) ?_)
    split
    · exact s.keeps_cfs _
    · exact .refl _
  | setAttentionEnable causes => exact keeps_of_request h ok (s.keeps_cfg _ rfl)
  | ackAttention => exact keeps_of_request h ok (.of_same rfl rfl rfl (fun _ none => none) rfl rfl rfl)
  | setCeiling i d => exact keeps_of_request h ok (.of_same rfl rfl rfl (fun _ none => none) rfl rfl rfl)
  | readLoad load =>
    refine keeps_of_request h ok (Part.keeps_onLoad load fun n => ?_)
    exact Part.keeps_setLoad (fun ok => (ok.loads n).congr rfl rfl rfl rfl) fun _ => Iff.rfl
  | setClock => exact setClock_plantOk h ok
  | setMode => exact setMode_plantOk h ok
  | writePlan => exact writePlan_plantOk h ok
  | armPlan => exact armPlan_plantOk h ok
  | placeHold => exact placeHold_plantOk h ok
  | renewHold => exact renewHold_plantOk h ok
  | releaseHold => exact releaseHold_plantOk h ok
  | startLoad => exact startLoad_plantOk h ok
  | stopLoad => exact stopLoad_plantOk h ok
  | clearFault => exact clearFault_plantOk h ok
  | recoverStation => exact recoverStation_plantOk h ok
  | linkHalt => exact linkHalt_plantOk h ok
  | linkRun => exact linkRun_plantOk h ok
  | _ => cases request

end

/-- The rows of the supply, the reset line and the port that may reset the part. -/
theorem exec_reset_plantOk {c : Instr} {s t : State} (h : exec c s = .next t) (resets : c.mayReset = true)
    (ok : s.PlantOk) : t.PlantOk := by
  have left (p : Power) : ({ s.toPart with power := p } : Part).leaveHold.PlantOk := by
    unfold Part.leaveHold
    split
    · exact Part.powerResetFrom_plantOk _ _
    · exact (s.keeps_power p).plantOk ok
  unfold exec at h
  cases c with
  | resultEnd =>
    refine plantOk_of_event h ok ?_
    split
    · next r _ =>
      unfold Part.endResult
      split
      · exact (s.keeps_setReceiver _).plantOk ok
      · exact Part.Keeps.plantOk (.of_same rfl rfl rfl (fun _ none => none) rfl rfl rfl) ok
      · exact s.commandReset_plantOk
    · exact ok
  | powerOn =>
    cases h
    show Part.PlantOk (if _ then _ else _)
    split
    · exact left _
    · exact ok
  | resetLineRelease =>
    cases h
    show Part.PlantOk (if _ then _ else _)
    split
    · exact left _
    · exact ok
  | _ => cases resets

/-! ### Events -/

section
variable {s t : State}

theorem pollReplyGood_plantOk {bytes : List Byte} (h : execPollReplyGood bytes s = .next t) (ok : s.PlantOk) :
    t.PlantOk := by
  refine plantOk_of_event h ok ?_
  split
  · next x flown =>
    split
    · next v _ =>
      obtain ⟨polled, run⟩ := ok.flies flown
      exact Part.pollNext_plantOk ((s.follows_finish (s.goodReply x.station v)).keeps.plantOk
        (Part.goodReply_plantOk ok polled run v))
    · exact ok
  · exact ok

theorem pollReplyBad_plantOk {chars : List Received} (h : execPollReplyBad chars s = .next t) (ok : s.PlantOk) :
    t.PlantOk := by
  refine plantOk_of_event h ok ?_
  split
  · next x flown =>
    split
    · exact ok
    · exact Part.failTransaction_plantOk ok flown
  · exact ok

theorem pollCycleStart_plantOk (h : execPollCycleStart s = .next t) (ok : s.PlantOk) : t.PlantOk := by
  refine plantOk_of_event h ok ?_
  split
  · next free => exact Part.beginCycle_plantOk ok.joined fun halt => nomatch free.1.symm.trans halt
  · exact ok

theorem warnStartReached_plantOk (h : execWarnStartReached s = .next t) (ok : s.PlantOk) : t.PlantOk := by
  refine keeps_of_event h ok ?_
  split
  · refine .ite _ (Part.Keeps.finish s.toPart (Part.follows_changeMode ?_).keeps) (.refl _)
    split <;> rfl
  · exact .refl _

theorem wakeBegin_plantOk (h : execWakeBegin s = .next t) (ok : s.PlantOk) : t.PlantOk := by
  refine keeps_of_event h ok ?_
  split
  · refine .ite _ (Part.Keeps.finish s.toPart (Part.follows_changeMode ?_).keeps) (.refl _)
    unfold Part.wakeMove
    split <;> rfl
  · exact .refl _

theorem cancelledMarkPassed_plantOk (h : execCancelledMarkPassed s = .next t) (ok : s.PlantOk) : t.PlantOk := by
  refine keeps_of_event h ok ?_
  split
  · next next mark day =>
    exact .ite _ (Part.follows_setMode (m := .day next none) (Part.mode_of_day day).symm).keeps (.refl _)
  · exact .refl _

theorem idleExpiry_plantOk {n : LoadId} (h : execIdleExpiry n s = .next t) (ok : s.PlantOk) : t.PlantOk := by
  refine keeps_of_event h ok ?_
  split
  · next idle =>
    obtain ⟨-, idle⟩ := idle
    have night : s.mode = .night ∧ (s.load n).phase = .watch := by
      simp only [Part.idleStopDue, Bool.and_eq_true, decide_eq_true_eq] at idle
      tauto
    exact (Part.follows_enterStopping (by rw [night.2]; rfl) (by rw [night.1]; nofun)).keeps.finish _
  · exact .refl _

theorem Part.stopDeadlinePassed_stopping {p : Part} {n : LoadId} (late : p.stopDeadlinePassed n = true) :
    (p.load n).phase.isStopping = true := by
  unfold Part.stopDeadlinePassed at late
  split at late
  · next going => rw [going]; rfl
  · cases late

/-- The rows that are no requests and reset nothing. -/
theorem exec_event_plantOk {c : Instr} (h : exec c s = .next t) (other : c.isRequest = false)
    (resets : c.mayReset = false) (ok : s.PlantOk) : t.PlantOk := by
  unfold exec at h
  cases c with
  | resultEnd | powerOn | resetLineRelease => cases resets
  | supplyLow marked | resetLineAssert marked =>
    cases h
    show Part.PlantOk { (if _ then _ else _ : Part) with power := _ }
    refine (Part.keeps_power _ _).plantOk ?_
    split
    · exact Part.hold_plantOk ok marked
    · exact ok
  | characterReceived c => exact keeps_of_event h ok (s.keeps_receive c)
  | frameDiscard c =>
    refine keeps_of_event h ok ?_
    split
    · exact .ite _ (s.keeps_setReceiver _) (.refl _)
    · exact .refl _
  | frameGapTimeout c =>
    refine keeps_of_event h ok ?_
    split
    · exact .ite _ (s.keeps_setReceiver _) (s.keeps_setReceiver _)
    · exact .refl _
  | resultBegin =>
    refine keeps_of_event h ok ?_
    split
    · exact s.keeps_setReceiver _
    · exact .refl _
  | uptimeSecond => exact keeps_of_event h ok s.keeps_second
  | uptimeMinuteBoundary => exact keeps_of_event h ok (.ite _ (s.keeps_minuteBoundary.finish _) (.refl _))
  | holdExpiry =>
    have expired (u : Part) (x : Hold) : u.Keeps (u.expire x) := (u.keeps_retire x).trans (Part.keeps_raise _ _)
    exact keeps_of_event h ok (.ite _ ((Part.Keeps.foldl _ expired _ _).finish _) (.refl _))
  | idleExpiry n => exact idleExpiry_plantOk h ok
  | stopDeadline n =>
    refine keeps_of_event h ok ?_
    split
    · next late => exact (Part.keeps_failStop (Part.stopDeadlinePassed_stopping late)).finish _
    · exact .refl _
  | startDeadline n =>
    refine keeps_of_event h ok ?_
    split
    · next late => exact (Part.keeps_failStart late.1).finish _
    · exact .refl _
  | inrushWindowEnd n =>
    refine keeps_of_event h ok ?_
    split
    · next ended => exact (Part.keeps_completeStart ended.1).finish _
    · exact .refl _
  | activityWindowExpiry n =>
    refine keeps_of_event h ok ?_
    dsimp only
    split
    · exact .ite _ (Part.keeps_setLoad (fun ok => (ok.loads n).congr rfl rfl rfl rfl) fun _ => Iff.rfl) (.refl _)
    · exact .refl _
  | startHistoryAgeOut n =>
    exact keeps_of_event h ok (Part.keeps_setLoad (fun ok => (ok.loads n).congr rfl rfl rfl rfl) fun _ => Iff.rfl)
  | cancelledMarkPassed => exact cancelledMarkPassed_plantOk h ok
  | warnStartReached => exact warnStartReached_plantOk h ok
  | wakeBegin => exact wakeBegin_plantOk h ok
  | warningDeadline =>
    refine keeps_of_event h ok ?_
    split
    · exact .ite _ (Part.Keeps.finish s.toPart (Part.follows_changeMode rfl).keeps) (.refl _)
    · exact .refl _
  | graceDeadline =>
    refine keeps_of_event h ok ?_
    split
    · exact .ite _ (Part.Keeps.finish s.toPart (Part.follows_changeMode rfl).keeps) (.refl _)
    · exact .refl _
  | intervalBoundary => exact keeps_of_event h ok (.ite _ s.keeps_closeInterval (.refl _))
  | admissionScan => exact keeps_of_event h ok (.ite _ (s.keeps_scan.finish _) (.refl _))
  | pollCycleStart => exact pollCycleStart_plantOk h ok
  | pollReplyGood bytes => exact pollReplyGood_plantOk h ok
  | pollReplyBad chars => exact pollReplyBad_plantOk h ok
  | replyTimeout | replyGapTimeout =>
    refine plantOk_of_event h ok ?_
    split
    · next x flown => exact Part.failTransaction_plantOk ok flown
    · exact ok
  | keyRelease | callFallingEdge | meterFallingEdge | levelQualifiedFromUnknown =>
    exact keeps_of_event h ok (s.keeps_takeLine _ _ _ _ .refl)
  | meterPulse =>
    exact keeps_of_event h ok (s.keeps_takeLine _ _ _ _ fun _ => .of_same rfl rfl rfl (fun _ none => none) rfl rfl rfl)
  | keepPress p => exact keeps_of_event h ok (s.keeps_takeLine _ _ _ _ fun q => (q.keeps_keepPressed p).finish _)
  | clearPress p =>
    exact keeps_of_event h ok (s.keeps_takeLine _ _ _ _ fun q =>
      (((q.keeps_panelRelease p).trans (Part.keeps_setRefusal _ p none)).trans (Part.keeps_chooseLamp _ p)).finish _)
  | callRisingEdge l =>
    exact keeps_of_event h ok (s.keeps_takeLine _ _ _ _ fun q => .ite _ ((q.keeps_callRequest l).finish _) (.refl _))
  | refusalTimerExpiry p =>
    refine keeps_of_event h ok ?_
    split
    · exact .ite _ ((s.keeps_setRefusal _ _).trans (Part.keeps_chooseLamp _ _)) (.refl _)
    · exact .refl _
  | erasingComplete => exact keeps_of_event h ok (.ite _ (s.keeps_cfs _) (.refl _))
  | writingComplete => exact keeps_of_event h ok (.ite _ (s.keeps_cfs _) (.refl _))
  | checkingComplete r =>
    exact keeps_of_event h ok (.ite _ ((s.keeps_cfs _).trans (Part.keeps_raise _ _)) (.refl _))
  | lineSample v => exact keeps_of_event h ok (s.keeps_lin _)
  | _ => cases other

theorem exec_plantOk {c : Instr} (h : exec c s = .next t) (ok : s.PlantOk) : t.PlantOk := by
  cases write : c.isConfigWrite with
  | true => exact configWrite_plantOk write h ok
  | false =>
    cases request : c.isRequest with
    | true => exact exec_request_plantOk h request write ok
    | false =>
      cases resets : c.mayReset with
      | true => exact exec_reset_plantOk h resets ok
      | false => exact exec_event_plantOk h request resets ok

end

/-- Settles O31: every row keeps the loads, the queue and the stations sound together. -/
theorem plantStaysSound : Obligations.PlantStaysSound :=
  fun _ _ ok h => step_keeps (P := Part.PlantOk) (fun _ _ _ row sound => exec_plantOk row sound) h ok

end Sys2Proof.Machine
end

section
/-! LINK HALT (R45, R143, R145). -/

namespace Sys2Proof.Machine

/-! ## STATION at a halt (R143) -/

/-- The causes other than START_FAILED are as they were. -/
def Part.SameCauses (s t : Part) : Prop :=
  ∀ i : Fin 8, i ≠ 3 → t.atl.pending.getLsbD i = s.atl.pending.getLsbD i ∧ t.atl.details[i] = s.atl.details[i]

theorem Part.SameCauses.trans {s t u : Part} (h : s.SameCauses t) (g : t.SameCauses u) : s.SameCauses u :=
  fun i other => ⟨(g i other).1.trans (h i other).1, (g i other).2.trans (h i other).2⟩

theorem Part.SameCauses.foldl {α : Type} (f : Part → α → Part) (h : ∀ s a, Part.SameCauses s (f s a)) (l : List α)
    (s : Part) : s.SameCauses (l.foldl f s) := by
  induction l generalizing s with
  | nil => exact fun _ _ => ⟨rfl, rfl⟩
  | cons a l ih => exact (h s a).trans (ih _)

theorem Part.lostLoad_atl (s : Part) (n : LoadId) : (s.lostLoad n).atl = s.atl := by
  unfold Part.lostLoad
  dsimp only
  split <;> rfl

theorem Part.sameCauses_loseLoad (s : Part) (n : LoadId) : s.SameCauses (s.loseLoad n) := by
  intro i other
  obtain ⟨pending, details⟩ := (s.asks_loseLoad n).causes i other
  exact ⟨pending.trans (by rw [Part.lostLoad_atl]), details.trans (by simp only [Part.lostLoad_atl])⟩

theorem Part.sameCauses_loseLoads (s : Part) (k : StationId) : s.SameCauses (s.loseLoads k) :=
  (Part.SameCauses.foldl _ Part.sameCauses_loseLoad _ s).trans
    (.foldl _ (fun s n => (s.asks_afterLoss n).causes) _ _)

/-- A halted station raises STATION where it was not OFFLINE (R145). -/
theorem Part.haltStation_raises (s : Part) (k : StationId) :
    (s.polled k = true → (s.station k).grade ≠ .offline →
      (s.haltStation k).atl.pending.getLsbD 1 = true ∧ (s.haltStation k).atl.details[1] = some (.station k)) ∧
    ((s.polled k && (s.station k).grade != .offline) = false →
      (s.haltStation k).atl.pending.getLsbD 1 = s.atl.pending.getLsbD 1 ∧
      (s.haltStation k).atl.details[1] = s.atl.details[1]) := by
  unfold Part.haltStation
  refine ⟨fun polled awake => ?_, fun still => ?_⟩
  · rw [if_pos polled]
    dsimp only
    rw [if_neg awake]
    obtain ⟨pending, details⟩ := Part.sameCauses_loseLoads
      ((s.setStation k (s.station k).halted).raise (.station k)) k 1 (by decide)
    exact ⟨pending.trans (Part.raise_pending _ (.station k)), details.trans (Part.raise_details _ (.station k))⟩
  · split
    · next polled =>
      dsimp only
      rw [if_pos (by simpa [polled] using still)]
      exact ⟨rfl, rfl⟩
    · exact ⟨rfl, rfl⟩

/-- STATION is left with the last station halted that was not OFFLINE, where there was one (R145). -/
theorem Part.haltList_raises (ks : List StationId) (once : ks.Nodup) (s : Part) :
    (∀ k, (ks.filter fun k => s.polled k && (s.station k).grade != .offline).getLast? = some k →
      (ks.foldl Part.haltStation s).atl.pending.getLsbD 1 = true ∧
      (ks.foldl Part.haltStation s).atl.details[1] = some (.station k)) ∧
    ((ks.filter fun k => s.polled k && (s.station k).grade != .offline) = [] →
      (ks.foldl Part.haltStation s).atl.pending.getLsbD 1 = s.atl.pending.getLsbD 1 ∧
      (ks.foldl Part.haltStation s).atl.details[1] = s.atl.details[1]) := by
  induction ks generalizing s with
  | nil => exact ⟨fun _ found => by simp at found, fun _ => ⟨rfl, rfl⟩⟩
  | cons k ks ih =>
    obtain ⟨out, once⟩ := List.nodup_cons.1 once
    have rest : (ks.filter fun j => (s.haltStation k).polled j && ((s.haltStation k).station j).grade != .offline) =
        ks.filter fun j => s.polled j && (s.station j).grade != .offline := by
      refine List.filter_congr fun j listed => ?_
      have away : j ≠ k := fun same => out (same ▸ listed)
      rw [Part.polled_of_records (s := s) (by rw [(s.haltStation_frame k).1]) j, Part.haltStation_station,
        if_neg fun both => away both.1]
    obtain ⟨later, none⟩ := ih once (s.haltStation k)
    rw [rest] at later none
    obtain ⟨raised, still⟩ := s.haltStation_raises k
    rw [List.foldl_cons, List.filter_cons]
    cases newly : (s.polled k && (s.station k).grade != .offline) with
    | false =>
      simp only [Bool.false_eq_true, if_false]
      refine ⟨later, fun empty => ?_⟩
      obtain ⟨pending, details⟩ := none empty
      exact ⟨pending.trans (still newly).1, details.trans (still newly).2⟩
    | true =>
      simp only [if_true]
      refine ⟨fun j last => ?_, fun empty => absurd empty (List.cons_ne_nil _ _)⟩
      cases others : ks.filter fun j => s.polled j && (s.station j).grade != .offline with
      | nil =>
        rw [others] at last
        obtain rfl : k = j := by simpa using last
        obtain ⟨pending, details⟩ := none others
        simp only [Bool.and_eq_true, bne_iff_ne] at newly
        obtain ⟨here, named⟩ := raised newly.1 newly.2
        exact ⟨pending.trans here, details.trans named⟩
      | cons j' rest' =>
        refine later j ?_
        rw [others] at last ⊢
        rwa [List.getLast?_cons_cons] at last

/-! ## Loads of OFFLINE stations -/

/-- With every polled station OFFLINE no load in use is reachable, and nothing is queued (R45). -/
theorem Part.PlantOk.dark {s : Part} (h : s.PlantOk)
    (offline : ∀ k : StationId, s.polled k = true → (s.station k).grade = .offline) :
    (∀ n : LoadId, s.inUse n = true → (s.load n).phase = .unreachable) ∧ s.dgv.queue = [] := by
  have lost (n : LoadId) (used : s.inUse n = true) : (s.load n).phase = .unreachable :=
    (h.joined.linked n used).2 (offline _ (Part.polled_of_inUse used))
  refine ⟨lost, List.eq_nil_iff_forall_not_mem.2 fun e listed => ?_⟩
  have queued := (h.joined.sound.queued e.load).2 (List.mem_map_of_mem listed)
  have used : s.inUse e.load = true := by
    by_contra out
    rw [(h.joined.sound.loads e.load).unused.2 (by simpa using out)] at queued
    cases queued
  rw [lost _ used] at queued
  cases queued

/-- Settles O36: the stations of the polled set are halted one after the other, and the close of the handling leaves
the link as it then is. -/
theorem linkHalt : Obligations.LinkHalt := by
  intro s can
  refine ⟨fun halt => ?_, fun run => ?_⟩
  · refine (request_served can).trans ?_
    simp only [halt]
    rfl
  · dsimp only
    have served : exec .linkHalt s = .next (s.answered .linkHalt (s.finish s.haltLink)
        { status := .ok, data := u8 (s.finish s.haltLink).flm.link.code }) := by
      refine (request_served can).trans ?_
      simp only [run]
    have closed := s.follows_finish s.haltLink
    have flm : (s.finish s.haltLink).flm = s.haltLink.flm := closed.work.flm
    obtain ⟨cfg, link, flight, toPoll⟩ := s.haltLink_frame
    have kept := (s.keepsHolds_haltLink).finish s.toPart
    have station (k : StationId) : (s.finish s.haltLink).station k =
        if s.polled k = true then (s.station k).halted else s.station k := by
      rw [Part.station, flm]
      exact s.haltLink_station k
    obtain ⟨raised, still⟩ := Part.haltList_raises allStations (List.nodup_finRange 16) s.haltBegun
    rw [← Part.haltLink_eq] at raised still
    obtain ⟨pending, details⟩ : (s.finish s.haltLink).atl.pending.getLsbD 1 = s.haltLink.atl.pending.getLsbD 1 ∧
        (s.finish s.haltLink).atl.details[1] = s.haltLink.atl.details[1] :=
      closed.causes 1 (by decide) (by decide) (by decide)
    rw [← pending, ← details] at raised still
    rw [← flm] at link flight toPoll
    have sound (ok : s.PlantOk) := closed.keeps.plantOk (Part.haltLink_plantOk ok)
    have inUse (n : LoadId) : (s.finish s.haltLink).inUse n = s.inUse n :=
      (closed.keeps.inUse n).trans (by rw [Part.inUse, Part.config, cfg]; rfl)
    clear closed pending details flm cfg
    generalize s.finish s.haltLink = u at *
    refine ⟨_, served, by rw [link]; rfl, link, flight, toPoll, fun k polled => ?_, fun k out => ?_, fun ok => ?_, raised,
      still, kept.holds, kept.nextId, kept.cfs, kept.power, kept.uptime, kept.clock⟩
    · exact (station k).trans (if_pos polled)
    · exact (station k).trans (if_neg (by rw [out]; nofun))
    · have dark := (sound ok).dark ((sound ok).linkOk.halted link).2.2
      exact ⟨fun n used => dark.1 n ((inUse n).trans used), dark.2⟩

end Sys2Proof.Machine
end

section
/-! How a poll cycle begins, and what its polls drive (R20, R134 to R136, R146, R207). -/

namespace Sys2Proof.Machine

/-- The first of a list of stations is polled, the others are still to come; with none the cycle has ended (R134). -/
def Part.pollFirst (s : Part) : List StationId → Part
  | [] => { s with flm := { s.flm with toPoll := [], inFlight := none } }
  | k :: rest => Part.sendPoll { s with flm := { s.flm with toPoll := rest, inFlight := none } } k

theorem Part.pollFirst_rest (s : Part) (list : List StationId) :
    (s.pollFirst list).flm.link = s.flm.link ∧ s.pollFirst list = { s with flm := (s.pollFirst list).flm } := by
  cases list <;> exact ⟨rfl, rfl⟩

/-- A list of polled stations is polled from its head on. -/
theorem Part.pollNext_eq {s : Part} (polled : ∀ k ∈ s.flm.toPoll, s.polled k = true) :
    s.pollNext = s.pollFirst s.flm.toPoll := by
  have stays : (s.flm.toPoll.dropWhile fun k => !s.polled k) = s.flm.toPoll := by
    refine List.dropWhile_eq_self_iff.2 fun some_ => ?_
    rw [polled _ (List.getElem_mem some_)]
    nofun
  rw [Part.pollNext, stays]
  cases s.flm.toPoll <;> rfl

theorem Part.beginCycle_eq_pollFirst (s : Part) : s.beginCycle = s.cycleListed.pollFirst (allStations.filter s.onList) := by
  rw [Part.beginCycle_eq]
  refine Part.pollNext_eq fun k listed => ?_
  exact (Bool.and_eq_true_iff.1 (List.mem_filter.1 listed).2).1

/-- What a cycle that begins does: the stations on its list are to be polled, the first is, and the others' probe
counts have fallen where it passed over them (R134 to R136). -/
theorem Part.beginCycle_begins (s : Part) :
    s.beginCycle.flm.link = s.flm.link ∧
    (allStations.filter s.onList = [] → s.beginCycle.flm.toPoll = [] ∧ s.beginCycle.flm.inFlight = none ∧
      ∀ k, s.beginCycle.station k = s.passedOver k) ∧
    (∀ k rest, allStations.filter s.onList = k :: rest →
      s.beginCycle.flm.toPoll = rest ∧
      s.beginCycle.flm.inFlight = some
        { station := k, tag := (s.station k).pollTag, permitValid := !decide ((s.station k).grade = .offline)
          permits := if (s.station k).grade = .offline then 0 else s.permits k
          timeoutMs := s.cfg.link.replyTimeoutMs } ∧
      s.beginCycle.station k = (s.passedOver k).polled ∧
      ∀ j, j ≠ k → s.beginCycle.station j = s.passedOver j) ∧
    s.beginCycle = { s with flm := s.beginCycle.flm } := by
  obtain ⟨link, rest⟩ := s.cycleListed.pollFirst_rest (allStations.filter s.onList)
  rw [Part.beginCycle_eq_pollFirst]
  refine ⟨link, fun none => ?_, fun k rest first => ?_, rest⟩
  · rw [none]
    exact ⟨rfl, rfl, s.cycleListed_station⟩
  · rw [first]
    have graded : (s.cycleListed.station k).grade = (s.station k).grade := by
      rw [Part.cycleListed_station, Part.passedOver_grade]
    have tagged : (s.cycleListed.station k).pollTag = (s.station k).pollTag := by
      rw [Part.cycleListed_station]
      obtain same | fewer := s.passedOver_eq k
      · rw [same]
      · rw [fewer]
    refine ⟨rfl, ?_, ?_, fun j other => ?_⟩
    · rw [← graded, ← tagged]; rfl
    · refine (Part.sendPoll_station _ k k).trans ((if_pos rfl).trans ?_)
      rw [← Part.cycleListed_station]; rfl
    · refine (Part.sendPoll_station _ k j).trans ((if_neg other).trans ?_)
      exact s.cycleListed_station j

theorem Part.passedOver_polled (s : Part) (k : StationId) : (s.passedOver k).polled = { s.passedOver k with
    pollTag := (s.station k).pollTag + 1
    probeCount := if (s.station k).grade = .offline then 7 else (s.station k).probeCount } := by
  unfold Station.polled
  rw [Part.passedOver_grade]
  by_cases offline : (s.station k).grade = .offline
  · obtain same | fewer := s.passedOver_eq k
    · simp [same, offline, Config.probeGap]
    · simp [fewer, offline, Config.probeGap]
  · have same : s.passedOver k = s.station k := if_neg (by simp [offline])
    simp [same, offline]

/-- The permit of a channel's slot is its bit (R136). -/
theorem Part.permits_bit (s : Part) (k : StationId) (c : Fin 4) :
    (s.permits k).getLsbD c.val = (s.load (slotOf k c)).phase.permit := by
  have bits : ∀ b0 b1 b2 b3 : Bool, ∀ c : Fin 4,
      (BitVec.ofBoolListLE [b0, b1, b2, b3]).getLsbD c.val = [b0, b1, b2, b3][c.val] := by decide
  refine (bits (s.load (slotOf k 0)).phase.permit (s.load (slotOf k 1)).phase.permit (s.load (slotOf k 2)).phase.permit
    (s.load (slotOf k 3)).phase.permit c).trans ?_
  fin_cases c <;> rfl

/-- Settles O37: at LINK RUN and at its own row a cycle begins alike. -/
theorem pollCycleBegins : Obligations.PollCycleBegins := by
  refine ⟨fun x => ⟨rfl, rfl⟩, fun s k c n slot reachable => ?_, fun s => ?_⟩
  · have here : slotOf k c = n := Fin.ext slot.symm
    rw [Part.permits_bit, here]
    revert reachable
    cases (s.load n).phase <;> simp [LoadPhase.permit]
  · intro offline listed passed begun
    have passes (k : StationId) : s.passedOver k = passed k := by
      simp only [passed, offline, Part.passedOver, Bool.and_eq_true, decide_eq_true_eq, and_assoc]
    have polled (k : StationId) : (s.passedOver k).polled = { passed k with
        pollTag := (s.station k).pollTag + 1
        probeCount := if offline k then 7 else (s.station k).probeCount } := by
      rw [Part.passedOver_polled, passes]
      simp only [offline, decide_eq_true_eq]
    have begins {t : State} (rest : t.toPart =
        { Part.beginCycle { s.toPart with flm := { s.flm with link := .run } } with svp := t.svp }) : begun t := by
      obtain ⟨link, none, first, frame⟩ := Part.beginCycle_begins { s.toPart with flm := { s.flm with link := .run } }
      generalize Part.beginCycle { s.toPart with flm := { s.flm with link := .run } } = u at *
      have flm : t.flm = u.flm := by rw [rest]
      have station (k : StationId) : t.station k = u.station k := by rw [Part.station, flm]; rfl
      rw [frame] at rest
      refine ⟨by rw [flm]; exact link, fun empty => ?_, fun k more head => ?_, by rw [rest], by rw [rest], by rw [rest],
        by rw [rest], by rw [rest], by rw [rest], by rw [rest], by rw [rest]⟩
      · obtain ⟨toPoll, flight, stations⟩ := none empty
        rw [flm]
        exact ⟨toPoll, flight, fun k => (station k).trans ((stations k).trans (passes k))⟩
      · obtain ⟨toPoll, flight, here, others⟩ := first k more head
        rw [flm]
        refine ⟨toPoll, flight.trans ?_, (station k).trans (here.trans (polled k)),
          fun j away => (station j).trans ((others j away).trans (passes j))⟩
        simp only [offline, decide_eq_true_eq]
        rfl
    refine ⟨fun can halt => ?_, fun works run between => ?_, fun can run => ?_, fun busy => ?_⟩
    · have served : exec .linkRun s = .next (s.answered .linkRun
          (Part.beginCycle { s.toPart with flm := { s.flm with link := .run } })
          { status := .ok, data := u8 (Part.beginCycle { s.toPart with flm := { s.flm with link := .run } }).flm.link.code }) := by
        refine (request_served can).trans ?_
        simp only [halt]
      refine ⟨_, served, begins rfl, ?_⟩
      rw [(Part.beginCycle_begins _).1]
      rfl
    · have same : s.toPart = { s.toPart with flm := { s.flm with link := .run } } := by rw [← run]
      have svp : s.beginCycle.svp = s.svp := by rw [s.beginCycle_begins.2.2.2]
      have taken : exec .pollCycleStart s = .next (s.withPart s.beginCycle) :=
        (event_taken works).trans (by rw [if_pos ⟨run, between⟩])
      refine ⟨_, taken, begins ?_, svp⟩
      rw [← same]
      rfl
    · refine (request_served can).trans ?_
      simp only [run]
      rfl
    · refine event_same (if_neg ?_)
      rintro ⟨run, free⟩
      obtain halt | busy := busy
      · rw [halt] at run; cases run
      · exact busy free

end Sys2Proof.Machine
end

section
/-! The judgement of a reply, and what a failed transaction does (R45, R134 to R139, R143, R207). -/

namespace Sys2Proof.Machine

/-! ## Judgement (R136, R207) -/

theorem readings_eq_iff (feedback level e0 e1 e2 e3 : Byte) (v : Vector Reading 4) :
    readings feedback level e0 e1 e2 e3 = v ↔ ∀ c : Fin 4, v[c] =
      { feedback := feedback.getLsbD c.val, level := level.getLsbD c.val, edges := (#v[e0, e1, e2, e3][c]).toNat } := by
  have each (c : Fin 4) : (readings feedback level e0 e1 e2 e3)[c] =
      { feedback := feedback.getLsbD c.val, level := level.getLsbD c.val, edges := (#v[e0, e1, e2, e3][c]).toNat } := by
    fin_cases c <;> rfl
  constructor
  · rintro rfl
    exact each
  · intro same
    refine Vector.ext fun i h => ?_
    exact (each ⟨i, h⟩).trans (same ⟨i, h⟩).symm

theorem judgeReply_iff (x : Transaction) (bytes : List Byte) (v : Vector Reading 4) :
    judgeReply x bytes = some v ↔ x.answeredBy bytes v := by
  constructor
  · intro judged
    unfold judgeReply at judged
    split at judged
    · next lead station tag feedback level e0 e1 e2 e3 c0 c1 trailer =>
      split at judged
      · next good =>
        obtain ⟨rfl, rfl, rfl, check⟩ := good
        refine ⟨feedback, level, trailer, #v[e0, e1, e2, e3], ?_, (readings_eq_iff _ _ _ _ _ _ _).1 (Option.some.inj judged)⟩
        show _ = 0x3C :: [_, _, _, _, _, _, _, _] ++ crcBytes [_, _, _, _, _, _, _, _] ++ [trailer]
        refine Eq.trans ?_ (congrArg (fun crc => 0x3C :: [byte x.station.val, x.tag, feedback, level, e0, e1, e2, e3] ++
          crc ++ [trailer]) check)
        rfl
      · cases judged
    · cases judged
  · rintro ⟨feedback, level, trailer, edges, rfl, spelled⟩
    obtain ⟨e0, e1, e2, e3, rfl⟩ : ∃ e0 e1 e2 e3, edges = #v[e0, e1, e2, e3] := by
      refine ⟨edges[0], edges[1], edges[2], edges[3], Vector.ext fun i h => ?_⟩
      have := h
      interval_cases i <;> rfl
    have same := (readings_eq_iff feedback level e0 e1 e2 e3 v).2 spelled
    exact (if_pos ⟨rfl, rfl, rfl, rfl⟩).trans (congrArg some same)

theorem goodChars_iff (x : Transaction) (chars : List Received) :
    goodChars x chars = true ↔
      (∀ c ∈ chars, c.ninth = true) ∧ ∃ v, x.answeredBy (chars.map Received.value) v := by
  simp only [goodChars, byteError, Bool.and_eq_true, Bool.not_eq_true', List.any_eq_false,
    Bool.not_eq_false, Option.isSome_iff_exists, judgeReply_iff]

/-! ## Failure (R137 to R139, R143) -/

/-- A station's record after the poll that ends a handling, sent to it or not (R135, R136). -/
theorem Part.pollNext_station (s : Part) (k : StationId) :
    s.pollNext.station k = s.station k ∨ s.pollNext.station k = (s.station k).polled := by
  obtain ended | ⟨j, rest, -, -, sent⟩ := s.pollNext_cases
  · rw [ended]; exact .inl rfl
  · rw [sent, Part.sendPoll_station]
    split
    · next here => rw [here]; exact .inr rfl
    · exact .inl rfl

/-- A poll changes of a station's record the tag and the probe count alone. -/
theorem Part.pollNext_record (s : Part) (k : StationId) :
    s.pollNext.station k = { s.station k with
      pollTag := (s.pollNext.station k).pollTag, probeCount := (s.pollNext.station k).probeCount } := by
  obtain same | sent := s.pollNext_station k
  · rw [same]
  · rw [sent]; rfl

theorem Part.pollNext_rest (s : Part) : s.pollNext = { s with flm := s.pollNext.flm } ∧
    s.pollNext.flm.link = s.flm.link := by
  obtain ended | ⟨j, rest, -, -, sent⟩ := s.pollNext_cases
  · rw [ended]; exact ⟨rfl, rfl⟩
  · rw [sent]; exact ⟨rfl, rfl⟩

theorem Part.failPoll_work (s : Part) (k : StationId) :
    (s.setStation k (s.station k).afterFailure).LoadWork (s.failPoll k) := by
  unfold Part.failPoll
  exact .ite _ (.trans (.ite _ (.refl _) (Part.loadWork_raise _ _)) (Part.loadWork_loseLoads _ _))
    (.ite _ (.refl _) (Part.loadWork_raise _ _))

/-- A failure that takes a station OFFLINE raises STATION and loses its loads (R45, R139, R143). -/
theorem Part.failPoll_lost {s : Part} {k : StationId} (awake : (s.station k).grade ≠ .offline)
    (lost : (s.station k).afterFailure.grade = .offline) :
    s.failPoll k = ((s.setStation k (s.station k).afterFailure).raise (.station k)).loseLoads k := by
  unfold Part.failPoll
  dsimp only
  have moved : (s.station k).afterFailure.grade ≠ (s.station k).grade := fun same => awake (same.symm.trans lost)
  rw [if_pos (by simp [awake, lost]), if_neg moved]

/-- A station's counter and grade after a failure while it is not OFFLINE (R138, R139). -/
theorem Station.afterFailure_awake {r : Station} (awake : r.grade ≠ .offline) :
    r.afterFailure.err = min 255 (r.err + 8) ∧
    r.afterFailure.grade = (if min 255 (r.err + 8) = 255 then .offline
      else if 96 ≤ min 255 (r.err + 8) then .suspect else r.grade) ∧
    (min 255 (r.err + 8) = 255 → r.afterFailure.forcedAuto = false ∧ r.afterFailure.recoverArmed = false) := by
  unfold Station.afterFailure Station.failed
  simp only [awake, if_false, Config.errMax, Config.errStep, Config.errSuspect]
  by_cases full : min 255 (r.err + 8) = 255
  · simp [full]
  · by_cases high : 96 ≤ min 255 (r.err + 8)
    · cases grade : r.grade with
      | offline => exact absurd grade awake
      | online | suspect => simp [full, high]
    · simp [full, high]

theorem Station.afterFailure_counts (r : Station) :
    r.afterFailure.missed = min 65535 (r.missed + 1) ∧ r.afterFailure.goodRun = 0 := by
  unfold Station.afterFailure Station.failed
  dsimp only
  split_ifs <;> exact ⟨rfl, rfl⟩

theorem Station.afterFailure_asleep {r : Station} (offline : r.grade = .offline) :
    r.afterFailure = { r with missed := min 65535 (r.missed + 1), goodRun := 0 } := by
  unfold Station.afterFailure
  exact if_pos offline

/-- What a failed transaction does, from its end to the next poll (R137 to R139, R143). -/
theorem Part.failPoll_fails (s : Part) {k : StationId} {t : Part} (ended : (s.finish (s.failPoll k)).pollNext = t) :
    let err := min 255 ((s.station k).err + 8)
    (t.station k).missed = min 65535 ((s.station k).missed + 1) ∧ (t.station k).goodRun = 0 ∧
    ((s.station k).grade = .offline →
      (t.station k).grade = .offline ∧ (t.station k).err = (s.station k).err ∧
      (t.station k).forcedAuto = (s.station k).forcedAuto ∧
      (t.station k).recoverArmed = (s.station k).recoverArmed) ∧
    ((s.station k).grade ≠ .offline →
      (t.station k).err = err ∧
      (t.station k).grade = (if err = 255 then .offline else if 96 ≤ err then .suspect else (s.station k).grade) ∧
      (err = 255 → (t.station k).forcedAuto = false ∧ (t.station k).recoverArmed = false ∧
        t.atl.pending.getLsbD 1 = true ∧ t.atl.details[1] = some (.station k) ∧
        (s.LoadsOk → ∀ n : LoadId, s.inUse n = true → stationOf n = k → (t.load n).phase = .unreachable))) ∧
    s.cycleGoesOn t ∧ t.flm.link = s.flm.link := by
  intro err
  have failed := s.failPoll_work k
  have closed := s.follows_finish (s.failPoll k)
  have raises : (s.station k).grade ≠ .offline → err = 255 →
      (s.failPoll k).atl.pending.getLsbD 1 = true ∧ (s.failPoll k).atl.details[1] = some (.station k) ∧
      (s.LoadsOk → (s.failPoll k).Sound ∧ ∀ n : LoadId, s.inUse n = true → stationOf n = k →
        ((s.failPoll k).load n).phase = .unreachable) := by
    intro awake full
    have lost := Part.failPoll_lost awake ((Station.afterFailure_awake awake).2.1.trans (if_pos full))
    obtain ⟨pending, details⟩ := Part.sameCauses_loseLoads
      ((s.setStation k (s.station k).afterFailure).raise (.station k)) k 1 (by decide)
    rw [← lost] at pending details
    refine ⟨pending.trans (Part.raise_pending _ (.station k)), details.trans (Part.raise_details _ (.station k)),
      fun ok => ?_⟩
    have base := (Part.keeps_raise _ (.station k)).sound (ok.sound.setStation k (s.station k).afterFailure)
    obtain ⟨sound, gone⟩ := Part.loseLoads_sound base k
    rw [← lost] at sound gone
    exact ⟨sound, fun n used here => (gone n).2 (.inl ⟨here, used⟩)⟩
  obtain ⟨tags, cfg, list⟩ := s.failPoll_keeps k
  have goesOn : s.cycleGoesOn t := ended ▸ Part.finish_pollNext list cfg tags
  have record : (s.finish (s.failPoll k)).station k = (s.station k).afterFailure := by
    rw [closed.keeps.station, failed.station, Part.setStation_station_self]
  have link : (s.finish (s.failPoll k)).flm.link = s.flm.link := by
    rw [closed.work.flm, failed.flm]; rfl
  obtain ⟨rest, linked⟩ : t = { s.finish (s.failPoll k) with flm := t.flm } ∧
      t.flm.link = (s.finish (s.failPoll k)).flm.link := ended ▸ (s.finish (s.failPoll k)).pollNext_rest
  have after : t.station k = { (s.finish (s.failPoll k)).station k with
      pollTag := (t.station k).pollTag, probeCount := (t.station k).probeCount } :=
    ended ▸ (s.finish (s.failPoll k)).pollNext_record k
  rw [record] at after
  have pending := closed.causes 1 (by decide) (by decide) (by decide)
  have lost (n : LoadId) (sound : (s.failPoll k).Sound) := closed.unreachable sound n
  clear closed failed tags cfg list record ended
  generalize s.finish (s.failPoll k) = u at *
  generalize s.failPoll k = w at *
  obtain ⟨missed, goodRun⟩ := (s.station k).afterFailure_counts
  refine ⟨by rw [after]; exact missed, by rw [after]; exact goodRun, fun asleep => ?_, fun awake => ?_, goesOn,
    linked.trans link⟩
  · rw [after, Station.afterFailure_asleep asleep]
    exact ⟨asleep, rfl, rfl, rfl⟩
  · obtain ⟨counter, grade, cleared⟩ := Station.afterFailure_awake awake
    refine ⟨by rw [after]; exact counter, by rw [after]; exact grade, fun full => ?_⟩
    obtain ⟨forced, armed⟩ := cleared full
    obtain ⟨raised, named, gone⟩ := raises awake full
    refine ⟨by rw [after]; exact forced, by rw [after]; exact armed, ?_, ?_, fun ok n used here => ?_⟩
    · rw [rest]; exact pending.1.trans raised
    · rw [rest]; exact pending.2.trans named
    · obtain ⟨sound, dark⟩ := gone ok
      rw [rest]
      exact (lost n sound).2 (dark n used here)

/-- A row at which a reply arrives or fails to, where nothing is in flight (R136). -/
theorem exec_reply_idle {s : State} {c : Instr} (idle : s.flm.inFlight = none)
    (which : c = .replyTimeout ∨ c = .replyGapTimeout ∨ (∃ bytes, c = .pollReplyGood bytes) ∨
      (∃ chars, c = .pollReplyBad chars)) : exec c s = .next s := by
  obtain rfl | rfl | ⟨bytes, rfl⟩ | ⟨chars, rfl⟩ := which
  · show execReplyTimeout s = _
    exact event_same (by simp only [idle])
  · show execReplyGapTimeout s = _
    exact event_same (by simp only [idle])
  · show execPollReplyGood bytes s = _
    exact event_same (by simp only [idle])
  · show execPollReplyBad chars s = _
    exact event_same (by simp only [idle])

/-- The rows that end a transaction in failure (R136, R207). -/
theorem exec_reply_fails {s : State} {x : Transaction} {c : Instr} (works : s.working = true)
    (flown : s.flm.inFlight = some x)
    (which : c = .replyTimeout ∨ c = .replyGapTimeout ∨ ∃ chars, c = .pollReplyBad chars ∧ goodChars x chars = false) :
    exec c s = .next (s.withPart (s.failTransaction x)) := by
  obtain rfl | rfl | ⟨chars, rfl, bad⟩ := which
  · show execReplyTimeout s = _
    exact (event_taken works).trans (by simp only [flown])
  · show execReplyGapTimeout s = _
    exact (event_taken works).trans (by simp only [flown])
  · show execPollReplyBad chars s = _
    exact (event_taken works).trans (by simp only [flown, bad]; rfl)

/-- Settles O38: each row that ends a transaction in failure is one `failTransaction`, and of that what the station and its
loads come to is read off. -/
theorem failedPoll : Obligations.FailedPoll := by
  refine ⟨judgeReply_iff, goodChars_iff, fun s c idle which => exec_reply_idle idle which,
    fun s x flown => ⟨fun bytes bad => ?_, fun chars good => ?_⟩, fun s x c works flown which => ?_⟩
  · show execPollReplyGood bytes s = _
    exact event_same (by simp only [flown, bad])
  · show execPollReplyBad chars s = _
    exact event_same (by simp only [flown, good, if_true])
  · have kept := s.keepsHolds_failTransaction x
    have fails := s.failPoll_fails (k := x.station) (t := s.failTransaction x) rfl
    rw [exec_reply_fails works flown which]
    generalize s.failTransaction x = u at *
    obtain ⟨missed, goodRun, asleep, awake, goesOn, link⟩ := fails
    exact ⟨_, rfl, missed, goodRun, asleep, awake, goesOn, link, kept.holds, kept.cfs, kept.power, kept.uptime, kept.clock⟩

end Sys2Proof.Machine
end

section
/-! The timers and edges that hand nothing over (R23, R89, R115, R151, R154, R156, R160). -/

namespace Sys2Proof.Machine

theorem Part.takeLine_due {s : Part} {line : Line} {due : Debounce → Nat → Bool} (level : Level) (then_ : Part → Part)
    (inUse : s.cfg.lineInUse line = true) (now : due (s.lin.debounce line) (s.cfg.sampleCount line) = true) :
    s.takeLine line due level then_ = then_ (s.setDebounce line (.at_ level)) := by
  simp [Part.takeLine, inUse, now]

theorem Part.takeLine_idle {s : Part} {line : Line} {due : Debounce → Nat → Bool} (level : Level) (then_ : Part → Part)
    (notYet : due (s.lin.debounce line) (s.cfg.sampleCount line) = false) : s.takeLine line due level then_ = s := by
  simp [Part.takeLine, notYet]

section
variable {d : Debounce} {limit : Nat}

/-- A record below its sample count shows nothing due (R151). -/
theorem Debounce.nothing_due (below : d.run < limit) :
    d.risingDue limit = false ∧ d.fallingDue limit = false ∧ d.levelDue limit = false := by
  have : ¬ limit ≤ d.run := by omega
  simp [Debounce.risingDue, Debounce.fallingDue, Debounce.levelDue, this]

theorem Debounce.fallingDue_of (level : d.level = .active) (run : limit ≤ d.run) : d.fallingDue limit = true := by
  simp [Debounce.fallingDue, level, run]

theorem Debounce.risingDue_of (level : d.level = .inactive) (run : limit ≤ d.run) : d.risingDue limit = true := by
  simp [Debounce.risingDue, level, run]

theorem Debounce.levelDue_of (level : d.level = .unknown) (run : limit ≤ d.run) {active : Bool}
    (last : d.previous = some active) : d.levelDue limit = true := by
  simp [Debounce.levelDue, level, run, last]

end

/-! ## Timers (R23, R89, R115) -/

section
variable {s : State}

theorem exec_activityWindowExpiry {n : LoadId} {w : Nat} (works : s.working = true)
    (open_ : (s.load n).activityWindow = some w) :
    exec (.activityWindowExpiry n) s =
      if w + 60 ≤ s.now then
        .next (s.withPart (s.setLoad n { s.load n with activityCount := 0, activityWindow := none }))
      else .next s := by
  show execActivityWindowExpiry n s = _
  rw [execActivityWindowExpiry, event_taken works, open_]
  by_cases done : w + 60 ≤ s.now <;> simp [done, Config.activityWindow, State.withPart]

theorem exec_activityWindowExpiry_closed {n : LoadId} (closed : (s.load n).activityWindow = none) :
    exec (.activityWindowExpiry n) s = .next s := by
  show execActivityWindowExpiry n s = _
  refine event_same ?_
  rw [closed]

theorem exec_cancelledMarkPassed {next : Option NextNight} {mark : Nat} (works : s.working = true)
    (day : s.ncc.mode = .day next (some mark)) :
    exec .cancelledMarkPassed s =
      if mark < s.now then .next (s.withPart (s.setMode (.day next none))) else .next s := by
  show execCancelledMarkPassed s = _
  rw [execCancelledMarkPassed, event_taken works, day]
  by_cases passed : mark < s.now <;> simp [passed, State.withPart]

end

/-- Settles O56: each timer, and each edge by its debounce record, taken or not. -/
theorem plainTimersAndEdges : Obligations.PlainTimersAndEdges := by
  refine ⟨fun s n works => ⟨fun w open_ => exec_activityWindowExpiry works open_, exec_activityWindowExpiry_closed, ?_,
    fun next mark => exec_cancelledMarkPassed works⟩, fun s works => ⟨?_, ?_, ?_, ?_, ?_⟩⟩
  · show execStartHistoryAgeOut n s = _
    rw [execStartHistoryAgeOut, event_taken works]
    rfl
  · intro p key inUse level run
    show execKeyRelease p key s = _
    rw [execKeyRelease, event_taken works,
      Part.takeLine_due (s := s.toPart) (line := .key p key) _ _ inUse (Debounce.fallingDue_of level run)]
    rfl
  · intro l inUse level run
    show execCallFallingEdge l s = _
    rw [execCallFallingEdge, event_taken works,
      Part.takeLine_due (s := s.toPart) (line := .call l) _ _ inUse (Debounce.fallingDue_of level run)]
    rfl
  · intro line active inUse level last run
    show execLevelQualifiedFromUnknown line s = _
    rw [execLevelQualifiedFromUnknown, event_taken works,
      Part.takeLine_due (s := s.toPart) _ _ inUse (Debounce.levelDue_of level run last)]
    simp [Debounce.sampledLevel, last, Debounce.at_]
  · intro line below
    exact event_same (Part.takeLine_idle _ _ (Debounce.nothing_due below).2.2)
  · intro p below
    obtain ⟨rising, falling, -⟩ := Debounce.nothing_due (d := s.lin.keep[p]) below
    have press : execKeepPress p s = .next s := event_same (Part.takeLine_idle _ _ rising)
    exact ⟨press, event_same (Part.takeLine_idle (line := .key p .keep) _ _ falling)⟩

end Sys2Proof.Machine
end

section
/-! SET MODE SETUP (R27, R73, R88, R116, R126). -/

namespace Sys2Proof.Machine

/-- The Hold Table cleared: the holds go, which is raised where there were any, and lamps are chosen (R73). -/
theorem Part.clearHolds_eq (s : Part) :
    ∃ lamps, s.clearHolds = { s with
      holds := [], lin := { s.lin with lamps := lamps }
      atl := (if s.holds = [] then s else s.raise (.holdRetired 0)).atl } := by
  unfold Part.clearHolds
  by_cases none : s.holds = []
  · rw [if_pos (by simp [none]), if_pos none]
    refine ⟨s.lin.lamps, ?_⟩
    cases s
    dsimp only at none
    subst none
    rfl
  · rw [if_neg (by simpa using none), if_neg none, Part.chooseLamps_eq]
    exact ⟨_, rfl⟩

/-- An entry to SETUP, whole (R116, R126). -/
theorem Part.applyMove_setup_eq (s : Part) :
    ∃ loads lamps due, (s.applyMove .setup).1 = { s with
      loads := loads, holds := [], ncc := { s.ncc with mode := .setup }, lin := { s.lin with lamps := lamps }
      dgv := { s.dgv with queue := [], startingOrigin := Vector.replicate 64 none }, checksDue := due
      atl := ((if s.holds = [] then s else s.raise (.holdRetired 0)).raise (.mode .setup false)).atl } := by
  obtain ⟨lamps, due, told⟩ := s.tellMode_eq .setup
  obtain ⟨lamps', cleared⟩ := (s.tellMode .setup).clearHolds_eq
  have entered : (s.applyMove .setup).1 = (s.tellMode .setup).clearHolds.loadsToLocal.raiseMode false := rfl
  have holds : (s.tellMode .setup).holds = s.holds := s.tellMode_holds _
  rw [entered, cleared, holds, told]
  by_cases none : s.holds = []
  · simp only [none, if_pos]
    exact ⟨_, _, _, rfl⟩
  · simp only [none, if_neg, not_false_eq_true]
    exact ⟨_, _, _, rfl⟩

/-- What an entry to SETUP makes of a load in use (R27, R88). -/
theorem Part.applyMove_setup_load (s : Part) {n : LoadId} (used : s.inUse n = true) :
    ∃ changed, (s.applyMove .setup).1.load n = { s.load n with
      phase := if (s.load n).phase = .unreachable then .unreachable else .localRun
      stopPending := false, heldEnqueue := none, changed := changed } := by
  obtain ⟨_, cleared⟩ := (s.tellMode .setup).clearHolds_eq
  have load : (s.tellMode .setup).clearHolds.load n = (s.tellMode .setup).load n := by rw [cleared]; rfl
  have inUse : (s.tellMode .setup).clearHolds.inUse n = true :=
    (((Part.modeWork_clearHolds _).inUse n).trans ((s.modeWork_tellMode _).inUse n)).trans used
  have taken : (s.applyMove .setup).1.load n = _ := tabulate_getElem _ n.val n.isLt
  rw [taken]
  dsimp only
  rw [if_pos inUse, load, Part.tellMode_load]
  split
  · next moves =>
    have runs := (Bool.and_eq_true_iff.1 moves).1
    have reachable : (s.load n).phase ≠ .unreachable := fun lost => by rw [lost] at runs; cases runs
    exact ⟨_, by simp [reachable, runningPhase, Part.mode, Part.setMode]; rfl⟩
  · exact ⟨_, rfl⟩

/-- Settles O15: the entry to SETUP is computed, and its close does no more than compute D. -/
theorem setModeSetup : Obligations.SetModeSetup := by
  intro s next mark can day
  have awake : (.setup : Mode) ≠ s.mode := by rw [Part.mode_of_day day]; nofun
  have request : s.modeRequest .setup = .move .setup := by
    unfold Part.modeRequest
    rw [day]
  have asked : s.askMode .setup = s.moveMode .setup := by
    rw [Part.askMode, if_neg awake, request]
  obtain ⟨loads, lamps, due, entered⟩ := s.applyMove_setup_eq
  have load {n : LoadId} := s.applyMove_setup_load (n := n)
  obtain ⟨demand, scanDue, closed⟩ := Part.finish_of_setup (after := s.changeMode .setup) s.toPart
    (by rw [Part.changeMode_setup, entered]; rfl)
  rw [Part.changeMode_setup] at closed
  rw [exec_setMode_named (m := .setup) can rfl, asked, Part.moveMode, Part.changeMode_setup, closed]
  rw [entered] at load ⊢
  refine ⟨_, rfl, rfl, rfl, rfl, rfl, rfl, fun n => Vector.getElem_replicate n.isLt, fun n used => ?_, ?_, ?_,
    fun live => ?_, rfl, rfl, rfl, rfl, rfl, rfl⟩
  · obtain ⟨changed, record⟩ := load used
    have record : loads[n] = _ := record
    show (loads[n]).phase = _ ∧ (loads[n]).stopPending = _ ∧ (loads[n]).heldEnqueue = _ ∧ (loads[n]).feedback = _ ∧
      (loads[n]).startHistory = _ ∧ (loads[n]).startedAt = _ ∧ (loads[n]).stoppedAt = _
    rw [record]
    exact ⟨rfl, rfl, rfl, rfl, rfl, rfl, rfl⟩
  · exact Part.raise_pending _ (.mode .setup false)
  · exact Part.raise_details _ (.mode .setup false)
  · obtain ⟨pending, details⟩ := Part.raise_others (if s.holds = [] then s.toPart else s.raise (.holdRetired 0))
      (.mode .setup false) (i := 4) (by decide)
    rw [if_neg live] at pending details
    rw [if_neg live]
    exact ⟨pending.trans (s.raise_pending (.holdRetired 0)), details.trans (s.raise_details (.holdRetired 0))⟩

end Sys2Proof.Machine
end

section
/-! The close of a handling: outside WAKE, and in WAKE by a clock in range, it stops loads that run and moves the mode,
and asks for no load (R30, R92, R124). -/

namespace Sys2Proof.Machine

/-- From s to t loads that ran have been stopped or have taken another running state, the mode has moved or D has been
computed; no load has been asked for or withdrawn. -/
structure Part.Calms (s t : Part) : Prop where
  follows : s.Follows t
  queue : t.dgv.queue = s.dgv.queue
  nextSeq : t.dgv.nextSeq = s.dgv.nextSeq
  still : ∀ n, (s.load n).phase.running = false → t.load n = s.load n
  unstopped : ∀ n, (s.load n).stopPending = false → (t.load n).stopPending = false
  spared : s.mode ≠ .night → t.mode ≠ .night ∧ ∀ n, (s.load n).phase.running = true →
    (s.load n).stopPending = false → (t.load n).phase.running = true
  causes : ∀ i : Fin 8, i ≠ 5 → i ≠ 6 →
    t.atl.pending.getLsbD i = s.atl.pending.getLsbD i ∧ t.atl.details[i] = s.atl.details[i]

section
variable {s t u : Part}

theorem Part.Calms.refl (s : Part) : s.Calms s :=
  ⟨.refl s, rfl, rfl, fun _ _ => rfl, fun _ h => h, fun live => ⟨live, fun _ h _ => h⟩, fun _ _ _ => ⟨rfl, rfl⟩⟩

theorem Part.Calms.trans (h : s.Calms t) (g : t.Calms u) : s.Calms u where
  follows := h.follows.trans g.follows
  queue := g.queue.trans h.queue
  nextSeq := g.nextSeq.trans h.nextSeq
  still n rests := by
    have first := h.still n rests
    exact (g.still n (first ▸ rests)).trans first
  unstopped n none := g.unstopped n (h.unstopped n none)
  spared light := by
    obtain ⟨light', runs'⟩ := h.spared light
    obtain ⟨light'', runs''⟩ := g.spared light'
    exact ⟨light'', fun n runs none => runs'' n (runs' n runs none) (h.unstopped n none)⟩
  causes i a b := by
    obtain ⟨pending, details⟩ := h.causes i a b
    obtain ⟨pending', details'⟩ := g.causes i a b
    exact ⟨pending'.trans pending, details'.trans details⟩

theorem Part.Calms.queuedLoads (h : s.Calms t) : t.queuedLoads = s.queuedLoads := congrArg (List.map Entry.load) h.queue

theorem Part.Calms.entry? (h : s.Calms t) (n : LoadId) : t.entry? n = s.entry? n := by
  rw [Part.entry?, h.queue]; rfl

/-- An update of what no load and no entry reads, the mode staying. -/
theorem Part.Calms.of_same (follows : s.Follows t) (mode : t.mode = s.mode) (loads : t.loads = s.loads)
    (queue : t.dgv.queue = s.dgv.queue)
    (nextSeq : t.dgv.nextSeq = s.dgv.nextSeq)
    (causes : ∀ i : Fin 8, i ≠ 5 → i ≠ 6 →
      t.atl.pending.getLsbD i = s.atl.pending.getLsbD i ∧ t.atl.details[i] = s.atl.details[i]) : s.Calms t :=
  have load (n : LoadId) : t.load n = s.load n := by rw [Part.load, loads]; rfl
  ⟨follows, queue, nextSeq, fun n _ => load n, fun n none => by rw [load]; exact none,
    fun light => ⟨mode ▸ light, fun n runs _ => by rw [load]; exact runs⟩, causes⟩

theorem Part.calms_settleChecks (before s : Part) : s.Calms (before.settleChecks s) :=
  .of_same (before.follows_settleChecks s) rfl rfl rfl rfl fun _ _ _ => ⟨rfl, rfl⟩

theorem Part.calms_recomputeDemand (before s : Part) : s.Calms (before.recomputeDemand s) :=
  .of_same (before.follows_recomputeDemand s) (before.loadWork_recomputeDemand s).mode (by simp) (by simp)
    (by simp [Part.recomputeDemand]) fun _ _ _ => by simp [Part.recomputeDemand]

/-- A stop that a check begins: outside NIGHT, of a load with a pending stop (R29, R34). -/
theorem Part.calms_enterStopping {n : LoadId} (stops : s.stopsNow n = true) : s.Calms (s.enterStopping n) where
  follows := Part.follows_enterStopping (Part.stopsNow_running stops).1 (Part.stopsNow_running stops).2
  queue := by simp [Part.enterStopping]
  nextSeq := by simp [Part.enterStopping]
  still k rests := by
    rw [Part.enterStopping_load, if_neg fun same => by rw [same, (Part.stopsNow_running stops).1] at rests; cases rests]
  unstopped k none := by rw [Part.enterStopping_load]; split <;> first | rfl | exact none
  spared light := by
    refine ⟨by rw [(s.loadWork_enterStopping n).mode]; exact light, fun k runs none => ?_⟩
    rw [Part.enterStopping_load, if_neg fun same => ?_]
    · exact runs
    · subst same
      simp [Part.stopsNow, Part.idleStopDue, none, light] at stops
  causes _ _ _ := by simp [Part.enterStopping]

theorem Part.calms_takeChecks (fuel : Nat) (s : Part) (due : List LoadId) : s.Calms (s.takeChecks fuel due) := by
  induction fuel generalizing s due with
  | zero => exact .refl s
  | succ fuel ih =>
    have stops {n : LoadId} (listed : n ∈ due.filter s.stopsNow) := (List.mem_filter.1 listed).2
    unfold Part.takeChecks
    split
    · exact .refl s
    · next n alone =>
      exact (Part.calms_enterStopping (stops (n := n) (by rw [alone]; exact List.mem_singleton_self n))).trans (ih _ _)
    · next n m rest several =>
      have passes := stops (n := (n :: m :: rest).getD (Config.freeChoice s.freeCount % (rest.length + 2)) n)
        (by rw [several]; exact getD_freeChoice_mem n m rest _)
      have chosen : s.Calms s.nextChoice := .of_same s.follows_nextChoice rfl rfl rfl rfl fun _ _ _ => ⟨rfl, rfl⟩
      exact (chosen.trans (Part.calms_enterStopping (s := s.nextChoice) passes)).trans (ih _ _)

theorem Part.calms_recheck (before s : Part) : s.Calms (before.recheck s) :=
  (Part.calms_takeChecks 64 s _).trans (before.calms_settleChecks _)

/-! ## The moves to DAY and WIND_DOWN (R116, R125) -/

theorem Part.raise_spares (s : Part) (d : Detail) (own : d.cause = .mode ∨ d.cause = .plan) {i : Fin 8} (a : i ≠ 5)
    (b : i ≠ 6) :
    (s.raise d).atl.pending.getLsbD i = s.atl.pending.getLsbD i ∧ (s.raise d).atl.details[i] = s.atl.details[i] := by
  refine s.raise_others d fun same => ?_
  obtain own | own := own <;> rw [own] at same
  · exact a same
  · exact b same

theorem Part.calms_raiseMode (s : Part) (late : Bool) : s.Calms (s.raiseMode late) :=
  .of_same (s.follows_raiseMode late) rfl rfl rfl rfl fun _ a b => s.raise_spares (.mode s.mode late) (.inl rfl) a b

theorem Part.calms_tellMode {m : ModeState} (live : (s.setMode m).mode ≠ .setup) (light : (s.setMode m).mode ≠ .night) :
    s.Calms (s.tellMode m) where
  follows := Part.follows_tellMode live
  queue := by rw [Part.tellMode_dgv]
  nextSeq := by rw [Part.tellMode_dgv]
  still n rests := by rw [Part.tellMode_load, rests]; rfl
  unstopped n none := by rw [Part.tellMode_load]; split <;> exact none
  spared _ := by
    refine ⟨by rw [s.tellMode_mode]; exact light, fun n runs _ => ?_⟩
    rw [Part.tellMode_load]
    split
    · exact runningPhase_running _
    · exact runs
  causes _ _ _ := by rw [Part.tellMode_atl]; exact ⟨rfl, rfl⟩

theorem Part.calms_swapIfArmed (s : Part) : s.Calms s.swapIfArmed := by
  refine .of_same s.follows_swapIfArmed (by rw [Part.mode, Part.swapIfArmed_ncc]; rfl) s.swapIfArmed_loads ?_ ?_
    fun i a b => ?_ <;> unfold Part.swapIfArmed <;> split
  · rfl
  · rfl
  · rfl
  · rfl
  · exact Part.raise_spares (Part.setCeilings _ _ _) (.plan s.cfg.staged.planNo) (.inr rfl) a b
  · exact ⟨rfl, rfl⟩

theorem Part.calms_setLate (s : Part) (late : Bool) : s.Calms (s.setLate late) :=
  .of_same (s.follows_setLate late) rfl rfl rfl rfl fun _ _ _ => ⟨rfl, rfl⟩

theorem Part.calms_applyMove_day (s : Part) (late : Bool) (mark : Option Nat) :
    s.Calms (s.applyMove (.day late mark)).1 := by
  have told : s.Calms (s.tellMode (.day none none)) := Part.calms_tellMode nofun nofun
  have late_ := (s.tellMode (.day none none)).calms_setLate late
  have day : ((s.tellMode (.day none none)).setLate late).swapIfArmed.mode = .day := by
    rw [Part.mode, Part.swapIfArmed_ncc]; exact s.tellMode_mode (.day none none)
  have entered (m : ModeState) (same : Part.mode (Part.setMode _ m) = .day) :
      ((s.tellMode (.day none none)).setLate late).swapIfArmed.Calms
        (((s.tellMode (.day none none)).setLate late).swapIfArmed.setMode m) :=
    .of_same (Part.follows_setMode (same.trans day.symm)) (same.trans day.symm) rfl rfl rfl fun _ _ _ => ⟨rfl, rfl⟩
  exact (((told.trans late_).trans (Part.calms_swapIfArmed _)).trans (entered (.day _ mark) rfl)).trans
    (Part.calms_raiseMode _ late)

theorem Part.calms_applyMove_windDown (s : Part) (deadline : Nat) (scheduled : Bool) :
    s.Calms (s.applyMove (.windDown deadline scheduled)).1 :=
  (Part.calms_tellMode (m := .windDown deadline scheduled) nofun nofun).trans (Part.calms_raiseMode _ false)

/-- By a clock in range a move to DAY ends in DAY or in the warning of its night (R115, R125). -/
theorem Part.calms_changeMode_day (ok : s.ClockOk) (late : Bool) :
    s.Calms (s.changeMode (.day late none)) ∧ (s.changeMode (.day late none)).mode ≠ .wake := by
  obtain ⟨enters, next, -⟩ := s.applyMove_day late none
  by_cases stays : s.dayStays none
  · rw [Part.changeMode_day_stays stays]
    exact ⟨s.calms_applyMove_day late none, by rw [Part.mode_of_day enters.mode]; nofun⟩
  · obtain ⟨night, found, begun⟩ : ∃ night, s.dayNight none = some night ∧ night.warnStart ≤ s.now := by
      simpa [Part.dayStays] using stays
    have ahead : s.now < night.nightStart :=
      Part.ClockOk.nextNight (s := { s with cfg := s.dayPlans }) ok found
    have warned : nextNightMove (s.dayNight none) s.now = some (.windDown night.nightStart true) := by
      rw [found]; exact if_pos begun
    have warning := Part.changeMode_day_passesOn (late := late) found begun ahead
    refine ⟨?_, by rw [Part.mode_of_windDown warning.mode]; nofun⟩
    have day := s.calms_applyMove_day late none
    have now : (s.applyMove (.day late none)).1.now = s.now := (s.modeWork_applyMove _).now
    rw [Part.changeMode, Part.runMoves_some, next, warned, Part.runMoves_some]
    generalize (s.applyMove (.day late none)).1 = w at day now
    obtain ⟨_, _, _, moved⟩ := Part.applyMove_windDown (s := w) true (now.symm ▸ ahead)
    have down := w.calms_applyMove_windDown night.nightStart true
    rw [moved, Part.runMoves_none]
    rw [moved] at down
    exact day.trans down

/-- The end test of WAKE (R124). -/
theorem Part.calms_wakeEndTest (quiet : s.mode ≠ .wake ∨ s.ClockOk) :
    s.Calms s.wakeEndTest ∧ s.wakeEndTest.wakeSettled := by
  by_cases settled : s.wakeSettled
  · rw [Part.wakeEndTest_settled settled]
    exact ⟨.refl s, settled⟩
  · obtain ⟨wake, idle⟩ : s.mode = .wake ∧ s.wakeWork = false := by simpa [Part.wakeSettled] using settled
    have ok := quiet.resolve_left (absurd wake)
    have ends : s.wakeEndTest = s.changeMode (.day false none) := if_pos (by simp [wake, idle])
    obtain ⟨calm, awake⟩ := Part.calms_changeMode_day ok false
    rw [ends]
    exact ⟨calm, fun now => absurd now awake⟩

theorem Part.calms_finish (before : Part) (quiet : s.mode ≠ .wake ∨ s.ClockOk) :
    s.Calms (before.finish s) ∧ (before.finish s).wakeSettled := by
  have checked := (before.calms_recheck s).trans (before.calms_recomputeDemand _)
  have work := (before.loadWork_recheck s).trans (before.loadWork_recomputeDemand _)
  have still : (before.recomputeDemand (before.recheck s)).mode ≠ .wake ∨
      (before.recomputeDemand (before.recheck s)).ClockOk := by
    rw [work.mode, Part.ClockOk, work.ncc]
    exact quiet
  obtain ⟨ended, settled⟩ := Part.calms_wakeEndTest still
  exact ⟨(checked.trans ended).trans (before.calms_settleChecks _), settled⟩

end

end Sys2Proof.Machine
end

section
/-! Requests, pull-up, orphans and need reviews as a run of small steps, each of which changes one load or one entry: a
property of the plant that every such step keeps is kept by all of them (R35, R80 to R87). -/

namespace Sys2Proof.Machine

/-- A kept request after another one (R35). -/
def LoadRecord.keptRequest (r : LoadRecord) (o : Origin) : Origin :=
  match r.heldEnqueue with | some h => h.merge o | none => o

/-- The load has an entry that was pulled, or has none and is in OFF. -/
def Part.pulledOrGone (s : Part) (n : LoadId) : Prop :=
  (∃ e ∈ s.dgv.queue, e.load = n ∧ ∃ p, e.origin = .pull p) ∨ (n ∉ s.queuedLoads ∧ (s.load n).phase = .off)

/-- What a run of requests may do besides: withdraw by a review, ask with these origins of rank HOLD, CALL or COMMAND, and
withdraw orphans where nothing has been raised. -/
structure Licence where
  review : Prop := False
  high : Origin → Prop := fun _ => False
  silent : Prop := False

/-- Requests of any origin. -/
abbrev Licence.requests : Licence := { high := fun _ => True }

/-- Reviews, and the requests of pull-up in them. -/
abbrev Licence.reviews : Licence := { review := True }

/-- Requests of any origin, and reviews. -/
abbrev Licence.both : Licence := { review := True, high := fun _ => True }

/-- One step of a request or of a review: a request is merged into an entry or a kept request, an entry is made, or made
and withdrawn at once for its needs, an orphan is pulled by another load or withdrawn, an entry is withdrawn by a review,
or a scan is started. Reviews, origins of high rank and silent withdrawals are among
the steps where the licence has them. -/
inductive Part.AskStep (a : Licence) : Part → Part → Prop
  | merge (s : Part) {n : LoadId} {e : Entry} {o : Origin} (found : s.entry? n = some e) (rank : o.high = true → a.high o) :
    Part.AskStep a s (s.setOrigin n (e.origin.merge o))
  | repull (s : Part) {n k : LoadId} (there : s.pulledOrGone n) (wanted : s.firstWanting n = some k) :
    Part.AskStep a s (s.setOrigin n (.pull k))
  | drop (s : Part) {n : LoadId} (there : s.pulledOrGone n) (unwanted : s.firstWanting n = none)
      (raised : s.atl.pending.getLsbD 3 = true ∨ a.silent) : Part.AskStep a s (s.dropEntry n)
  | lost (s : Part) {n : LoadId} (reviewed : a.review) (queued : n ∈ s.queuedLoads) (unmet : s.needsSatisfiable n = false) :
    Part.AskStep a s ((s.dropEntry n).raise (.startFailed n .needLost))
  | enter (s : Part) {n : LoadId} {o : Origin} (off : (s.load n).phase = .off) (live : s.mode ≠ .setup)
      (free : s.offCount n = 0) (met : (s.newEntry n o).needsSatisfiable n = true) (rank : o.high = true → a.high o) :
    Part.AskStep a s (s.newEntry n o)
  | bounce (s : Part) {n : LoadId} {o : Origin} (off : (s.load n).phase = .off) (live : s.mode ≠ .setup)
      (free : s.offCount n = 0) (unmet : (s.newEntry n o).needsSatisfiable n = false) :
    Part.AskStep a s (((s.newEntry n o).dropEntry n).raise (.startFailed n .needLost))
  | hold (s : Part) {n : LoadId} {o : Origin} (stopping : (s.load n).phase.isStopping = true)
      (rank : o.high = true → a.high o) :
    Part.AskStep a s (s.setLoad n { s.load n with heldEnqueue := some ((s.load n).keptRequest o) })
  | scan (s : Part) : Part.AskStep a s s.startScan

/-- A run of such steps. -/
abbrev Part.Asked (a : Licence) : Part → Part → Prop := Relation.ReflTransGen (Part.AskStep a)

section
variable {a : Licence} {s t : Part}

theorem Part.AskStep.asks (h : s.AskStep a t) : s.Asks t := by
  cases h with
  | merge found rank => exact s.asks_setOrigin _ _
  | repull there wanted => exact s.asks_setOrigin _ _
  | drop there unwanted raised =>
    refine Part.asks_dropEntry ?_
    obtain ⟨e, listed, same, -⟩ | ⟨-, off⟩ := there
    · exact .inl (Part.mem_queuedLoads.2 ⟨e, listed, same⟩)
    · exact .inr off
  | lost reviewed queued unmet => exact (Part.asks_dropEntry (.inl queued)).trans (Part.asks_raise _ _ _)
  | enter off live free met rank => exact Part.asks_newEntry off live _
  | @bounce n o off live free unmet =>
    have listed : n ∈ (s.newEntry n o).queuedLoads := (s.newEntry_queuedLoads n o).mem_iff.2 List.mem_cons_self
    exact ((Part.asks_newEntry off live _).trans (Part.asks_dropEntry (.inl listed))).trans (Part.asks_raise _ _ _)
  | hold stopping rank => exact Part.asks_holdRequest stopping _
  | scan => exact s.asks_startScan

theorem Part.Asked.asks (h : s.Asked a t) : s.Asks t := by
  induction h with
  | refl => exact .refl s
  | tail _ step ih => exact ih.trans step.asks

/-- What every step keeps, a run of steps keeps. -/
theorem Part.Asked.keeps {P : Part → Prop} (h : s.Asked a t)
    (step : ∀ u v : Part, u.AskStep a v → P u → P v) (start : P s) : P t := by
  induction h with
  | refl => exact start
  | tail _ next ih => exact step _ _ next ih

theorem Part.AskStep.widen {b : Licence} (r : a.review → b.review) (hi : ∀ o, a.high o → b.high o)
    (q : a.silent → b.silent)
    (h : s.AskStep a t) : s.AskStep b t := by
  cases h with
  | merge found rank => exact .merge s found (hi _ ∘ rank)
  | repull there wanted => exact .repull s there wanted
  | drop there unwanted raised => exact .drop s there unwanted (raised.imp id q)
  | lost reviewed queued unmet => exact .lost s (r reviewed) queued unmet
  | enter off live free met rank => exact .enter s off live free met (hi _ ∘ rank)
  | bounce off live free unmet => exact .bounce s off live free unmet
  | hold stopping rank => exact .hold s stopping (hi _ ∘ rank)
  | scan => exact .scan s

theorem Part.Asked.widen {b : Licence} (r : a.review → b.review) (hi : ∀ o, a.high o → b.high o)
    (q : a.silent → b.silent)
    (h : s.Asked a t) : s.Asked b t :=
  h.lift id fun _ _ (step : Part.AskStep a _ _) => step.widen r hi q

theorem Part.Asked.both (h : s.Asked .requests t) : s.Asked .both t :=
  h.widen (a := .requests) (b := .both) False.elim (fun _ => id) id

theorem Part.Asked.reviewed (h : s.Asked .reviews t) : s.Asked .both t :=
  h.widen (a := .reviews) (b := .both) id (fun _ => False.elim) id

theorem Part.Asked.ite {u : Part} (c : Prop) [Decidable c] (h : s.Asked a t) (g : s.Asked a u) :
    s.Asked a (if c then t else u) := by split <;> assumption

theorem Part.Asked.foldl {α : Type} (f : Part → α → Part) (h : ∀ (s : Part) (x : α), s.Asked a (f s x))
    (l : List α) (s : Part) : s.Asked a (l.foldl f s) := by
  induction l generalizing s with
  | nil => exact .refl
  | cons x l ih => exact (h s x).trans (ih _)

theorem Part.Asked.foldl_fst {α β : Type} (f : Part × β → α → Part × β)
    (h : ∀ (acc : Part × β) (x : α), acc.1.Asked a (f acc x).1) (l : List α) (acc : Part × β) :
    acc.1.Asked a (l.foldl f acc).1 := by
  induction l generalizing acc with
  | nil => exact .refl
  | cons x l ih => exact (h acc x).trans (ih _)

end

/-! ## Withdrawals (R85 to R87) -/

section
variable {a : Licence} {s : Part}

theorem Part.pulledOrGone_of_orphan {gone : List LoadId} {o : LoadId} (h : o ∈ s.orphansOf gone) : s.pulledOrGone o := by
  obtain ⟨e, listed, rfl⟩ := List.mem_map.1 h
  obtain ⟨listed, pulled⟩ := List.mem_filter.1 listed
  refine .inl ⟨e, listed, rfl, ?_⟩
  revert pulled
  cases e.origin <;> simp

theorem Part.pulledOrGone_setOrigin {o n k : LoadId} (h : s.pulledOrGone n) : (s.setOrigin o (.pull k)).pulledOrGone n := by
  obtain ⟨e, listed, rfl, p, pulled⟩ | ⟨out, off⟩ := h
  · refine .inl ⟨if e.load = o then { e with origin := .pull k } else e, List.mem_map_of_mem listed, ?_, ?_⟩ <;> split
    · rfl
    · rfl
    · exact ⟨k, rfl⟩
    · exact ⟨p, pulled⟩
  · exact .inr ⟨by rw [Part.setOrigin_queuedLoads]; exact out, off⟩

theorem Part.pulledOrGone_dropEntry {o n : LoadId} (h : s.pulledOrGone n) : (s.dropEntry o).pulledOrGone n := by
  by_cases same : n = o
  · subst same
    exact .inr ⟨fun listed => (Part.mem_dropEntry.1 listed).2 rfl, by rw [Part.dropEntry_load, if_pos rfl]⟩
  · obtain ⟨e, listed, rfl, pulled⟩ | ⟨out, off⟩ := h
    · exact .inl ⟨e, List.mem_filter.2 ⟨listed, by simpa using same⟩, rfl, pulled⟩
    · exact .inr ⟨fun listed => out (Part.mem_dropEntry.1 listed).1, by rw [Part.dropEntry_load, if_neg same]; exact off⟩

theorem Part.asked_settleRound {orphans : List LoadId} (there : ∀ o ∈ orphans, s.pulledOrGone o)
    (raised : s.atl.pending.getLsbD 3 = true ∨ a.silent) : s.Asked a (s.settleRound orphans).1 := by
  rw [Part.settleRound_eq]
  suffices ∀ (l : List LoadId) (acc : Part × List LoadId), (∀ o ∈ l, acc.1.pulledOrGone o) →
      (acc.1.atl.pending.getLsbD 3 = true ∨ a.silent) → acc.1.Asked a (l.foldl settleOrphan acc).1 from
    this orphans (s, []) there raised
  intro l
  induction l with
  | nil => exact fun acc _ _ => .refl
  | cons o l ih =>
    intro acc there raised
    have here := there o List.mem_cons_self
    have later (k : LoadId) (mem : k ∈ l) := there k (List.mem_cons_of_mem _ mem)
    rw [List.foldl_cons]
    cases found : acc.1.firstWanting o with
    | some k =>
      have settled : settleOrphan acc o = (acc.1.setOrigin o (.pull k), acc.2) := by rw [settleOrphan, found]
      rw [settled]
      exact (Relation.ReflTransGen.single (Part.AskStep.repull acc.1 here found)).trans
        (ih (acc.1.setOrigin o (.pull k), acc.2) (fun j mem => Part.pulledOrGone_setOrigin (later j mem)) raised)
    | none =>
      have settled : settleOrphan acc o = (acc.1.dropEntry o, acc.2 ++ [o]) := by rw [settleOrphan, found]
      rw [settled]
      exact (Relation.ReflTransGen.single (Part.AskStep.drop acc.1 here found raised)).trans
        (ih (acc.1.dropEntry o, acc.2 ++ [o]) (fun j mem => Part.pulledOrGone_dropEntry (later j mem)) raised)

theorem Part.asked_settleOrphans (fuel : Nat) (s : Part) (gone : List LoadId)
    (raised : s.atl.pending.getLsbD 3 = true ∨ a.silent) : s.Asked a (s.settleOrphans fuel gone) := by
  induction fuel generalizing s gone with
  | zero => exact .refl
  | succ fuel ih =>
    unfold Part.settleOrphans
    split
    · exact .refl
    · have round := Part.asked_settleRound (fun o => Part.pulledOrGone_of_orphan (s := s) (gone := gone)) raised
      exact round.trans (ih _ _ (raised.imp round.asks.failed id))

/-- An entry whose needs a review finds unsatisfiable is withdrawn (R84, R85). -/
theorem Part.asked_needLost {n : LoadId} (reviewed : a.review) (queued : n ∈ s.queuedLoads)
    (unmet : s.needsSatisfiable n = false) : s.Asked a (s.withdraw n .needLost) := by
  rw [Part.withdraw_eq rfl]
  exact (Relation.ReflTransGen.single (Part.AskStep.lost s reviewed queued unmet)).trans
    (Part.asked_settleOrphans _ _ _ (.inl (Part.raise_pending _ (.startFailed n .needLost))))

/-! ## Requests and pull-up (R80, R82, R83) -/

section
variable (ask : Part → LoadId → Origin → Part)
  (ha : ∀ s n o, (Origin.high o = true → a.high o) → Part.Asked a s (ask s n o))
include ha

theorem Part.asked_askOffMembers (s : Part) (g : GroupId) {o : Origin} (rank : o.high = true → a.high o) :
    s.Asked a (s.askOffMembers ask g o).1 := by
  refine Part.Asked.foldl_fst _ ?_ (s.members g) (s, s.floorCount g)
  intro acc m
  split
  · exact ha _ _ _ rank
  · exact .refl

theorem Part.asked_askStoppingMembers (acc : Part × Nat) (g : GroupId) {o : Origin} (rank : o.high = true → a.high o) :
    acc.1.Asked a (Part.askStoppingMembers ask acc g o) := by
  refine Part.Asked.foldl_fst _ ?_ (acc.1.members g) acc
  intro acc m
  split
  · exact ha _ _ _ rank
  · exact .refl

theorem Part.asked_pullNeed (k : LoadId) (s : Part) (need : Need) : s.Asked a (Part.pullNeed ask k s need) := by
  have rank : (Origin.pull k).high = true → a.high (.pull k) := nofun
  cases need with
  | load j =>
    simp only [Part.pullNeed]
    split
    · exact ha _ _ _ rank
    · exact .refl
  | group g =>
    exact (Part.asked_askOffMembers ask ha s g rank).trans (Part.asked_askStoppingMembers ask ha _ g rank)

theorem Part.asked_pullNeeds (s : Part) (k : LoadId) : s.Asked a (Part.pullNeeds ask s k) :=
  Part.Asked.foldl _ (Part.asked_pullNeed ask ha k) _ s

theorem Part.asked_enqueueNew {n : LoadId} {o : Origin} (off : (s.load n).phase = .off) (live : s.mode ≠ .setup)
    (free : s.offCount n = 0) (rank : o.high = true → a.high o) : s.Asked a (Part.enqueueNew ask s n o) := by
  unfold Part.enqueueNew
  dsimp only
  split
  · next met =>
    exact (((Relation.ReflTransGen.single (Part.AskStep.enter s off live free met rank)).trans
      (Part.asked_pullNeeds ask ha _ n)).tail (Part.AskStep.scan _))
  · next unmet =>
    rw [Part.withdraw_eq rfl]
    exact (Relation.ReflTransGen.single (Part.AskStep.bounce s off live free (by simpa using unmet))).trans
      (Part.asked_settleOrphans _ _ _ (.inl (Part.raise_pending _ (.startFailed n .needLost))))

theorem Part.asked_requestOff {n : LoadId} {o : Origin} (off : (s.load n).phase = .off) (live : s.mode ≠ .setup)
    (free : s.offCount n = 0) (rank : o.high = true → a.high o) : s.Asked a (Part.requestOff ask s n o) := by
  have new {o : Origin} (rank : o.high = true → a.high o) := Part.asked_enqueueNew ask ha off live free rank
  unfold Part.requestOff
  split
  · exact .ite _ (new rank) .refl
  · exact .ite _ (new rank) .refl
  · split
    · exact new rank
    · split
      · exact new nofun
      · exact .refl
  · exact new rank
  · exact new rank
end

theorem Part.asked_request (fuel : Nat) (s : Part) (n : LoadId) {o : Origin} (rank : o.high = true → a.high o) :
    s.Asked a (Part.request fuel s n o) := by
  induction fuel generalizing s n o with
  | zero => exact .refl
  | succ fuel ih =>
    unfold Part.request
    split
    · exact .refl
    · next live =>
      split
      · next off =>
        split
        · exact .refl
        · next free => exact Part.asked_requestOff _ (fun s n o rank => ih s n rank) off live (by omega) rank
      · split
        · next found => exact .single (Part.AskStep.merge s found rank)
        · exact .refl
      · next stopping => exact .single (Part.AskStep.hold s (by rw [stopping]; rfl) rank)
      · exact .refl

theorem Part.asked_enqueue (s : Part) (n : LoadId) {o : Origin} (rank : o.high = true → a.high o) :
    s.Asked a (s.enqueue n o) := Part.asked_request 65 s n rank

theorem Part.asked_floorRequest (s : Part) (g : GroupId) {o : Origin} (rank : o.high = true → a.high o) :
    s.Asked a (s.floorRequest g o) :=
  .ite _ .refl (Part.asked_askOffMembers _ (fun s n _ rank => s.asked_enqueue n rank) s g rank)

theorem Part.asked_sweep (s : Part) : s.Asked a s.sweep :=
  Part.Asked.foldl _ (fun s n => s.asked_enqueue (o := .wake) n nofun) _ s

end

/-! ## Reviews (R62, R84) -/

section
variable {s : Part}

theorem Part.asked_floorForMember (s : Part) (n : LoadId) : s.Asked .requests (s.floorForMember n) := by
  unfold Part.floorForMember
  split
  · exact .ite _ (s.asked_floorRequest _ fun _ => trivial) .refl
  · exact .refl

theorem Part.asked_reviewEntry (s : Part) (n : LoadId) : s.Asked .reviews (s.reviewEntry n) := by
  unfold Part.reviewEntry
  split
  · next listed =>
    split
    · exact Part.asked_pullNeeds _ (fun s n _ rank => s.asked_enqueue n rank) s n
    · next unmet => exact Part.asked_needLost trivial (Part.entry?_isSome.1 listed) (by simpa using unmet)
  · exact .refl

theorem Part.asked_needReview (s : Part) : s.Asked .reviews s.needReview := .foldl _ Part.asked_reviewEntry _ s

theorem Part.asked_offReports (s : Part) (n : LoadId) :
    (s.setLoad n { s.load n with heldEnqueue := none }).Asked .requests (s.offReports n) := by
  have hold (s : Part) (o : Origin) : s.Asked .requests (s.enqueue n o) := s.asked_enqueue n fun _ => trivial
  unfold Part.offReports
  refine Relation.ReflTransGen.trans ?_ (Part.asked_floorForMember _ n)
  cases (s.load n).heldEnqueue with
  | none => exact Part.Asked.ite _ (hold _ _) .refl
  | some o => exact Part.Asked.ite _ ((hold _ o).trans (hold _ _)) (hold _ o)

theorem Part.asked_enterOff (s : Part) (n : LoadId) : (s.reachedOff n).Asked .both (s.enterOff n) :=
  (Part.asked_offReports _ n).both.trans (Part.asked_needReview _).reviewed

end

end Sys2Proof.Machine
end

section
/-! The close of a handling as a run of small steps: a load whose check passes is stopped, a mode is told, a sweep's
request is taken a step further, or the loads and the queue stay as they are (R30, R92, R116, R123, R124). -/

namespace Sys2Proof.Machine

/-- From s to t the loads, the queue and the mode stay as they are. -/
structure Part.Idles (s t : Part) : Prop where
  follows : s.Follows t
  loads : t.loads = s.loads
  queue : t.dgv.queue = s.dgv.queue
  mode : t.mode = s.mode
  lamps : t.lin.lamps = s.lin.lamps

/-- One step of the close of a handling, or of a mode change in it. -/
inductive Part.CloseStep : Part → Part → Prop
  | stop (s : Part) {n : LoadId} (stops : s.stopsNow n = true) : Part.CloseStep s (s.enterStopping n)
  | tell (s : Part) {m : ModeState} (live : (s.setMode m).mode ≠ .setup) : Part.CloseStep s (s.tellMode m)
  | ask {s t : Part} (asks : s.AskStep {} t) : Part.CloseStep s t
  | idle {s t : Part} (idles : s.Idles t) : Part.CloseStep s t

abbrev Part.Closes : Part → Part → Prop := Relation.ReflTransGen Part.CloseStep

section
variable {s t : Part}

theorem Part.CloseStep.follows (h : s.CloseStep t) : s.Follows t := by
  cases h with
  | stop stops => exact Part.follows_enterStopping (Part.stopsNow_running stops).1 (Part.stopsNow_running stops).2
  | tell live => exact Part.follows_tellMode live
  | ask asks => exact asks.asks.follows
  | idle idles => exact idles.follows

theorem Part.Closes.follows (h : s.Closes t) : s.Follows t := by
  induction h with
  | refl => exact .refl s
  | tail _ step ih => exact ih.trans step.follows

/-- What every step keeps, the close keeps. -/
theorem Part.Closes.keeps {P : Part → Prop} (h : s.Closes t) (step : ∀ u v : Part, u.CloseStep v → P u → P v)
    (start : P s) : P t := by
  induction h with
  | refl => exact start
  | tail _ next ih => exact step _ _ next ih

theorem Part.Idles.closes (h : s.Idles t) : s.Closes t := .single (.idle h)

theorem Part.Asked.closes (h : s.Asked {} t) : s.Closes t :=
  h.lift id fun _ _ (step : Part.AskStep {} _ _) => Part.CloseStep.ask step

theorem Part.idles_nextChoice (s : Part) : s.Idles s.nextChoice := ⟨s.follows_nextChoice, rfl, rfl, rfl, rfl⟩

theorem Part.idles_settleChecks (before s : Part) : s.Idles (before.settleChecks s) :=
  ⟨before.follows_settleChecks s, rfl, rfl, rfl, rfl⟩

theorem Part.idles_recomputeDemand (before s : Part) : s.Idles (before.recomputeDemand s) :=
  ⟨before.follows_recomputeDemand s, by simp, by simp, (before.loadWork_recomputeDemand s).mode,
    by rw [(before.loadWork_recomputeDemand s).lin]⟩

theorem Part.idles_raiseMode (s : Part) (late : Bool) : s.Idles (s.raiseMode late) :=
  ⟨s.follows_raiseMode late, rfl, rfl, rfl, rfl⟩

theorem Part.idles_setMode {m : ModeState} (mode : (s.setMode m).mode = s.mode) : s.Idles (s.setMode m) :=
  ⟨Part.follows_setMode mode, rfl, rfl, mode, rfl⟩

theorem Part.idles_enterDay (day : s.mode = .day) (late : Bool) (mark : Option Nat) :
    s.Idles (s.enterDay late mark).1 := by
  refine ⟨Part.follows_enterDay day late mark, Part.swapIfArmed_loads _, ?_, ?_, ?_⟩
  · exact ((Part.calms_swapIfArmed (s.setLate late)).queue)
  · rw [day]; rfl
  · show (Part.swapIfArmed _).lin.lamps = _
    unfold Part.swapIfArmed
    split <;> rfl

theorem Part.closes_takeChecks (fuel : Nat) (s : Part) (due : List LoadId) : s.Closes (s.takeChecks fuel due) := by
  induction fuel generalizing s due with
  | zero => exact .refl
  | succ fuel ih =>
    have stops {n : LoadId} (listed : n ∈ due.filter s.stopsNow) := (List.mem_filter.1 listed).2
    unfold Part.takeChecks
    split
    · exact .refl
    · next n alone =>
      exact (Relation.ReflTransGen.single
        (Part.CloseStep.stop s (stops (n := n) (by rw [alone]; exact List.mem_singleton_self n)))).trans (ih _ _)
    · next n m rest several =>
      have passes := stops (n := (n :: m :: rest).getD (Config.freeChoice s.freeCount % (rest.length + 2)) n)
        (by rw [several]; exact getD_freeChoice_mem n m rest _)
      exact (s.idles_nextChoice.closes.trans
        (Relation.ReflTransGen.single (Part.CloseStep.stop s.nextChoice passes))).trans (ih _ _)

theorem Part.closes_recheck (before s : Part) : s.Closes (before.recheck s) :=
  (Part.closes_takeChecks 64 s _).trans (before.idles_settleChecks _).closes

theorem Part.closes_tellMode {m : ModeState} (live : (s.setMode m).mode ≠ .setup) : s.Closes (s.tellMode m) :=
  .single (.tell s live)

theorem Part.closes_enterNight (night : s.mode = .night) : s.Closes s.enterNight.1 := by
  have lead {u : Part} (night : u.mode = .night) (target : Option WakeTarget) : u.Closes (u.takeLead target).1 :=
    (Part.idles_setMode (m := .night _ _ _) night.symm).closes
  have still : s.nextChoice.nightChecks.mode = .night := (Part.loadWork_takeChecks _ _ _).mode.trans night
  unfold Part.enterNight
  dsimp only
  split
  · exact lead night _
  · split
    · exact (s.idles_nextChoice.closes.trans (lead (u := s.nextChoice) night _)).trans (Part.closes_takeChecks 64 _ _)
    · exact (s.idles_nextChoice.closes.trans (Part.closes_takeChecks 64 _ _)).trans (lead still _)

/-- A move of the mode other than to SETUP. -/
theorem Part.closes_applyMove {m : Move} (live : m.isSetup = false) : s.Closes (s.applyMove m).1 := by
  have told {m : ModeState} (live : (s.setMode m).mode ≠ .setup) := Part.closes_tellMode live
  have raised (u : Part) (late : Bool) : u.Closes (u.raiseMode late) := (u.idles_raiseMode late).closes
  cases m with
  | setup => cases live
  | day late mark =>
    exact ((told (m := .day none none) nofun).trans
      (Part.idles_enterDay (s.tellMode_mode _) late mark).closes).trans (raised _ _)
  | windDown deadline scheduled => exact (told (m := .windDown deadline scheduled) nofun).trans (raised _ _)
  | night =>
    exact ((told (m := .night none none 0) nofun).trans (Part.closes_enterNight (s.tellMode_mode _))).trans (raised _ _)
  | wake grace atOnce =>
    exact ((told (m := .wake (grace.map Int.toNat)) nofun).trans (Part.asked_sweep _).closes).trans (raised _ _)

theorem Part.closes_runMoves (fuel : Nat) (s : Part) (m : Option Move) (live : ∀ m' ∈ m.toList, m'.isSetup = false) :
    s.Closes (s.runMoves fuel m) := by
  induction fuel generalizing s m with
  | zero => cases m <;> exact .refl
  | succ fuel ih =>
    cases m with
    | none => exact .refl
    | some m => exact (Part.closes_applyMove (live m (by simp))).trans (ih _ _ (s.applyMove_next m))

theorem Part.closes_wakeEndTest (s : Part) : s.Closes s.wakeEndTest := by
  unfold Part.wakeEndTest
  split
  · exact Part.closes_runMoves 8 s _ (by simp [Move.isSetup])
  · exact .refl

theorem Part.closes_finish (before s : Part) : s.Closes (before.finish s) :=
  (((before.closes_recheck s).trans (before.idles_recomputeDemand _).closes).trans (Part.closes_wakeEndTest _)).trans
    (before.idles_settleChecks _).closes

end

/-! ## Entries -/

section
variable {s : Part}

theorem Part.entry?_setOrigin (s : Part) (m n : LoadId) (o : Origin) :
    (s.setOrigin m o).entry? n = (s.entry? n).map fun e => if e.load = m then { e with origin := o } else e := by
  unfold Part.entry? Part.setOrigin
  rw [Part.setQueue_dgv, List.find?_map]
  congr 2
  funext e
  dsimp only [Function.comp]
  split <;> rfl

theorem Part.entry?_removeEntry_ne (s : Part) {m n : LoadId} (other : n ≠ m) :
    (s.removeEntry m).entry? n = s.entry? n := by
  unfold Part.entry? Part.removeEntry
  rw [Part.setQueue_dgv, List.find?_filter]
  congr 1
  funext e
  by_cases same : e.load = n
  · simp [same, other]
  · simp [same]

theorem Part.entry?_dropEntry_ne (s : Part) {m n : LoadId} (other : n ≠ m) : (s.dropEntry m).entry? n = s.entry? n :=
  s.entry?_removeEntry_ne other

/-- Found entries in a list of entries, no load of which has two, are found in every order of it. -/
theorem find?_entry_perm {q r : List Entry} (perm : q.Perm r) (once : (r.map Entry.load).Nodup) (n : LoadId) :
    q.find? (fun e => e.load = n) = r.find? fun e => e.load = n := by
  have unique {a b : Entry} (ha : a ∈ r) (hb : b ∈ r) (same : a.load = b.load) : a = b :=
    List.inj_on_of_nodup_map once ha hb same
  cases found : r.find? fun e => e.load = n with
  | none =>
    rw [List.find?_eq_none] at found ⊢
    exact fun e listed => found e (perm.mem_iff.1 listed)
  | some e =>
    have listed := List.mem_of_find?_eq_some found
    have is : e.load = n := by simpa using List.find?_some found
    cases mine : q.find? fun e => e.load = n with
    | none =>
      have := List.find?_eq_none.1 mine e (perm.mem_iff.2 listed)
      exact absurd is (by simpa using this)
    | some d =>
      have isd : d.load = n := by simpa using List.find?_some mine
      rw [unique (perm.mem_iff.1 (List.mem_of_find?_eq_some mine)) listed (isd.trans is.symm)]

/-- An entry of a load is the one that is found where no load has two. -/
theorem Part.Sound.entry?_of_mem (ok : s.Sound) {e : Entry} (listed : e ∈ s.dgv.queue) :
    s.entry? e.load = some e := by
  cases found : s.entry? e.load with
  | none => exact absurd (Part.mem_queuedLoads.2 ⟨e, listed, rfl⟩) (Part.entry?_none.1 found)
  | some d =>
    obtain ⟨there, same⟩ := Part.entry?_some found
    rw [List.inj_on_of_nodup_map ok.once there listed same]

theorem Part.newEntry_once (ok : s.Sound) {m : LoadId} (out : m ∉ s.queuedLoads) (o : Origin) :
    ∃ e : Entry, e.load = m ∧ e.origin = o ∧ (s.newEntry m o).dgv.queue.Perm (e :: s.dgv.queue) ∧
      ((e :: s.dgv.queue).map Entry.load).Nodup := by
  obtain ⟨e, rfl, origin, perm⟩ := s.placeEntry_perm m o
  exact ⟨e, rfl, origin, perm, List.nodup_cons.2 ⟨out, ok.once⟩⟩

theorem Part.entry?_newEntry_ne (ok : s.Sound) {m n : LoadId} (out : m ∉ s.queuedLoads) (o : Origin) (other : n ≠ m) :
    (s.newEntry m o).entry? n = s.entry? n := by
  obtain ⟨e, same, -, perm, once⟩ := Part.newEntry_once ok out o
  rw [Part.entry?, find?_entry_perm perm once, List.find?_cons_of_neg (by simpa [same] using other.symm)]
  rfl

theorem Part.entry?_newEntry_self (ok : s.Sound) {m : LoadId} (out : m ∉ s.queuedLoads) (o : Origin) :
    ∃ e, (s.newEntry m o).entry? m = some e ∧ e.origin = o := by
  obtain ⟨e, same, origin, perm, once⟩ := Part.newEntry_once ok out o
  refine ⟨e, ?_, origin⟩
  rw [Part.entry?, find?_entry_perm perm once, List.find?_cons_of_pos (by simp [same])]

theorem Origin.merge_same {a b : Origin} (rank : b.high = true → a.high = true) : a.merge b = a := by
  unfold Origin.merge
  cases ha : a.high <;> cases hb : b.high <;> simp_all

/-- Requests leave an entry as it is that was not pulled, where they do not outrank it. -/
theorem Part.AskStep.entry {a : Licence} {t : Part} {n : LoadId} {e : Entry} (h : s.AskStep a t) (ok : s.Sound)
    (own : ∀ p, e.origin ≠ .pull p) (unreviewed : ¬ a.review) (rank : ∀ o, a.high o → e.origin.high = true)
    (found : s.entry? n = some e) :
    t.entry? n = some e := by
  obtain ⟨there, same⟩ := Part.entry?_some found
  have queued : (s.load n).phase = .queued := (ok.queued n).2 (Part.entry?_isSome.1 (by simp [found]))
  have pulled {m : LoadId} (there : s.pulledOrGone m) : n ≠ m := by
    rintro rfl
    obtain ⟨d, listed, is, p, pulled⟩ | ⟨out, -⟩ := there
    · have := ok.entry?_of_mem listed
      rw [is, found] at this
      cases this
      exact own p pulled
    · exact out (Part.entry?_isSome.1 (by simp [found]))
  have fresh {m : LoadId} (off : (s.load m).phase = .off) : n ≠ m ∧ m ∉ s.queuedLoads := by
    refine ⟨fun is => ?_, fun listed => ?_⟩
    · rw [← is, queued] at off; cases off
    · rw [(ok.queued m).2 listed] at off; cases off
  cases h with
  | @merge m d o ask outranks =>
    rw [Part.entry?_setOrigin, found, Option.map_some]
    split
    · next is =>
      have : n = m := same.symm.trans is
      subst this
      rw [found] at ask
      cases ask
      rw [Origin.merge_same fun hi => rank o (outranks hi)]
    · rfl
  | repull there wanted =>
    rw [Part.entry?_setOrigin, found, Option.map_some, if_neg (same ▸ pulled there)]
  | drop there unwanted => rw [Part.entry?_dropEntry_ne s (pulled there), found]
  | lost reviewed => exact absurd reviewed unreviewed
  | enter off =>
    obtain ⟨other, out⟩ := fresh off
    rw [Part.entry?_newEntry_ne ok out _ other, found]
  | bounce off =>
    obtain ⟨other, out⟩ := fresh off
    exact (Part.entry?_dropEntry_ne _ other).trans ((Part.entry?_newEntry_ne ok out _ other).trans found)
  | hold => exact found
  | scan => exact found

theorem Part.Asked.entry {a : Licence} {t : Part} {n : LoadId} {e : Entry} (h : s.Asked a t) (ok : s.Sound)
    (own : ∀ p, e.origin ≠ .pull p) (unreviewed : ¬ a.review) (rank : ∀ o, a.high o → e.origin.high = true)
    (found : s.entry? n = some e) :
    t.entry? n = some e :=
  (h.keeps (P := fun u => u.Sound ∧ u.entry? n = some e)
    (fun _ _ step ⟨ok, found⟩ => ⟨step.asks.sound ok, step.entry ok own unreviewed rank found⟩) ⟨ok, found⟩).2

/-- The close of a handling leaves an entry as it is that was not pulled. -/
theorem Part.Closes.entry {t : Part} {n : LoadId} {e : Entry} (h : s.Closes t) (ok : s.Sound)
    (own : ∀ p, e.origin ≠ .pull p) (found : s.entry? n = some e) : t.entry? n = some e := by
  refine (h.keeps (P := fun u => u.Sound ∧ u.entry? n = some e) (fun u v step ⟨ok, found⟩ => ?_) ⟨ok, found⟩).2
  refine ⟨step.follows.sound ok, ?_⟩
  have same (queue : v.dgv.queue = u.dgv.queue) : v.entry? n = some e := by rw [Part.entry?, queue]; exact found
  cases step with
  | stop stops => exact same (by simp [Part.enterStopping])
  | tell live => exact same (by rw [Part.tellMode_dgv])
  | ask asks => exact asks.entry ok own id (fun _ => False.elim) found
  | idle idles => exact same idles.queue

/-- A kept request of rank HOLD, CALL or COMMAND stays, whatever is asked for after it (R35). -/
theorem Part.AskStep.keptRequest {a : Licence} {t : Part} {n : LoadId} {o : Origin}
    (h : s.AskStep a t) (ok : s.Sound) (top : o.high = true)
    (held : (s.load n).phase.isStopping = true ∧ (s.load n).heldEnqueue = some o) :
    (t.load n).phase.isStopping = true ∧ (t.load n).heldEnqueue = some o := by
  obtain ⟨stopping, kept⟩ := held
  have up : (s.load n).phase ≠ .off := fun off => by rw [off] at stopping; cases stopping
  have out : n ∉ s.queuedLoads := fun listed => by rw [(ok.queued n).2 listed] at stopping; cases stopping
  have other {m : LoadId} (off : (s.load m).phase = .off) : n ≠ m := fun is => up (is ▸ off)
  have dropped (u : Part) (m : LoadId) : ((u.dropEntry m).load n).heldEnqueue = (u.load n).heldEnqueue := by
    rw [Part.dropEntry_load]; split
    · next is => rw [is]
    · rfl
  have entered {m : LoadId} (o : Origin) (off : (s.load m).phase = .off) :
      ((s.newEntry m o).load n).heldEnqueue = (s.load n).heldEnqueue :=
    congrArg LoadRecord.heldEnqueue ((Part.setPhase_load _ m n _).trans (if_neg (other off)))
  refine ⟨(h.asks.kept n up out).1 ▸ stopping, ?_⟩
  cases h with
  | merge => exact kept
  | repull => exact kept
  | drop => exact (dropped s _).trans kept
  | lost => exact (dropped s _).trans kept
  | enter off => exact (entered _ off).trans kept
  | bounce off => exact ((dropped _ _).trans (entered _ off)).trans kept
  | hold going rank =>
    rw [Part.setLoad_load]; split
    · next is => subst is; simp [LoadRecord.keptRequest, kept, Origin.merge_same fun _ => top]
    · exact kept
  | scan => exact kept

theorem Part.Asked.keptRequest {a : Licence} {t : Part} {n : LoadId} {o : Origin}
    (h : s.Asked a t) (ok : s.Sound) (top : o.high = true) (stopping : (s.load n).phase.isStopping = true)
    (kept : (s.load n).heldEnqueue = some o) :
    (t.load n).phase.isStopping = true ∧ (t.load n).heldEnqueue = some o :=
  (h.keeps (P := fun u => u.Sound ∧ (u.load n).phase.isStopping = true ∧ (u.load n).heldEnqueue = some o)
    (fun _ _ step ⟨ok, held⟩ => ⟨step.asks.sound ok, step.keptRequest ok top held⟩) ⟨ok, stopping, kept⟩).2

theorem Part.Closes.keptRequest {t : Part} {n : LoadId} {o : Origin} (h : s.Closes t) (ok : s.Sound)
    (top : o.high = true) (stopping : (s.load n).phase.isStopping = true) (kept : (s.load n).heldEnqueue = some o) :
    (t.load n).phase.isStopping = true ∧ (t.load n).heldEnqueue = some o := by
  refine (h.keeps (P := fun u => u.Sound ∧ (u.load n).phase.isStopping = true ∧ (u.load n).heldEnqueue = some o)
    (fun u v step ⟨ok, stopping, kept⟩ => ⟨step.follows.sound ok, ?_⟩) ⟨ok, stopping, kept⟩).2
  have rests : (u.load n).phase.running = false := LoadPhase.not_running_of_stopping stopping
  cases step with
  | @stop m stops =>
    have other : n ≠ m := fun is => by rw [is, (Part.stopsNow_running stops).1] at rests; cases rests
    rw [Part.enterStopping_load, if_neg other]
    exact ⟨stopping, kept⟩
  | tell live => rw [Part.tellMode_load, rests]; exact ⟨stopping, kept⟩
  | ask asks => exact asks.keptRequest ok top ⟨stopping, kept⟩
  | idle idles => rw [Part.load, idles.loads]; exact ⟨stopping, kept⟩

end

end Sys2Proof.Machine
end

section
/-! What no request can start: a load that is kept off, or whose needs are not satisfiable, stays so and stays OFF
(R80, R81); and what no check can stop (R29, R34). -/

namespace Sys2Proof.Machine

section
variable {s t : Part}

/-- What a load's needs, cover and dependents are read from is kept by all that moves the mode and the loads. -/
theorem Part.ModeWork.reads (work : s.ModeWork t) (holds : t.holds = s.holds) :
    (∀ g, t.group g = s.group g) ∧ (∀ g, t.members g = s.members g) ∧ (∀ n, t.groupOf n = s.groupOf n) ∧
    (∀ x n, t.covers x n = s.covers x n) ∧ (∀ n, t.onCount n = s.onCount n) ∧ (∀ n, t.offCount n = s.offCount n) ∧
    (∀ g, t.groupOnCount g = s.groupOnCount g) ∧ (∀ n, t.directDependents n = s.directDependents n) ∧
    (∀ g, t.groupDependents g = s.groupDependents g) := by
  have config (n : LoadId) : t.config n = s.config n := work.config n
  have inUse (n : LoadId) : t.inUse n = s.inUse n := work.inUse n
  have group (g : GroupId) : t.group g = s.group g := by rw [Part.group, work.records]; rfl
  have memberOf (n : LoadId) (g : GroupId) : t.memberOf n g = s.memberOf n g := by
    simp only [Part.memberOf, config, inUse, group]
  have covers (x : Target) (n : LoadId) : t.covers x n = s.covers x n := by
    cases x <;> simp only [Part.covers, inUse, config]
  refine ⟨group, fun g => ?_, fun n => ?_, covers, fun n => ?_, fun n => ?_, fun g => ?_, fun n => ?_, fun g => ?_⟩
  · simp only [Part.members, memberOf]
  · simp only [Part.groupOf, config, memberOf]
  · simp only [Part.onCount, holds, covers]
  · simp only [Part.offCount, holds, covers]
  · simp only [Part.groupOnCount, holds]
  · simp only [Part.directDependents, inUse, config]
  · simp only [Part.groupDependents, inUse, config]

/-- From s to t no load has come to run or to fail, and none that does not run has gone further than between OFF and
QUEUED. -/
def Part.Fades (s t : Part) : Prop :=
  ∀ k, (t.load k).feedback = (s.load k).feedback ∧
    ((t.load k).phase = (s.load k).phase ∨
      (((s.load k).phase = .off ∨ (s.load k).phase = .queued) ∧ ((t.load k).phase = .off ∨ (t.load k).phase = .queued)) ∨
      ((s.load k).phase.running = true ∧ ((t.load k).phase.running = true ∨ (t.load k).phase.isStopping = true)))

theorem Part.Follows.fades (h : s.Follows t) (ok : s.Sound) : s.Fades t := by
  intro k
  refine ⟨by rw [h.record k], ?_⟩
  by_cases rests : (s.load k).phase = .off ∨ (s.load k).phase = .queued
  · exact .inr (.inl ⟨rests, h.rests rests⟩)
  · rw [not_or] at rests
    have out : k ∉ s.queuedLoads := fun listed => rests.2 ((ok.queued k).2 listed)
    cases runs : (s.load k).phase.running with
    | false => exact .inl (h.kept k rests.1 runs out).1
    | true =>
      refine .inr (.inr ⟨rfl, ((h.ran k runs out).1).imp id fun stops => ?_⟩)
      rw [stops]; rfl

theorem Part.Fades.serving (h : s.Fades t) {k : LoadId} (serves : t.serving k = true) : s.serving k = true := by
  obtain ⟨feedback, phase⟩ := h k
  simp only [Part.serving, Bool.and_eq_true, feedback] at serves ⊢
  refine ⟨?_, serves.2⟩
  obtain same | ⟨-, off | queued⟩ | ⟨runs, -⟩ := phase
  · rw [← same]; exact serves.1
  · rw [off] at serves; cases serves.1
  · rw [queued] at serves; cases serves.1
  · exact runs

theorem Part.Fades.up (h : s.Fades t) {k : LoadId} (up : t.up k = true) : s.up k = true := by
  obtain ⟨feedback, phase⟩ := h k
  simp only [Part.up, LoadRecord.up, Bool.and_eq_true, Bool.or_eq_true, decide_eq_true_eq, feedback] at up ⊢
  refine ⟨up.1, ?_⟩
  obtain same | ⟨-, off | queued⟩ | ⟨runs, -⟩ := phase
  · rw [← same]; exact up.2
  · rw [off] at up; simp [LoadPhase.running] at up
  · rw [queued] at up; simp [LoadPhase.running] at up
  · exact .inl (.inl runs)

theorem Part.Fades.needSatisfiableBy (h : s.Fades t) (work : s.ModeWork t) (holds : t.holds = s.holds)
    {before after : LoadId → Bool} (less : ∀ j, after j = true → before j = true) (need : Need)
    (met : t.needSatisfiableBy after need = true) : s.needSatisfiableBy before need = true := by
  obtain ⟨group, members, -⟩ := work.reads holds
  cases need with
  | load j =>
    simp only [Part.needSatisfiableBy, Bool.or_eq_true] at met ⊢
    exact met.imp h.serving (less j)
  | group g =>
    simp only [Part.needSatisfiableBy, decide_eq_true_eq, group, members] at met ⊢
    refine met.trans (List.countP_mono_left fun m _ fit => ?_)
    simp only [Bool.or_eq_true] at fit ⊢
    exact fit.imp h.up (less m)

/-- A load that is available after no load has come to run was so before (R81). -/
theorem Part.Fades.available (h : s.Fades t) (work : s.ModeWork t) (holds : t.holds = s.holds) (fuel : Nat)
    (j : LoadId) (fit : t.available fuel j = true) : s.available fuel j = true := by
  obtain ⟨-, -, -, -, -, offCount, -⟩ := work.reads holds
  induction fuel generalizing j with
  | zero => cases fit
  | succ fuel ih =>
    have needs (met : (t.config j).needs.all (t.needSatisfiableBy (t.available fuel)) = true) :
        (s.config j).needs.all (s.needSatisfiableBy (s.available fuel)) = true := by
      rw [work.config] at met
      rw [List.all_eq_true] at met ⊢
      exact fun need listed => h.needSatisfiableBy work holds ih need (met need listed)
    unfold Part.available at fit ⊢
    rw [work.inUse, offCount, Bool.and_eq_true] at fit
    rw [Bool.and_eq_true]
    refine ⟨fit.1, ?_⟩
    have open_ := fit.2
    obtain same | ⟨was, is⟩ | ⟨runs, -⟩ := (h j).2
    · rw [same] at open_
      revert open_
      cases (s.load j).phase <;> simp only [imp_self] <;> exact needs
    · have open_ : (t.config j).needs.all (t.needSatisfiableBy (t.available fuel)) = true := by
        obtain is | is := is <;> rw [is] at open_ <;> exact open_
      obtain was | was := was <;> rw [was] <;> exact needs open_
    · cases phase : (s.load j).phase <;> simp [phase, LoadPhase.running] at runs ⊢

/-! ## Loads that cannot be started -/

/-- The load is kept off, or has a need that is not satisfiable. -/
def Part.barred (s : Part) (n : LoadId) : Prop := 0 < s.offCount n ∨ s.needsSatisfiable n = false

/-- The load is OFF and has no entry. -/
def Part.atRest (s : Part) (n : LoadId) : Prop := (s.load n).phase = .off ∧ n ∉ s.queuedLoads

theorem Part.Fades.barred (h : s.Fades t) (work : s.ModeWork t) (holds : t.holds = s.holds) {n : LoadId}
    (bars : s.barred n) : t.barred n := by
  obtain ⟨-, -, -, -, -, offCount, -⟩ := work.reads holds
  refine bars.imp (fun off => offCount n ▸ off) fun unmet => ?_
  refine Bool.eq_false_iff.2 fun met => Bool.eq_false_iff.1 unmet ?_
  unfold Part.needsSatisfiable at met ⊢
  rw [work.config, List.all_eq_true] at met
  rw [List.all_eq_true]
  exact fun need listed => h.needSatisfiableBy work holds (h.available work holds 64) need (met need listed)

theorem Part.Follows.barred (h : s.Follows t) (ok : s.Sound) {n : LoadId} (bars : s.barred n) : t.barred n :=
  (h.fades ok).barred h.work h.holds bars

theorem Part.available_keptOff {j : LoadId} (off : 0 < s.offCount j) (fuel : Nat) : s.available fuel j = false := by
  cases fuel with
  | zero => rfl
  | succ fuel => simp [Part.available, off.ne']

theorem Part.available_lost {j : LoadId}
    (lost : (s.load j).phase = .unused ∨ (s.load j).phase.isFault = true ∨ (s.load j).phase = .unreachable) (fuel : Nat) :
    s.available fuel j = false := by
  cases fuel with
  | zero => rfl
  | succ fuel =>
    unfold Part.available
    cases phase : (s.load j).phase <;> simp [phase, LoadPhase.isFault] at lost ⊢

theorem Part.atRest.dropEntry {n : LoadId} (rests : s.atRest n) (m : LoadId) : (s.dropEntry m).atRest n := by
  refine ⟨?_, fun listed => rests.2 (Part.mem_dropEntry.1 listed).1⟩
  rw [Part.dropEntry_load]; split
  · rfl
  · exact rests.1

theorem Part.atRest.setOrigin {n : LoadId} (rests : s.atRest n) (m : LoadId) (o : Origin) : (s.setOrigin m o).atRest n :=
  ⟨rests.1, by rw [Part.setOrigin_queuedLoads]; exact rests.2⟩

/-- A load that cannot be started stays at rest, whatever is asked for. -/
theorem Part.AskStep.atRest {a : Licence} {n : LoadId} (h : s.AskStep a t) (ok : s.Sound)
    (bars : s.barred n) (rests : s.atRest n) : t.atRest n := by
  obtain ⟨off, out⟩ := rests
  have dropped {u : Part} (m : LoadId) (rests : u.atRest n) : (u.dropEntry m).atRest n := rests.dropEntry m
  have entered {m : LoadId} (o : Origin) (other : n ≠ m) : (s.newEntry m o).atRest n := by
    refine ⟨congrArg LoadRecord.phase ((Part.setPhase_load _ m n _).trans (if_neg other)) |>.trans off, fun listed => ?_⟩
    rw [(s.newEntry_queuedLoads m o).mem_iff, List.mem_cons] at listed
    exact listed.elim other out
  cases h with
  | merge => exact ⟨off, by rw [Part.setOrigin_queuedLoads]; exact out⟩
  | repull => exact ⟨off, by rw [Part.setOrigin_queuedLoads]; exact out⟩
  | drop => exact dropped _ ⟨off, out⟩
  | lost => exact dropped (u := s) _ ⟨off, out⟩
  | @enter m o was live free met =>
    refine entered o fun is => ?_
    subst is
    obtain bars | bars := (Part.asks_newEntry was live o).follows.barred ok bars
    · rw [(s.loadWork_newEntry n o).offCount, free] at bars; cases bars
    · rw [met] at bars; cases bars
  | @bounce m o was live free unmet =>
    by_cases is : n = m
    · subst is
      refine ⟨?_, fun listed => (Part.mem_dropEntry.1 listed).2 rfl⟩
      show (((s.newEntry n o).dropEntry n).load n).phase = .off
      rw [Part.dropEntry_load, if_pos rfl]
    · exact dropped (u := s.newEntry m o) m (entered o is)
  | @hold m o going =>
    have other : n ≠ m := fun is => by rw [← is, off] at going; cases going
    exact ⟨by rw [Part.setLoad_load_ne s _ other]; exact off, out⟩
  | scan => exact ⟨off, out⟩

theorem Part.Asked.atRest {a : Licence} {n : LoadId} (h : s.Asked a t) (ok : s.Sound)
    (bars : s.barred n) (rests : s.atRest n) : t.atRest n :=
  (h.keeps (P := fun u => u.Sound ∧ u.barred n ∧ u.atRest n)
    (fun _ _ step ⟨ok, bars, rests⟩ =>
      ⟨step.asks.sound ok, step.asks.follows.barred ok bars, step.atRest ok bars rests⟩) ⟨ok, bars, rests⟩).2.2

theorem Part.Closes.atRest {n : LoadId} (h : s.Closes t) (ok : s.Sound) (bars : s.barred n) (rests : s.atRest n) :
    t.atRest n := by
  refine (h.keeps (P := fun u => u.Sound ∧ u.barred n ∧ u.atRest n) (fun u v step ⟨ok, bars, rests⟩ =>
    ⟨step.follows.sound ok, step.follows.barred ok bars, ?_⟩) ⟨ok, bars, rests⟩).2.2
  obtain ⟨off, out⟩ := rests
  cases step with
  | @stop m stops =>
    have other : n ≠ m := fun is => by
      have := (Part.stopsNow_running stops).1
      rw [← is, off] at this; cases this
    exact ⟨by rw [Part.enterStopping_load, if_neg other]; exact off, by rw [Part.enterStopping_queuedLoads]; exact out⟩
  | tell live =>
    exact ⟨by rw [Part.tellMode_load, off]; exact off, by rw [Part.queuedLoads, Part.tellMode_dgv]; exact out⟩
  | ask asks => exact asks.atRest ok bars ⟨off, out⟩
  | idle idles => exact ⟨by rw [Part.load, idles.loads]; exact off, by rw [Part.queuedLoads, idles.queue]; exact out⟩

/-- What a new puller of an entry keeps, and a withdrawal, orphans settled keep. -/
theorem Part.settleOrphans_keeps {P : Part → Prop} (repull : ∀ u n k, P u → P (u.setOrigin n (.pull k)))
    (drop : ∀ u n, P u → P (u.dropEntry n)) (fuel : Nat) (gone : List LoadId) (start : P s) :
    P (s.settleOrphans fuel gone) := by
  have round (l : List LoadId) : ∀ acc : Part × List LoadId, P acc.1 → P (l.foldl settleOrphan acc).1 := by
    induction l with
    | nil => exact fun acc start => start
    | cons o l ih =>
      intro acc start
      refine ih _ ?_
      unfold settleOrphan
      split
      · exact repull _ _ _ start
      · exact drop _ _ start
  induction fuel generalizing s gone with
  | zero => exact start
  | succ fuel ih =>
    unfold Part.settleOrphans
    split
    · exact start
    · refine ih _ ?_
      rw [Part.settleRound_eq]
      exact round _ _ start

/-- Orphans settled leave a load at rest at rest. -/
theorem Part.atRest_settleOrphans {n : LoadId} (fuel : Nat) (gone : List LoadId) (rests : s.atRest n) :
    (s.settleOrphans fuel gone).atRest n :=
  Part.settleOrphans_keeps (P := fun u => u.atRest n) (fun _ m _ rests => rests.setOrigin m _)
    (fun _ m rests => rests.dropEntry m) fuel gone rests

/-- Orphans settled raise nothing (Table 4-2). -/
theorem Part.settleOrphans_atl (fuel : Nat) (s : Part) (gone : List LoadId) : (s.settleOrphans fuel gone).atl = s.atl :=
  Part.settleOrphans_keeps (P := fun u => u.atl = s.atl) (fun _ _ _ same => same) (fun _ _ same => same) fuel gone rfl

/-- A load withdrawn is at rest, and START_FAILED tells its cause where Table 4-2 says so (R85). -/
theorem Part.atRest_withdraw (s : Part) (n : LoadId) {cause : WithdrawCause} (off : cause.phase = .off) :
    (s.withdraw n cause).atRest n := by
  rw [Part.withdraw_eq off]
  refine Part.atRest_settleOrphans _ _ ?_
  have dropped : (s.dropEntry n).atRest n :=
    ⟨by rw [Part.dropEntry_load, if_pos rfl], fun listed => (Part.mem_dropEntry.1 listed).2 rfl⟩
  split
  · exact dropped
  · exact dropped

theorem Part.withdraw_raises (s : Part) (n : LoadId) {cause : WithdrawCause} (off : cause.phase = .off)
    (raises : cause.raises = true) : (s.withdraw n cause).atl = (s.raise (.startFailed n cause)).atl := by
  rw [Part.withdraw_eq off, Part.settleOrphans_atl, if_pos raises]
  rfl

end

/-! ## Loads that cannot be stopped -/

section
variable {s t : Part} {n : LoadId}

/-- A load that runs goes on running, its pending stop as it was. -/
def Part.goesOn (s t : Part) (n : LoadId) : Prop :=
  (t.load n).phase.running = true ∧ (t.load n).stopPending = (s.load n).stopPending

/-- From step to step of a close a load that runs goes on, or is stopped by its check. -/
theorem Part.CloseStep.goesOn (h : s.CloseStep t) (ok : s.Sound) (runs : (s.load n).phase.running = true)
    (passes : s.stopsNow n = false) : s.goesOn t n := by
  have out : n ∉ s.queuedLoads := fun listed => by rw [(ok.queued n).2 listed] at runs; cases runs
  have up : (s.load n).phase ≠ .off := fun off => by rw [off] at runs; cases runs
  cases h with
  | @stop m stops =>
    have other : n ≠ m := fun is => by rw [is, stops] at passes; cases passes
    rw [Part.goesOn, Part.enterStopping_load, if_neg other]
    exact ⟨runs, rfl⟩
  | @tell m live =>
    rw [Part.goesOn, Part.tellMode_load]
    split
    · exact ⟨runningPhase_running _, rfl⟩
    · exact ⟨runs, rfl⟩
  | ask asks =>
    refine ⟨by rw [(asks.asks.kept n up out).1]; exact runs, by rw [asks.asks.record n]⟩
  | idle idles => rw [Part.goesOn, Part.load, idles.loads]; exact ⟨runs, rfl⟩

/-- A load whose check does not pass, for a reason that lasts as long as it runs, goes on running. -/
theorem Part.Closes.goesOn {Q : Part → Prop} (h : s.Closes t) (ok : s.Sound) (runs : (s.load n).phase.running = true)
    (spared : ∀ u, u.Sound → Q u → u.stopsNow n = false)
    (lasts : ∀ u v, u.Sound → u.Follows v → u.goesOn v n → Q u → Q v) (start : Q s) : s.goesOn t n ∧ Q t := by
  refine (h.keeps (P := fun u => u.Sound ∧ s.goesOn u n ∧ Q u) (fun u v step ⟨ok, ⟨runs, pending⟩, holds⟩ => ?_)
    ⟨ok, ⟨runs, rfl⟩, start⟩).2
  have on := step.goesOn ok runs (spared u ok holds)
  exact ⟨step.follows.sound ok, ⟨on.1, on.2.trans pending⟩, lasts u v ok step.follows on holds⟩

/-- A load that runs goes on running through the close, or is stopped in it. -/
theorem Part.Closes.goesOn_or_stops (h : s.Closes t) (ok : s.Sound) (runs : (s.load n).phase.running = true) :
    s.goesOn t n ∨ (t.load n).phase = .stopping s.now := by
  refine (h.keeps (P := fun u => s.Follows u ∧ (s.goesOn u n ∨ (u.load n).phase = .stopping s.now))
    (fun u v step ⟨before, holds⟩ => ⟨before.trans step.follows, ?_⟩) ⟨.refl s, .inl ⟨runs, rfl⟩⟩).2
  have ok := before.sound ok
  have now : u.now = s.now := before.work.now
  obtain ⟨runs, pending⟩ | stopping := holds
  · cases passes : u.stopsNow n with
    | false =>
      have on := step.goesOn ok runs passes
      exact .inl ⟨on.1, on.2.trans pending⟩
    | true =>
      have out : n ∉ u.queuedLoads := fun listed => by rw [(ok.queued n).2 listed] at runs; cases runs
      cases step with
      | @stop m stops =>
        by_cases is : n = m
        · subst is
          rw [Part.enterStopping_load, if_pos rfl, now]
          exact .inr rfl
        · rw [Part.goesOn, Part.enterStopping_load, if_neg is]
          exact .inl ⟨runs, pending⟩
      | @tell m live =>
        rw [Part.goesOn, Part.tellMode_load]
        split
        · exact .inl ⟨runningPhase_running _, pending⟩
        · exact .inl ⟨runs, pending⟩
      | ask asks =>
        have up : (u.load n).phase ≠ .off := fun off => by rw [off] at runs; cases runs
        exact .inl ⟨by rw [(asks.asks.kept n up out).1]; exact runs, by rw [asks.asks.record n]; exact pending⟩
      | idle idles => exact .inl ⟨by rw [Part.load, idles.loads]; exact runs, by rw [Part.load, idles.loads]; exact pending⟩
  · have out : n ∉ u.queuedLoads := fun listed => by rw [(ok.queued n).2 listed] at stopping; cases stopping
    exact .inr (((step.follows.kept n (by rw [stopping]; nofun) (by rw [stopping]; rfl) out).1).trans stopping)

end

end Sys2Proof.Machine
end

section
/-! CLEAR FAULT and STOP LOAD (R32, R41, R42, R85). -/

namespace Sys2Proof.Machine

section
variable {c : Instr} {rule : LoadId → Part → Part × Answer} {s : State} {b : Byte}

/-- A request that names a load is served by the rule of that load. -/
theorem onLoad_served {n : LoadId} (can : s.canServe c = true) (named : b.toNat = n.val) :
    request c (onLoad b rule) s = .next (s.answered c (rule n s.toPart).1 (rule n s.toPart).2) := by
  rw [request_served can, onLoad_ok rule s.toPart named]

/-- A load number above 63 is refused (R174). -/
theorem onLoad_out (can : s.canServe c = true) (out : 63 < b.toNat) :
    request c (onLoad b rule) s = .next (s.answered c s.toPart { status := .range, data := [1] }) := by
  rw [request_served can, onLoad_refused rule s.toPart out]
  rfl

end

/-! ## CLEAR FAULT (R32, R41) -/

/-- What CLEAR FAULT makes of the part, and answers. -/
def Part.faultCleared (s : Part) (n : LoadId) : Part × Answer :=
  match (s.load n).phase with
  | .fault .noStart => (s.finish (s.enterOff n), { status := .ok, data := (s.finish (s.enterOff n)).stateData n })
  | .fault .noStop => (s, { status := .wrongState })
  | _ => (s, { status := .noChange, data := s.stateData n })

theorem exec_clearFault {s : State} {b : Byte} {n : LoadId} (can : s.canServe (.clearFault b) = true)
    (named : b.toNat = n.val) :
    exec (.clearFault b) s = .next (s.answered (.clearFault b) (s.faultCleared n).1 (s.faultCleared n).2) := by
  show execClearFault b s = _
  exact onLoad_served can named

/-- What follows a load's entry to OFF: it is OFF or QUEUED, its stopped_at set (R32). -/
theorem Part.follows_reachedOff {s t : Part} {n : LoadId} (h : (s.reachedOff n).Follows t) :
    ((t.load n).phase = .off ∨ (t.load n).phase = .queued) ∧ (t.load n).stoppedAt = some s.now ∧
      (t.load n).changed = true := by
  have record := s.reachedOff_load n n
  rw [if_pos rfl] at record
  refine ⟨h.rests (.inl (by rw [record])), ?_, h.changed n (by rw [record])⟩
  rw [h.record n, record]

theorem Part.loadWork_reachedOff (s : Part) (n : LoadId) : s.LoadWork (s.reachedOff n) :=
  (s.loadWork_moveLoad n _).trans (Part.loadWork_setLoad _ n _)

/-- Settles O30: from FAULT(NO_START) the load reaches OFF, and what follows leaves it OFF or QUEUED. -/
theorem clearFault : Obligations.ClearFault := by
  refine fun s b can => ⟨fun out => onLoad_out can out, fun n named => ⟨fun fault => ?_, fun fault => ?_, fun calm => ?_⟩⟩
  · have cleared := exec_clearFault can named
    rw [Part.faultCleared, fault] at cleared
    have follows := (s.asks_enterOff n).follows.finish s.toPart
    generalize s.finish (s.enterOff n) = u at cleared follows
    have work := (s.loadWork_reachedOff n).modeWork.trans follows.work
    obtain ⟨phase, stoppedAt, changed⟩ := Part.follows_reachedOff follows
    refine ⟨_, cleared, ?_, phase, stoppedAt, changed, follows.holds, work.sameOutside_answer _ _⟩
    show Part.replies _ _ _ (b :: u8 (u.load n).phase.code)
    rw [Part.stateData, u8_of_toNat named]
    rfl
  · rw [exec_clearFault can named, Part.faultCleared, fault]
  · rw [exec_clearFault can named]
    unfold Part.faultCleared
    split
    · next fault => rw [fault] at calm; cases calm
    · next fault => rw [fault] at calm; cases calm
    · rfl

/-! ## STOP LOAD (R42) -/

/-- What STOP LOAD makes of the part, and answers, where no row refuses it. -/
theorem exec_stopLoad {s : State} {b : Byte} {n : LoadId} (can : s.canServe (.stopLoad b) = true)
    (named : b.toNat = n.val) (allowed : s.stopRefusal n = none) :
    exec (.stopLoad b) s = .next (s.answered (.stopLoad b) (s.finish (s.stopped n))
      { status := .ok, data := (s.finish (s.stopped n)).stateData n }) := by
  show execStopLoad b s = _
  refine (onLoad_served can named).trans ?_
  dsimp only
  rw [allowed]
  rfl

theorem exec_stopLoad_refused {s : State} {b : Byte} {n : LoadId} {status : Status}
    (can : s.canServe (.stopLoad b) = true) (named : b.toNat = n.val) (refused : s.stopRefusal n = some status) :
    exec (.stopLoad b) s = .next (s.answered (.stopLoad b) s.toPart { status := status }) := by
  show execStopLoad b s = _
  refine (onLoad_served can named).trans ?_
  dsimp only
  rw [refused]

section
variable {s : Part} {n : LoadId}

/-- The first row of Table 2-3 that refuses, read off one after the other. -/
theorem Part.stopRefusal_setup (setup : s.mode = .setup) : s.stopRefusal n = some .wrongMode := if_pos setup

theorem Part.stopRefusal_still (live : s.mode ≠ .setup) (still : (s.load n).phase.running = false)
    (out : (s.load n).phase ≠ .queued) : s.stopRefusal n = some .wrongState := by
  simp [Part.stopRefusal, live, still, out]

theorem Part.stopRefusal_kept (live : s.mode ≠ .setup)
    (going : (s.load n).phase.running = true ∨ (s.load n).phase = .queued) (kept : 0 < s.onCount n) :
    s.stopRefusal n = some .kept := by
  obtain going | going := going <;> simp [Part.stopRefusal, live, going, kept]

theorem Part.stopRefusal_needed (live : s.mode ≠ .setup)
    (going : (s.load n).phase.running = true ∨ (s.load n).phase = .queued) (free : s.onCount n = 0)
    (needed : s.dependentsAllowStop n = false ∨ ((s.load n).phase.running = true ∧ s.stationOnline n = false)) :
    s.stopRefusal n = some .dependent := by
  have away : (!s.dependentsAllowStop n || ((s.load n).phase.running && !s.stationOnline n)) = true := by
    obtain needed | ⟨runs, offline⟩ := needed
    · simp [needed]
    · simp [runs, offline]
  have stops : ¬ (!(s.load n).phase.running && (s.load n).phase != .queued) = true := by
    obtain runs | queued := going
    · simp [runs]
    · simp [queued]
  unfold Part.stopRefusal
  dsimp only
  rw [if_neg live, if_neg stops, if_neg (by omega), if_pos away]

theorem Part.stopRefusal_tooSoon (live : s.mode ≠ .setup) (runs : (s.load n).phase.running = true)
    (free : s.onCount n = 0) (allowed : s.dependentsAllowStop n = true) (online : s.stationOnline n = true)
    (soon : s.minRunMet n = false) : s.stopRefusal n = some .tooSoon := by
  simp [Part.stopRefusal, live, runs, free, allowed, online, soon]

theorem Part.stopRefusal_runs (live : s.mode ≠ .setup) (runs : (s.load n).phase.running = true) (free : s.onCount n = 0)
    (allowed : s.dependentsAllowStop n = true) (online : s.stationOnline n = true) (met : s.minRunMet n = true) :
    s.stopRefusal n = none := by
  simp [Part.stopRefusal, live, runs, free, allowed, online, met]

theorem Part.stopRefusal_queued (live : s.mode ≠ .setup) (queued : (s.load n).phase = .queued) (free : s.onCount n = 0)
    (allowed : s.dependentsAllowStop n = true) : s.stopRefusal n = none := by
  simp [Part.stopRefusal, live, queued, free, allowed, LoadPhase.running]

end

/-- Settles O29: the rows of Table 2-3 in order; a running load's stop stays through the close, and a QUEUED one's
withdrawal is followed by no request. -/
theorem stopLoad : Obligations.StopLoad := by
  intro s b can refused
  refine ⟨fun out => onLoad_out can out, fun n named => ?_⟩
  intro running
  have runs_iff : running = true ↔ (s.load n).phase.running = true := by
    simp only [running, decide_eq_true_eq]
    cases (s.load n).phase <;> simp [LoadPhase.running]
  have still_iff : running = false ↔ (s.load n).phase.running = false := by
    rw [← Bool.not_eq_true, runs_iff, Bool.not_eq_true]
  clear_value running
  have refuses {status : Status} (row : s.stopRefusal n = some status) : refused { status := status } :=
    exec_stopLoad_refused can named row
  refine ⟨fun setup => refuses (Part.stopRefusal_setup setup),
    fun live still out => refuses (Part.stopRefusal_still live (still_iff.1 still) out), fun live going => ?_⟩
  rw [runs_iff] at going
  refine ⟨fun kept => refuses (Part.stopRefusal_kept live going kept), fun free => ⟨fun needed => ?_, fun allowed => ?_⟩⟩
  · rw [runs_iff] at needed
    exact refuses (Part.stopRefusal_needed live going free needed)
  rw [runs_iff]
  refine ⟨fun runs online soon => refuses (Part.stopRefusal_tooSoon live runs free allowed online soon), ?_, ?_⟩
  · intro runs online met out
    have stops : s.stopped n = s.enterStopping n := if_neg fun queued => by rw [queued] at runs; cases runs
    have done := exec_stopLoad can named (Part.stopRefusal_runs live runs free allowed online met)
    have record := s.enterStopping_load n n
    have work := s.loadWork_enterStopping n
    have list := s.enterStopping_queuedLoads n
    have follows := s.follows_finish (s.enterStopping n)
    rw [stops] at done
    rw [if_pos rfl] at record
    generalize s.enterStopping n = v at done record work list follows
    generalize s.finish v = u at done follows
    obtain ⟨phase, changed, pending, -⟩ :=
      follows.kept n (by rw [record]; nofun) (by rw [record]; rfl) (by rw [list]; exact out)
    rw [record] at phase changed pending
    refine ⟨_, done, ?_, phase, pending, changed, follows.holds.trans work.holds,
      (work.modeWork.trans follows.work).sameOutside_answer _ _⟩
    rw [Part.stateData, u8_of_toNat named, phase]
    rfl
  · intro queued quiet
    have withdrawn : s.stopped n = s.withdraw n .stop := if_pos queued
    have done := exec_stopLoad can named (Part.stopRefusal_queued live queued free allowed)
    have work := s.loadWork_withdraw n .stop
    have rests := s.atRest_withdraw n (cause := .stop) rfl
    have raised := s.withdraw_raises n (cause := .stop) rfl rfl
    rw [withdrawn] at done
    generalize s.withdraw n .stop = v at done work rests raised
    have still : v.mode ≠ .wake ∨ v.ClockOk := by rw [work.mode, Part.ClockOk, work.ncc]; exact quiet
    obtain ⟨calm, settled⟩ := Part.calms_finish s.toPart still
    generalize s.finish v = u at done calm settled
    have phase : (u.load n).phase = .off := by rw [calm.still n (by rw [rests.1]; rfl)]; exact rests.1
    obtain ⟨pending, details⟩ := calm.causes 3 (by decide) (by decide)
    rw [raised] at pending details
    refine ⟨_, done, ?_, settled, phase, fun listed => rests.2 (calm.queuedLoads ▸ listed),
      pending.trans (s.raise_pending (.startFailed n .stop)), details.trans (s.raise_details (.startFailed n .stop)),
      calm.follows.holds.trans work.holds, (work.modeWork.trans calm.follows.work).sameOutside_answer _ _⟩
    rw [Part.stateData, u8_of_toNat named, phase]
    rfl

end Sys2Proof.Machine
end

section
/-! The admission scan: its walk over the queue, and what the walk leaves of a load (R97, R99 to R101). -/

namespace Sys2Proof.Machine

/-- One step of a scan that reaches the entries of these loads: a wait recorded, an entry withdrawn OVERSIZE, or a load
admitted. -/
inductive Part.ScanStep (on : LoadId → Prop) : Part → Part → Prop
  | wait (s : Part) {n : LoadId} (w : Wait) (reached : on n) : Part.ScanStep on s (s.setWait n w)
  | oversize (s : Part) {n : LoadId} (reached : on n) (queued : n ∈ s.queuedLoads) :
    Part.ScanStep on s (s.withdraw n .oversize)
  | admission (s : Part) {n : LoadId} (reached : on n) (queued : n ∈ s.queuedLoads) : Part.ScanStep on s (s.admitLoad n)

abbrev Part.Scans (on : LoadId → Prop) : Part → Part → Prop := Relation.ReflTransGen (Part.ScanStep on)

section
variable {on : LoadId → Prop} {s t : Part}

theorem Part.Scans.keeps {P : Part → Prop} (h : s.Scans on t) (step : ∀ u v : Part, u.ScanStep on v → P u → P v)
    (start : P s) : P t := by
  induction h with
  | refl => exact start
  | tail _ next ih => exact step _ _ next ih

theorem Part.scans_scanFrom (l : List LoadId) (all : ∀ n ∈ l, on n) (s : Part) : s.Scans on (Part.scanFrom l s) := by
  induction l generalizing s with
  | nil => exact .refl
  | cons n rest ih =>
    have here := all n List.mem_cons_self
    have ih := ih fun m mem => all m (List.mem_cons_of_mem _ mem)
    unfold Part.scanFrom
    split
    · next queued =>
      have listed := Part.entry?_isSome.1 queued
      split
      · exact .head (.wait s _ here) (ih _)
      · split
        · exact .head (.oversize s here listed) (ih _)
        · split
          · exact .head (.admission s here listed) (ih _)
          · exact .single (.wait s _ here)
    · exact ih s

theorem Part.ScanStep.work (h : s.ScanStep on t) : s.LoadWork t := by
  cases h with
  | wait w => exact s.loadWork_setWait _ w
  | oversize => exact s.loadWork_withdraw _ _
  | admission => exact s.loadWork_admitLoad _

theorem Part.ScanStep.sound (h : s.ScanStep on t) (ok : s.Sound) : t.Sound := by
  cases h with
  | wait w => exact ((s.keeps_setWait _ w).plant ok).1
  | oversize _ queued => exact (Part.asks_withdraw (.inl queued) rfl).sound ok
  | admission _ queued => exact ((Part.keeps_admitLoad (Part.entry?_isSome.2 queued)).plant ok).1

/-- A load that has been admitted stays as it is while the scan goes on. -/
def Part.admitted (s t : Part) (n : LoadId) : Prop :=
  (t.load n).phase = .starting ∧ (t.load n).startedAt = (s.load n).startedAt ∧
    (t.load n).startHistory = (s.load n).startHistory ∧ t.dgv.startingOrigin[n] = s.dgv.startingOrigin[n] ∧
    n ∉ t.queuedLoads

theorem Part.Follows.admitted (h : s.Follows t) {n : LoadId} (starting : (s.load n).phase = .starting)
    (out : n ∉ s.queuedLoads) : s.admitted t n := by
  obtain ⟨phase, -, -, out⟩ := h.kept n (by rw [starting]; nofun) (by rw [starting]; rfl) out
  exact ⟨phase.trans starting, by rw [h.record n], by rw [h.record n], by rw [h.starting], out⟩

theorem Part.ScanStep.admitted {n : LoadId} (h : s.ScanStep on t) (starting : (s.load n).phase = .starting)
    (out : n ∉ s.queuedLoads) : s.admitted t n := by
  cases h with
  | wait w => exact ⟨starting, rfl, rfl, rfl, by rw [Part.setWait_queuedLoads]; exact out⟩
  | oversize _ queued => exact (Part.asks_withdraw (.inl queued) rfl).follows.admitted starting out
  | @admission m _ queued =>
    have other : n ≠ m := fun same => out (same ▸ queued)
    rw [Part.admitted, Part.admitLoad_load, if_neg other]
    exact ⟨starting, rfl, rfl, Part.setStartingOrigin_ne _ _ other, fun listed => out (Part.mem_removeEntry.1 listed).1⟩

theorem Part.Scans.admitted {n : LoadId} (h : s.Scans on t) (starting : (s.load n).phase = .starting)
    (out : n ∉ s.queuedLoads) : s.admitted t n := by
  refine h.keeps (P := fun u => s.admitted u n) (fun u v step ⟨phase, startedAt, history, origin, out⟩ => ?_)
    ⟨starting, rfl, rfl, rfl, out⟩
  obtain ⟨phase', startedAt', history', origin', out'⟩ := step.admitted phase out
  exact ⟨phase', startedAt'.trans startedAt, history'.trans history, origin'.trans origin, out'⟩

/-- A load that is OFF, without an entry, stays so. -/
theorem Part.Scans.atRest {n : LoadId} (h : s.Scans on t) (rests : s.atRest n) : t.atRest n := by
  refine h.keeps (P := fun u => u.atRest n) (fun u v step ⟨off, out⟩ => ?_) rests
  cases step with
  | wait w => exact ⟨off, by rw [Part.setWait_queuedLoads]; exact out⟩
  | @oversize m _ queued =>
    have other : n ≠ m := fun same => out (same ▸ queued)
    rw [Part.withdraw_eq rfl]
    refine Part.atRest_settleOrphans _ _ ⟨?_, fun listed => out (Part.mem_dropEntry.1 listed).1⟩
    show ((u.dropEntry m).load n).phase = .off
    rw [Part.dropEntry_load, if_neg other]
    exact off
  | @admission m _ queued =>
    have other : n ≠ m := fun same => out (same ▸ queued)
    refine ⟨?_, fun listed => out (Part.mem_removeEntry.1 listed).1⟩
    rw [Part.admitLoad_load, if_neg other]
    exact off

/-- START_FAILED stays pending while the scan goes on. -/
theorem Part.Scans.failed (h : s.Scans on t) (raised : s.atl.pending.getLsbD 3 = true) : t.atl.pending.getLsbD 3 = true := by
  refine h.keeps (P := fun u => u.atl.pending.getLsbD 3 = true) (fun u v step raised => ?_) raised
  cases step with
  | wait => exact raised
  | oversize _ queued => exact (Part.asks_withdraw (.inl queued) rfl).failed raised
  | admission => exact raised

theorem Part.entry?_setWait (s : Part) (m n : LoadId) (w : Wait) :
    (s.setWait m w).entry? n = (s.entry? n).map fun e => if e.load = m then { e with wait := w } else e := by
  unfold Part.entry? Part.setWait
  rw [Part.setQueue_dgv, List.find?_map]
  congr 2
  funext e
  dsimp only [Function.comp]
  split <;> rfl

/-- An entry that was not pulled stays as it is while the scan goes on to other loads. -/
theorem Part.Scans.entry {n : LoadId} {e : Entry} (h : s.Scans on t) (ok : s.Sound) (passed : ¬ on n)
    (own : ∀ p, e.origin ≠ .pull p) (found : s.entry? n = some e) : t.Sound ∧ t.entry? n = some e := by
  refine h.keeps (P := fun u => u.Sound ∧ u.entry? n = some e) (fun u v step ⟨ok, found⟩ => ⟨step.sound ok, ?_⟩)
    ⟨ok, found⟩
  have is := (Part.entry?_some found).2
  cases step with
  | @wait m w reached =>
    have other : n ≠ m := fun same => passed (same ▸ reached)
    rw [Part.entry?_setWait, found, Option.map_some, if_neg (is ▸ other)]
  | @oversize m reached queued =>
    have other : n ≠ m := fun same => passed (same ▸ reached)
    rw [Part.withdraw_eq rfl]
    refine (Part.asked_settleOrphans (a := {}) 64 _ [m] (.inl (Part.raise_pending _ (.startFailed m .oversize)))).entry ?_ own id
      (fun _ => False.elim) ?_
    · exact ((Part.asks_dropEntry (.inl queued)).trans (Part.asks_raise _ _ _)).sound ok
    · exact (u.entry?_dropEntry_ne other).trans found
  | @admission m reached =>
    have other : n ≠ m := fun same => passed (same ▸ reached)
    exact (u.entry?_removeEntry_ne other).trans found

end

theorem Part.ModeWork.sameOutside {s t : Part} (h : s.ModeWork t) : s.SameOutside t :=
  ⟨h.power, h.flm, h.cfs, h.uptime, h.clock, h.records, h.lines, by rw [h.svp]⟩

/-! ## The walk (R99) -/

/-- The wait of a load's own conditions, none where it is ready (R99). -/
def Part.waitOf (s : Part) (n : LoadId) : Wait := (s.ownWait n).getD .none

theorem Part.waitOf_eq (s : Part) (n : LoadId) : s.waitOf n =
    if s.needsSatisfied n = false then .needs
    else if s.inMinOff n = true then .minOff
    else if (s.config n).startsPerHour ≤ (s.load n).startHistory.length then .budget
    else if s.stationOnline n = false then .link else .none := by
  unfold Part.waitOf Part.ownWait
  cases s.needsSatisfied n <;> cases s.inMinOff n <;> cases s.stationOnline n <;> simp <;> split <;> rfl

section
variable {s : Part} {n : LoadId}

theorem Part.ownWait_of_waits (waits : s.waitOf n ≠ .none) : s.ownWait n = some (s.waitOf n) := by
  unfold Part.waitOf at waits ⊢
  cases own : s.ownWait n with
  | none => rw [own] at waits; exact absurd rfl waits
  | some w => rfl

theorem Part.ownWait_of_ready (ready : s.waitOf n = .none) : s.ownWait n = none := by
  rw [Part.waitOf_eq] at ready
  unfold Part.ownWait
  cases needs : s.needsSatisfied n <;> simp only [needs] at ready ⊢
  · cases ready
  · cases off : s.inMinOff n <;> simp only [off] at ready ⊢
    · by_cases budget : (s.config n).startsPerHour ≤ (s.load n).startHistory.length
      · simp [budget] at ready
      · cases link : s.stationOnline n <;> simp [budget, link] at ready ⊢
    · cases ready

/-- Recording the waits of these loads, one after the other. -/
def Part.markWaits (s : Part) (wait : LoadId → Wait) (l : List LoadId) : Part := l.foldl (fun u n => u.setWait n (wait n)) s

/-- Where the waits are recorded, the entries are those of before, each with its load's wait where it has been reached. -/
theorem Part.markWaits_eq (wait : LoadId → Wait) (l : List LoadId) (s : Part) :
    s.markWaits wait l = s.setQueue (s.dgv.queue.map fun e => if e.load ∈ l then { e with wait := wait e.load } else e) := by
  induction l generalizing s with
  | nil => simp [Part.markWaits, Part.setQueue]
  | cons n l ih =>
    have next : s.markWaits wait (n :: l) = (s.setWait n (wait n)).markWaits wait l := rfl
    rw [next, ih]
    unfold Part.setWait Part.setQueue
    dsimp only
    rw [List.map_map]
    congr 3
    funext e
    dsimp only [Function.comp]
    by_cases here : e.load = n
    · subst here; by_cases later : e.load ∈ l <;> simp [later]
    · by_cases later : e.load ∈ l <;> simp [here, later]

/-- The walk over entries that all wait records their waits and goes on (R99). -/
theorem Part.scanFrom_waits {wait : LoadId → Wait} (l rest : List LoadId) (s : Part) (queued : ∀ n ∈ l, n ∈ s.queuedLoads)
    (waits : ∀ n ∈ l, s.ownWait n = some (wait n)) :
    Part.scanFrom (l ++ rest) s = Part.scanFrom rest (s.markWaits wait l) := by
  induction l generalizing s with
  | nil => rfl
  | cons n l ih =>
    have here := Part.entry?_isSome.2 (queued n List.mem_cons_self)
    have ih := ih (s.setWait n (wait n))
      (fun m mem => by rw [Part.setWait_queuedLoads]; exact queued m (List.mem_cons_of_mem _ mem))
      fun m mem => waits m (List.mem_cons_of_mem _ mem)
    rw [List.cons_append, Part.scanFrom, if_pos here, waits n List.mem_cons_self]
    exact ih

/-- The scan at the first ready entry (R100): OVERSIZE, admission, or DEMAND. -/
theorem Part.scanFrom_ready (rest : List LoadId) (queued : n ∈ s.queuedLoads) (ready : s.ownWait n = none) :
    Part.scanFrom (n :: rest) s =
      if s.dgv.ceilingI.value < (s.config n).inrushKw then Part.scanFrom rest (s.withdraw n .oversize)
      else if s.instantTest n && s.intervalTest n then Part.scanFrom rest (s.admitLoad n)
      else s.setWait n .demand := by
  rw [Part.scanFrom, if_pos (Part.entry?_isSome.2 queued), ready]

theorem Part.scanFrom_waiting {w : Wait} (rest : List LoadId) (queued : n ∈ s.queuedLoads) (waits : s.ownWait n = some w) :
    Part.scanFrom (n :: rest) s = Part.scanFrom rest (s.setWait n w) := by
  rw [Part.scanFrom, if_pos (Part.entry?_isSome.2 queued), waits]

/-- The projection's rounding, as the statement writes it (R97). -/
theorem ceilDiv_eq (a b : Nat) : ceilDiv a b = (a + (b - 1)) / b := by
  unfold ceilDiv
  cases b with
  | zero => simp
  | succ b => rfl

end

/-! ## The close of a scan that admits nothing -/

/-- A walk that ends at a DEMAND wait moves no load; its close computes D, and no more (R92, R100). -/
theorem Part.finish_marked {s : Part} (q : List Entry) (scanDue : Bool) 
    (same : q.map Entry.origin = s.dgv.queue.map Entry.origin)
    (settled : s.wakeSettled) :
    ∃ demand due, s.finish { s with dgv := { s.dgv with queue := q, scanDue := scanDue } } =
      { s with dgv := { s.dgv with queue := q, demand := demand, scanDue := due } } := by
  have checked : s.recheck { s with dgv := { s.dgv with queue := q, scanDue := scanDue } } =
      { s with dgv := { s.dgv with queue := q, scanDue := scanDue } } :=
    Part.recheck_of_same_inputs (fun _ => rfl) rfl
  have origins (p : Origin → Bool) : q.any (fun e => p e.origin) = s.dgv.queue.any fun e => p e.origin := by
    have := congrArg (fun l => List.any l p) same
    simpa only [List.any_map, Function.comp_def] using this
  rw [Part.finish, checked, Part.wakeEndTest_settled]
  · exact ⟨_, _, rfl⟩
  · intro wake
    have := settled wake
    unfold Part.wakeWork at this ⊢
    rw [Bool.or_eq_true] at this ⊢
    refine this.imp (fun queued => ?_) id
    exact (origins fun o => decide (o = .wake)).trans queued

/-! ## The scan, from its first entry that does not wait -/

section
variable {s : Part} {front rest : List Entry} {e : Entry}

/-- The part at the entry the walk has come to: the scan taken, the waits before it recorded. -/
def Part.walked (s : Part) (front : List Entry) : Part :=
  Part.markWaits { s with dgv := { s.dgv with scanDue := false } } s.waitOf (front.map Entry.load)

theorem Part.walked_eq (s : Part) (front : List Entry) : ∃ q, s.walked front =
    { s with dgv := { s.dgv with queue := q, scanDue := false } } ∧ q.map Entry.load = s.queuedLoads ∧
      q = s.dgv.queue.map fun x => if x.load ∈ front.map Entry.load then { x with wait := s.waitOf x.load } else x := by
  refine ⟨_, Part.markWaits_eq s.waitOf (front.map Entry.load) _, ?_, rfl⟩
  rw [List.map_map]
  refine List.map_congr_left fun x _ => ?_
  dsimp only [Function.comp]
  split <;> rfl

theorem Part.scan_walks (queue : s.dgv.queue = front ++ e :: rest) (waits : ∀ x ∈ front, s.waitOf x.load ≠ .none) :
    s.scan = Part.scanFrom (e.load :: rest.map Entry.load) (s.walked front) := by
  have loads : s.dgv.queue.map Entry.load = front.map Entry.load ++ e.load :: rest.map Entry.load := by
    rw [queue, List.map_append, List.map_cons]
  unfold Part.scan
  rw [loads]
  refine Part.scanFrom_waits _ _ _ (fun n mem => ?_) fun n mem => ?_
  · show n ∈ s.dgv.queue.map Entry.load
    rw [loads]
    exact List.mem_append_left _ mem
  · obtain ⟨x, listed, rfl⟩ := List.mem_map.1 mem
    exact Part.ownWait_of_waits (waits x listed)

/-- An entry that is ready is none of those passed over, and is the first that its load has. -/
theorem Part.walked_entry (queue : s.dgv.queue = front ++ e :: rest) (passed : e.load ∉ front.map Entry.load) :
    (s.walked front).entry? e.load = some e := by
  obtain ⟨q, walked, -, marked⟩ := s.walked_eq front
  rw [walked, Part.entry?, marked, queue, List.map_append, List.find?_append, List.find?_eq_none.2, Option.none_or,
    List.map_cons, List.find?_cons_of_pos, if_neg passed]
  · simp only [passed, if_false, decide_true]
  · intro x listed
    obtain ⟨y, mem, rfl⟩ := List.mem_map.1 listed
    have there : y.load ∈ front.map Entry.load := List.mem_map_of_mem mem
    have other : y.load ≠ e.load := fun same => passed (same ▸ there)
    rw [if_pos there]
    simpa using other

end

/-- The queue a DEMAND wait leaves, where no load has two entries (R99, R100). -/
theorem Part.demanded_queue {front rest : List Entry} {e : Entry} {wait : LoadId → Wait}
    (once : ((front ++ e :: rest).map Entry.load).Nodup) :
    ((front ++ e :: rest).map fun x => if x.load ∈ front.map Entry.load then { x with wait := wait x.load } else x).map
        (fun x => if x.load = e.load then { x with wait := .demand } else x) =
      (front.map fun x => { x with wait := wait x.load }) ++ { e with wait := .demand } :: rest := by
  rw [List.map_append, List.map_cons] at once
  obtain ⟨-, tail, apart⟩ := List.nodup_append.1 once
  have out : e.load ∉ rest.map Entry.load := (List.nodup_cons.1 tail).1
  rw [List.map_map, List.map_append, List.map_cons]
  congr 1
  · refine List.map_congr_left fun x listed => ?_
    have there : x.load ∈ front.map Entry.load := List.mem_map_of_mem listed
    have other : x.load ≠ e.load := fun same => apart _ there _ List.mem_cons_self same
    simp only [Function.comp, there, other, if_true, if_false]
  · have passed : e.load ∉ front.map Entry.load := fun mem => apart _ mem _ List.mem_cons_self rfl
    refine congrArg₂ List.cons (by simp only [Function.comp, passed, if_true, if_false]) ?_
    refine (List.map_congr_left fun x listed => ?_).trans (List.map_id rest)
    have there : x.load ∈ rest.map Entry.load := List.mem_map_of_mem listed
    have other : x.load ≠ e.load := fun same => out (same ▸ there)
    have behind : x.load ∉ front.map Entry.load := fun mem => apart _ mem _ (List.mem_cons_of_mem _ there) rfl
    simp only [Function.comp, behind, other, if_false, id]

theorem Part.walked_sound {s : Part} (ok : s.Sound) (front : List Entry) : (s.walked front).Sound := by
  obtain ⟨q, walked, loads, marked⟩ := s.walked_eq front
  rw [walked]
  refine ok.congr (fun _ => rfl) (fun _ => rfl) loads ?_ rfl rfl
  rw [marked]
  exact keys_map (fun x => by split <;> rfl) ok.keys

/-- Settles O33: the walk to the first entry that is ready, what is made of it there, and that the rest of the scan and
its close leave that as it is. -/
theorem scanAdmitsReadyHead : Obligations.ScanAdmitsReadyHead := by
  intro s front e rest works due queue wait inrush l t p intervalTest waits
  have waitOf (n : LoadId) : s.waitOf n = wait n := s.waitOf_eq n
  have waits (x : Entry) (listed : x ∈ front) : s.waitOf x.load ≠ .none := by rw [waitOf]; exact waits x listed
  have scanned : exec .admissionScan s = .next (s.withPart (s.finish s.scan)) := by
    show execAdmissionScan s = _
    rw [execAdmissionScan, event_taken works, if_pos due]
  have walks := Part.scan_walks queue waits
  have work := s.loadWork_scan
  have listed : e.load ∈ (s.walked front).queuedLoads := by
    obtain ⟨q, walked, loads, -⟩ := s.walked_eq front
    rw [walked]
    show e.load ∈ q.map Entry.load
    rw [loads, Part.queuedLoads, queue]
    simp
  have walkedWork : s.LoadWork (s.walked front) := by
    obtain ⟨q, walked, -⟩ := s.walked_eq front
    rw [walked]
    exact ⟨rfl, rfl, rfl, rfl, rfl, rfl, rfl, rfl, rfl⟩
  have ownWait : (s.walked front).ownWait e.load = s.ownWait e.load := by
    obtain ⟨q, walked, -⟩ := s.walked_eq front
    rw [walked]
    rfl
  have ceiling : (s.walked front).dgv.ceilingI = s.dgv.ceilingI := by
    obtain ⟨q, walked, -⟩ := s.walked_eq front
    rw [walked]
  have instant : (s.walked front).instantTest e.load = decide (s.demandNow + inrush ≤ s.dgv.ceilingI.value) := by
    obtain ⟨q, walked, -⟩ := s.walked_eq front
    rw [walked]
    rfl
  have interval : (s.walked front).intervalTest e.load = true ↔ intervalTest := by
    obtain ⟨q, walked, -⟩ := s.walked_eq front
    rw [walked]
    show (!s.projectionOn || decide (s.projection e.load ≤ s.dgv.ceilingD.value)) = true ↔ _
    rw [show s.projection e.load = p from ceilDiv_eq _ _, Bool.or_eq_true, Bool.not_eq_true', decide_eq_true_eq]
    show (s.cfg.meter.inUse && decide (0 < s.dgv.ceilingD.value) && s.ncc.clock.valid && !s.dgv.isPartial) = false ∨
      p ≤ s.dgv.ceilingD.value ↔ (s.cfg.meter.inUse = true → 0 < s.dgv.ceilingD.value → s.ncc.clock.valid = true →
        s.dgv.isPartial = false → p ≤ s.dgv.ceilingD.value)
    clear_value p
    cases s.cfg.meter.inUse <;> cases s.ncc.clock.valid <;> cases s.dgv.isPartial <;>
      by_cases limit : 0 < s.dgv.ceilingD.value <;> simp [limit]
  have load (n : LoadId) : (s.walked front).load n = s.load n := by
    obtain ⟨q, walked, -⟩ := s.walked_eq front
    rw [walked]
    rfl
  have passed (ready : wait e.load = .none) : e.load ∉ front.map Entry.load := fun mem => by
    obtain ⟨x, listed, same⟩ := List.mem_map.1 mem
    exact waits x listed (by rw [same, waitOf, ready])
  refine ⟨fun ready fits within => ?_, fun ok ready above clock => ?_, fun ok settled ready below fails => ?_,
    fun ok waiting own => ?_⟩
  · have admits : s.scan = Part.scanFrom (rest.map Entry.load) ((s.walked front).admitLoad e.load) := by
      rw [walks, Part.scanFrom_ready _ listed (by rw [ownWait]; exact Part.ownWait_of_ready ((waitOf _).trans ready)),
        if_neg, if_pos]
      · rw [instant, interval.2 within, decide_eq_true fits]; rfl
      · rw [ceiling, walkedWork.config]; omega
    have record := (s.walked front).admitLoad_load e.load e.load
    rw [if_pos rfl, load, walkedWork.now] at record
    have origin : ((s.walked front).admitLoad e.load).dgv.startingOrigin[e.load] = some e.origin :=
      (Part.setStartingOrigin_self _ _ _).trans (by rw [Part.walked_entry queue (passed ready)]; rfl)
    have out : e.load ∉ ((s.walked front).admitLoad e.load).queuedLoads := fun mem => (Part.mem_removeEntry.1 mem).2 rfl
    have scans := Part.scans_scanFrom (on := fun _ => True) (rest.map Entry.load) (fun _ _ => trivial)
      ((s.walked front).admitLoad e.load)
    rw [← admits] at scans
    obtain ⟨phase, startedAt, history, starting, out⟩ := scans.admitted (by rw [record]) out
    have closes := s.follows_finish s.scan
    obtain ⟨phase', startedAt', history', starting', out'⟩ := closes.admitted phase out
    exact ⟨_, scanned, phase', startedAt'.trans (startedAt.trans (by rw [record])),
      history'.trans (history.trans (by rw [record])), starting'.trans (starting.trans origin), out',
      closes.holds.trans work.holds, (work.modeWork.trans closes.work).sameOutside⟩
  · have withdraws : s.scan = Part.scanFrom (rest.map Entry.load) ((s.walked front).withdraw e.load .oversize) := by
      rw [walks, Part.scanFrom_ready _ listed (by rw [ownWait]; exact Part.ownWait_of_ready ((waitOf _).trans ready)),
        if_pos]
      rw [ceiling, walkedWork.config]
      exact above
    have rests := (s.walked front).atRest_withdraw e.load (cause := .oversize) rfl
    have raised := (s.walked front).withdraw_raises e.load (cause := .oversize) rfl rfl
    have pending : ((s.walked front).withdraw e.load .oversize).atl.pending.getLsbD 3 = true := by
      rw [raised]; exact Part.raise_pending _ (.startFailed e.load .oversize)
    have detail : ((s.walked front).withdraw e.load .oversize).atl.details[3] = some (.startFailed e.load .oversize) := by
      rw [raised]; exact Part.raise_details _ (.startFailed e.load .oversize)
    have scans := Part.scans_scanFrom (on := fun _ => True) (rest.map Entry.load) (fun _ _ => trivial)
      ((s.walked front).withdraw e.load .oversize)
    rw [← withdraws] at scans
    have resting := scans.atRest rests
    obtain ⟨calm, -⟩ := Part.calms_finish (s := s.scan) s.toPart (.inr (by rw [Part.ClockOk, work.ncc]; exact clock))
    obtain ⟨same, sameDetail⟩ := calm.causes 3 (by decide) (by decide)
    refine ⟨_, scanned, ?_, fun mem => resting.2 (calm.queuedLoads ▸ mem), same.trans (scans.failed pending),
      fun alone => sameDetail.trans ?_, calm.follows.holds.trans work.holds,
      (work.modeWork.trans calm.follows.work).sameOutside⟩
    · show ((s.finish s.scan).load e.load).phase = .off
      rw [calm.still _ (by rw [resting.1]; rfl)]
      exact resting.1
    · rw [withdraws, alone]
      exact detail
  · have stays : s.scan = (s.walked front).setWait e.load .demand := by
      rw [walks, Part.scanFrom_ready _ listed (by rw [ownWait]; exact Part.ownWait_of_ready ((waitOf _).trans ready)),
        if_neg, if_neg]
      · rw [instant, Bool.and_eq_true, interval, decide_eq_true_eq]
        exact fun ⟨fits, within⟩ => fails.elim (fun above => by omega) fun beyond => beyond within
      · rw [ceiling, walkedWork.config]; exact Nat.not_lt.2 below
    obtain ⟨q, walked, -, marked⟩ := s.walked_eq front
    have taken : s.scan = { s.toPart with dgv := { s.dgv with
        queue := (front.map fun x => { x with wait := wait x.load }) ++ { e with wait := .demand } :: rest
        scanDue := false } } := by
      rw [stays, walked, Part.setWait, Part.setQueue]
      dsimp only
      rw [marked, queue, Part.demanded_queue (queue ▸ ok.sound.once)]
      simp only [waitOf]
    obtain ⟨demand, scanDue, closed⟩ := Part.finish_marked (s := s.toPart)
      ((front.map fun x => { x with wait := wait x.load }) ++ { e with wait := .demand } :: rest) false
      (by rw [queue]; simp) settled
    rw [taken, closed] at scanned
    exact ⟨_, scanned, rfl, rfl, rfl, rfl, rfl, rfl, ⟨rfl, rfl, rfl, rfl, rfl, rfl, rfl, rfl⟩⟩
  · have waits' : s.waitOf e.load ≠ .none := by rw [waitOf]; exact waiting
    have goes : s.scan = Part.scanFrom (rest.map Entry.load) ((s.walked front).setWait e.load (wait e.load)) := by
      rw [walks, Part.scanFrom_waiting _ listed (by rw [ownWait]; exact Part.ownWait_of_waits waits'), waitOf]
    have once : (front.map Entry.load ++ e.load :: rest.map Entry.load).Nodup := by
      have := ok.sound.once
      rwa [Part.queuedLoads, queue, List.map_append, List.map_cons] at this
    obtain ⟨-, tail, apart⟩ := List.nodup_append.1 once
    have found : ((s.walked front).setWait e.load (wait e.load)).entry? e.load = some { e with wait := wait e.load } := by
      rw [Part.entry?_setWait, Part.walked_entry queue fun mem => apart _ mem _ List.mem_cons_self rfl]
      simp
    have sound : ((s.walked front).setWait e.load (wait e.load)).Sound :=
      ((Part.keeps_setWait _ _ _).plant (Part.walked_sound ok.sound front)).1
    have scans := Part.scans_scanFrom (on := (· ∈ rest.map Entry.load)) (rest.map Entry.load) (fun _ mem => mem)
      ((s.walked front).setWait e.load (wait e.load))
    rw [← goes] at scans
    obtain ⟨sound, found⟩ := scans.entry (e := { e with wait := wait e.load }) sound
      (List.nodup_cons.1 tail).1 own found
    have closes := s.closes_finish s.scan
    have found := closes.entry (e := { e with wait := wait e.load }) sound own found
    refine ⟨_, scanned, found, ?_, closes.follows.holds.trans work.holds,
      (work.modeWork.trans closes.follows.work).sameOutside⟩
    exact ((closes.follows.sound sound).queued _).2 (Part.entry?_isSome.1 (by rw [found]; rfl))

end Sys2Proof.Machine
end

section
/-! The load deadlines' counterexample: a plant clock past the end of its minute (R106). -/

namespace Sys2Proof.Machine

set_option Elab.async false

/-- A plan that works from 05:30 to 22:30, Monday to Friday, with a warning of 20 minutes. -/
def shiftPlan : Plan :=
  { valid := true, workDays := 0x1F, windDownTime := 1350, warningMin := 20, wakeTime := 330, wakeGraceMin := 30 }

/-- The loads of `clockPastItsMinute`: 12 at the end of its window, 9 QUEUED and needing it, 10 OFF with a need that
cannot be met. -/
def windowedLoads : List (LoadId × LoadConfig × LoadRecord) :=
  [(12, { inUse := true, accelS := 8, idleMin := 30 },
      { phase := .starting, feedback := true, startedAt := some 5950 }),
    (9, { inUse := true, needs := [.load 12], idleMin := 30 }, { phase := .queued }),
    (10, { inUse := true, needs := [.load 20], idleMin := 30 }, { phase := .off })]

/-- A WAKE with no work left, on a clock whose second is far above 59: the nights it passes through are all in the
past, so that the close of one command goes from DAY to NIGHT and back through WAKE, a second time. -/
def clockPastItsMinute : State :=
  { State.reset with
    cfg :=
      { active := shiftPlan
        loads := windowedLoads.foldl (fun c x => c.set x.1 x.2.1) (Vector.replicate 64 {}) }
    loads := windowedLoads.foldl (fun r x => r.set x.1 x.2.2) (Vector.replicate 64 {})
    holds :=
      [{ id := 7, kind := .keepOff, target := .load 12, owner := .supervisor, expiry := none, placedAt := 0
         renewals := 0, reason := 0 }]
    nextId := 8
    dgv :=
      { queue := [{ load := 9, origin := .pull 10, key := 4, seq := 0 }], nextSeq := 1
        startingOrigin := (Vector.replicate 64 none).set 12 (some .command) }
    ncc := { mode := .wake none, uptime := 6000, clock := { valid := true, minute := 0, second := 1000000 } } }

theorem clockPastItsMinute_loadsOk : clockPastItsMinute.LoadsOk := by decide +kernel

theorem clockPastItsMinute_working : clockPastItsMinute.working = true := by decide +kernel

theorem clockPastItsMinute_load_twelve :
    (clockPastItsMinute.load 12).phase = .starting ∧ (clockPastItsMinute.load 12).startedAt = some 5950 ∧
      (clockPastItsMinute.load 12).feedback = true ∧ (clockPastItsMinute.config 12).idleMin = 30 ∧
      (clockPastItsMinute.config 12).accelS ≤ clockPastItsMinute.now - 5950 := by decide +kernel

/-- Load 12 is kept off and the QUEUED load 9 depends on it. -/
theorem clockPastItsMinute_stop_waits :
    0 < clockPastItsMinute.offCount 12 ∧ clockPastItsMinute.stopConditions 12 = false := by decide +kernel

/-- Some moves taken one after the other, with the move that is called for next. -/
def Part.afterMoves : Nat → Part → Option Move → Part × Option Move
  | 0, s, m => (s, m)
  | _, s, none => (s, none)
  | k + 1, s, some m => Part.afterMoves k (s.applyMove m).1 (s.applyMove m).2

theorem Part.runMoves_add (j k : Nat) (s : Part) (m : Option Move) :
    Part.runMoves (j + k) s m = Part.runMoves k (s.afterMoves j m).1 (s.afterMoves j m).2 := by
  induction j generalizing s m with
  | zero => rw [Nat.zero_add]; rfl
  | succ j ih =>
    rw [Nat.succ_add]
    cases m with
    | none => cases k <;> rfl
    | some m => exact ih _ _

theorem Part.changeMode_add {s : Part} {m : Move} (j k : Nat) (eight : j + k = 8) :
    s.changeMode m = Part.runMoves k (s.afterMoves j (some m)).1 (s.afterMoves j (some m)).2 := by
  rw [Part.changeMode, ← eight, Part.runMoves_add]

/-- The end test of a WAKE that has work left or not, as moves; of any other mode, none. -/
theorem Part.wakeEndTest_ends {s : Part} (wake : s.mode = .wake) (idle : s.wakeWork = false) :
    s.wakeEndTest = s.changeMode (.day false none) := by
  simp [Part.wakeEndTest, wake, idle]

/-- An entry to NIGHT at which some check passes, by its two orders. -/
theorem Part.enterNight_orders {s : Part} {P : Part × Option Move → Prop}
    (some_passes : (allLoads.filter fun n => s.checkable n && s.stopsNow n).isEmpty = false)
    (lead_first : P ((s.nextChoice.takeLead s.wakeTarget).1.nightChecks, (s.nextChoice.takeLead s.wakeTarget).2))
    (checks_first : P (s.nextChoice.nightChecks.takeLead s.wakeTarget)) : P s.enterNight := by
  simp only [Part.enterNight, some_passes, Bool.false_eq_true, if_false]
  split
  · exact lead_first
  · exact checks_first

theorem Part.finish_load (s t : Part) (n : LoadId) :
    (s.finish t).load n = ((s.recomputeDemand (s.recheck t)).wakeEndTest).load n := rfl

/-- Where `clockPastItsMinute` stands when its window has ended and the checks have been taken. -/
@[irreducible] def windowPast : Part :=
  clockPastItsMinute.recomputeDemand (clockPastItsMinute.recheck (clockPastItsMinute.completeStart 12))

theorem windowPast_wakeEnds : windowPast.mode = .wake ∧ windowPast.wakeWork = false := by decide +kernel

/-- Where the second of the two nights begins. -/
@[irreducible] def secondNight : Part := (windowPast.afterMoves 6 (some (.day false none))).1

theorem secondNight_next : (windowPast.afterMoves 6 (some (.day false none))).2 = some .night := by decide +kernel

theorem windowPast_wakeEndTest :
    windowPast.wakeEndTest = Part.runMoves 1 (secondNight.applyMove .night).1 (secondNight.applyMove .night).2 := by
  rw [Part.wakeEndTest_ends windowPast_wakeEnds.1 windowPast_wakeEnds.2, Part.changeMode_add 6 2 rfl,
    secondNight_next, Part.runMoves_some, secondNight]

/-- The loads as the moves after an entry to NIGHT leave them: load 12 among them is STOPPING. -/
def Part.StopsTwelve (r : Part × Option Move) : Prop :=
  ((Part.runMoves 1 (r.1.raiseMode false) r.2).load 12).phase = .stopping 6000

/-- The sweep before has taken load 10 in and back out, load 9 went with it, and nothing depends on load 12 now. -/
theorem secondNight_stops_twelve :
    Part.StopsTwelve (secondNight.tellMode (.night none none 0)).enterNight := by
  refine Part.enterNight_orders (P := Part.StopsTwelve) ?_ ?_ ?_
  · decide +kernel
  · unfold Part.StopsTwelve
    decide +kernel
  · unfold Part.StopsTwelve
    decide +kernel

theorem exec_inrushWindowEnd_clockPastItsMinute {t : State}
    (next : exec (.inrushWindowEnd 12) clockPastItsMinute = .next t) : (t.load 12).phase = .stopping 6000 := by
  have taken : exec (.inrushWindowEnd 12) clockPastItsMinute = .next (clockPastItsMinute.withPart
      (clockPastItsMinute.finish (clockPastItsMinute.completeStart 12))) := by
    show execInrushWindowEnd 12 clockPastItsMinute = _
    rw [execInrushWindowEnd, event_taken clockPastItsMinute_working,
      if_pos (show _ ∧ _ ∧ (!clockPastItsMinute.inWindow 12) = true by decide +kernel)]
  have stops : ((clockPastItsMinute.finish (clockPastItsMinute.completeStart 12)).load 12).phase =
      .stopping 6000 := by
    have settled := windowPast_wakeEndTest
    unfold windowPast at settled
    rw [Part.finish_load, settled]
    exact secondNight_stops_twelve
  cases taken.symm.trans next
  exact stops

/-- Refutes O51: the clause for a load kept off at the end of its window asks nothing of the plant clock. Where its
second is past 59 (R106) one command can pass through two nights, and the load, its stop pending at first, is STOPPING
at the end. -/
theorem not_loadDeadlines : ¬ Obligations.LoadDeadlines := by
  unfold Obligations.LoadDeadlines
  intro claim
  obtain ⟨starting, since, on, idle, past⟩ := clockPastItsMinute_load_twelve
  obtain ⟨keptOff, waits⟩ := clockPastItsMinute_stop_waits
  obtain ⟨-, windows, -⟩ := claim _ 12 clockPastItsMinute_working clockPastItsMinute_loadsOk
  obtain ⟨-, -, -, window⟩ := windows 5950 starting since
  obtain ⟨t, next, -, kept, -⟩ := window past on (by rw [idle]; decide)
  have running := ((kept keptOff).2 waits).1
  rw [exec_inrushWindowEnd_clockPastItsMinute next] at running
  exact absurd running (by decide)

end Sys2Proof.Machine
end

section
/-! The retirement of one hold: the counts it stood in, and what re-examined entries give up (R52, R70, R71, R86). -/

namespace Sys2Proof.Machine

section
variable {s t : Part} {h : Hold}

/-- The part when the record of a hold has gone (R67). -/
def Part.without (s : Part) (h : Hold) : Part := { s with holds := s.holds.filter fun x => x.id != h.id }

/-- A count over the live holds, and over those that stay. -/
theorem Part.countP_without (once : s.holds.Pairwise fun a b => a.id < b.id) (live : h ∈ s.holds) (p : Hold → Bool) :
    s.holds.countP p = (s.without h).holds.countP p + if p h then 1 else 0 := by
  have ids {a b : Hold} (ha : a ∈ s.holds) (hb : b ∈ s.holds) (same : a.id = b.id) : a = b :=
    List.inj_on_of_nodup_map (f := Hold.id) ((List.pairwise_map.2 once).imp ne_of_lt) ha hb same
  have distinct : s.holds.Nodup := once.imp fun lt same => by rw [same] at lt; exact lt_irrefl _ lt
  have gone : (s.holds.filter fun x => !(x.id != h.id)) = [h] :=
    List.perm_singleton.1 <| (List.perm_ext_iff_of_nodup (distinct.filter _) (List.nodup_singleton h)).2 fun x => by
      simp only [List.mem_filter, Bool.not_eq_true', bne_eq_false_iff_eq, List.mem_singleton]
      exact ⟨fun ⟨listed, same⟩ => ids listed live same, by rintro rfl; exact ⟨live, rfl⟩⟩
  rw [List.countP_eq_countP_filter_add s.holds p fun x => x.id != h.id, gone, List.countP_singleton]
  rfl

theorem Part.without_onCount (once : s.holds.Pairwise fun a b => a.id < b.id) (live : h ∈ s.holds) (n : LoadId) :
    s.onCount n = (s.without h).onCount n + if h.kind = .keepOn && s.covers h.target n then 1 else 0 :=
  Part.countP_without once live _

theorem Part.without_offCount (once : s.holds.Pairwise fun a b => a.id < b.id) (live : h ∈ s.holds) (n : LoadId) :
    s.offCount n = (s.without h).offCount n + if h.kind = .keepOff && s.covers h.target n then 1 else 0 :=
  Part.countP_without once live _

theorem Part.without_groupOnCount (once : s.holds.Pairwise fun a b => a.id < b.id) (live : h ∈ s.holds) (g : GroupId) :
    s.groupOnCount g = (s.without h).groupOnCount g + if h.kind = .keepOn && h.target = .group g then 1 else 0 :=
  Part.countP_without once live _

theorem Part.without_sound (ok : s.Sound) : (s.without h).Sound :=
  ok.congr (fun _ => rfl) (fun _ => rfl) rfl ok.keys rfl rfl

theorem Part.mem_covered {x : Target} {n : LoadId} : n ∈ s.covered x ↔ s.covers x n = true := by
  simp [Part.covered, allLoads]

theorem Part.covered_load (n : LoadId) : s.covered (.load n) = [n] :=
  List.perm_singleton.1 <| (List.perm_ext_iff_of_nodup ((List.nodup_finRange 64).filter _)
    (List.nodup_singleton n)).2 fun k => by
      rw [List.mem_singleton, ← eq_comm (a := n), ← decide_eq_true_iff (p := n = k)]
      exact Part.mem_covered

theorem Part.mem_members {g : GroupId} {n : LoadId} : n ∈ s.members g ↔ s.memberOf n g = true := by
  simp [Part.members, allLoads]

theorem Part.groupOf_of_member {g : GroupId} {n : LoadId} (member : s.memberOf n g = true) : s.groupOf n = some g := by
  have group : (s.config n).group = some g := by
    simp only [Part.memberOf, Bool.and_eq_true, decide_eq_true_eq] at member
    exact member.2
  simp [Part.groupOf, group, member]

theorem Part.backed_eq_false {n : LoadId} :
    s.backed n = false ↔ s.onCount n = 0 ∧ ∀ g, s.groupOf n = some g → s.groupOnCount g = 0 := by
  unfold Part.backed
  cases s.groupOf n <;> simp

theorem Part.ModeWork.backed (work : s.ModeWork t) (holds : t.holds = s.holds) (n : LoadId) :
    t.backed n = s.backed n := by
  obtain ⟨-, -, groupOf, -, onCount, -, groupOnCount, -⟩ := work.reads holds
  simp only [Part.backed, onCount, groupOf, groupOnCount]

end

/-! ## Wanted loads (R86) -/

section
variable {s t : Part} {n : LoadId}

theorem Part.firstWanting_eq_none : s.firstWanting n = none ↔
    (∀ k ∈ s.queuedLoads, s.wants k n = false) ∧ ∀ k, (s.load k).phase = .starting → s.wants k n = false := by
  simp [Part.firstWanting, Part.queuedLoads, allLoads]

/-- A load that no load wants is not wanted when entries have gone. -/
theorem Part.unwanted_of_fewer (cfg : t.cfg = s.cfg) (queue : ∀ k ∈ t.queuedLoads, k ∈ s.queuedLoads)
    (starting : ∀ k, (t.load k).phase = .starting → (s.load k).phase = .starting)
    (unwanted : s.firstWanting n = none) : t.firstWanting n = none := by
  have covers (need : Need) : t.needCovers need n = s.needCovers need n := by
    cases need with
    | load j => rfl
    | group g =>
      show t.memberOf n g = s.memberOf n g
      unfold Part.memberOf Part.group Part.inUse Part.config
      rw [cfg]
  have wants (k : LoadId) : t.wants k n = s.wants k n := by
    simp only [Part.wants, covers, Part.config, cfg]
  rw [Part.firstWanting_eq_none] at unwanted ⊢
  exact ⟨fun k listed => by rw [wants]; exact unwanted.1 k (queue k listed),
    fun k starts => by rw [wants]; exact unwanted.2 k (starting k starts)⟩

theorem Part.unwanted_setOrigin (m : LoadId) (o : Origin) (unwanted : s.firstWanting n = none) :
    (s.setOrigin m o).firstWanting n = none :=
  Part.unwanted_of_fewer (s := s) rfl (fun k listed => by rwa [Part.setOrigin_queuedLoads] at listed) (fun _ h => h) unwanted

theorem Part.unwanted_dropEntry (m : LoadId) (unwanted : s.firstWanting n = none) :
    (s.dropEntry m).firstWanting n = none := by
  refine Part.unwanted_of_fewer (s := s) rfl (fun k listed => (Part.mem_dropEntry.1 listed).1) (fun k starts => ?_) unwanted
  rw [Part.dropEntry_load] at starts
  split at starts
  · cases starts
  · exact starts

end

/-! ## Entries re-examined (R86) -/

/-- A fold in which P always holds, comes to Q at one element of the list, and keeps it. -/
theorem foldl_reaches {α β : Type} {P Q : β → Prop} {f : β → α → β} {a : α} (keep : ∀ b x, P b → P (f b x))
    (reach : ∀ b, P b → Q (f b a)) (stay : ∀ b x, P b → Q b → Q (f b x)) {l : List α} (listed : a ∈ l) {b : β}
    (start : P b) : P (l.foldl f b) ∧ Q (l.foldl f b) := by
  have kept (l : List α) : ∀ b, P b → Q b → P (l.foldl f b) ∧ Q (l.foldl f b) := by
    induction l with
    | nil => exact fun b p q => ⟨p, q⟩
    | cons x l ih => exact fun b p q => ih _ (keep b x p) (stay b x p q)
  induction l generalizing b with
  | nil => cases listed
  | cons x l ih =>
    by_cases is : x = a
    · subst is; exact kept l _ (keep b x start) (reach b start)
    · exact ih ((List.mem_cons.1 listed).resolve_left (Ne.symm is)) (keep b x start)

section
variable {s t : Part} {n : LoadId}

/-- What a re-examined entry comes to: it stays, takes a puller, or is withdrawn without a cause. -/
theorem Part.reexamine_cases (s : Part) (m : LoadId) :
    s.reexamine m = s ∨
      (∃ e, s.entry? m = some e ∧ (e.origin = .hold ∨ e.origin = .call) ∧ s.backed m = false ∧
        ((∃ k, s.firstWanting m = some k ∧ s.reexamine m = s.setOrigin m (.pull k)) ∨
          (s.firstWanting m = none ∧ s.reexamine m = (s.dropEntry m).settleOrphans 64 [m]))) := by
  unfold Part.reexamine
  split
  · next e found =>
    split
    · next alone =>
      simp only [Bool.and_eq_true, Bool.or_eq_true, decide_eq_true_eq, Bool.not_eq_true'] at alone
      refine .inr ⟨e, found, alone.1, alone.2, ?_⟩
      split
      · next k wanted => exact .inl ⟨k, wanted, rfl⟩
      · next unwanted => exact .inr ⟨unwanted, Part.withdraw_eq rfl⟩
    · exact .inl rfl
  · exact .inl rfl

theorem Part.reexamine_of_unqueued (out : n ∉ s.queuedLoads) : s.reexamine n = s := by
  rw [Part.reexamine, Part.entry?_none.2 out]

/-- An entry of a hold alone that a load wants is pulled by it. -/
theorem Part.reexamine_wanted {e : Entry} {k : LoadId} (found : s.entry? n = some e)
    (own : e.origin = .hold ∨ e.origin = .call) (alone : s.backed n = false) (wanted : s.firstWanting n = some k) :
    s.reexamine n = s.setOrigin n (.pull k) := by
  simp [Part.reexamine, found, own, alone, wanted]

/-- One that none wants is withdrawn. -/
theorem Part.reexamine_unwanted {e : Entry} (found : s.entry? n = some e) (own : e.origin = .hold ∨ e.origin = .call)
    (alone : s.backed n = false) (unwanted : s.firstWanting n = none) :
    s.reexamine n = (s.dropEntry n).settleOrphans 64 [n] := by
  simp [Part.reexamine, found, own, alone, unwanted, Part.withdraw_eq (show WithdrawCause.holdGone.phase = .off from rfl),
    WithdrawCause.raises]

/-- What a new puller of an entry keeps, and a withdrawal, a re-examination keeps. -/
theorem Part.reexamine_keeps {P : Part → Prop} (repull : ∀ u m k, P u → P (u.setOrigin m (.pull k)))
    (drop : ∀ u m, P u → P (u.dropEntry m)) (m : LoadId) (start : P s) : P (s.reexamine m) := by
  obtain same | ⟨e, -, -, -, ⟨k, -, pulled⟩ | ⟨-, gone⟩⟩ := s.reexamine_cases m
  · rwa [same]
  · rw [pulled]; exact repull _ _ _ start
  · rw [gone]; exact Part.settleOrphans_keeps repull drop _ _ (drop _ _ start)

/-- The entry of another load stays as it is where it was not pulled. -/
theorem Part.reexamine_entry {m : LoadId} {e : Entry} (ok : s.Sound) (other : n ≠ m) (own : ∀ p, e.origin ≠ .pull p)
    (found : s.entry? n = some e) : (s.reexamine m).entry? n = some e := by
  have is := (Part.entry?_some found).2
  obtain same | ⟨d, there, -, -, ⟨k, -, pulled⟩ | ⟨-, gone⟩⟩ := s.reexamine_cases m
  · rwa [same]
  · rw [pulled, Part.entry?_setOrigin, found, Option.map_some, if_neg (by rw [is]; exact other)]
  · rw [gone]
    have listed : m ∈ s.queuedLoads := Part.entry?_isSome.1 (by rw [there]; rfl)
    exact (Part.asked_settleOrphans (a := { silent := True }) 64 _ [m] (.inr trivial)).entry
      ((Part.asks_dropEntry (.inl listed)).sound ok) own id (fun _ => False.elim)
      (by rw [Part.entry?_dropEntry_ne s other]; exact found)

/-- A load whose entry stands for a hold alone, and that no load wants, with its entry or already withdrawn. -/
structure Part.GivesUp (s u : Part) (n : LoadId) (e : Entry) : Prop where
  asks : s.Asks u
  alone : u.backed n = false
  unwanted : u.firstWanting n = none
  silent : u.atl = s.atl
  stands : u.entry? n = some e ∨ u.atRest n

theorem Part.GivesUp.reexamine {u : Part} {e : Entry} (h : s.GivesUp u n e) (ok : s.Sound)
    (own : e.origin = .hold ∨ e.origin = .call) (m : LoadId) :
    s.GivesUp (u.reexamine m) n e ∧ (m = n → (u.reexamine m).atRest n) := by
  have asks := u.asks_reexamine m
  have rest (rests : u.atRest n) : (u.reexamine m).atRest n :=
    Part.reexamine_keeps (P := fun v => v.atRest n) (fun _ m _ rests => rests.setOrigin m _)
      (fun _ m rests => rests.dropEntry m) m rests
  have gone (same : m = n) : (u.reexamine m).atRest n := by
    subst same
    obtain found | rests := h.stands
    · rw [Part.reexamine_unwanted found own h.alone h.unwanted]
      refine Part.atRest_settleOrphans _ _ ⟨by rw [Part.dropEntry_load, if_pos rfl], fun listed => ?_⟩
      exact (Part.mem_dropEntry.1 listed).2 rfl
    · exact rest rests
  refine ⟨⟨h.asks.trans asks, ?_, ?_, ?_, ?_⟩, gone⟩
  · rw [asks.work.modeWork.backed asks.work.holds]; exact h.alone
  · exact Part.reexamine_keeps (P := fun v => v.firstWanting n = none) (fun _ m _ => Part.unwanted_setOrigin m _)
      (fun _ m => Part.unwanted_dropEntry m) m h.unwanted
  · exact Part.reexamine_keeps (P := fun v => v.atl = s.atl) (fun _ _ _ same => same) (fun _ _ same => same) m h.silent
  · by_cases same : m = n
    · exact .inr (gone same)
    · refine h.stands.imp (fun found => Part.reexamine_entry (h.asks.sound ok) (Ne.symm same) (fun p pulled => ?_) found) rest
      rw [pulled] at own
      simp at own

/-- Re-examined among others, such a load is withdrawn, and nothing is raised (R86). -/
theorem Part.GivesUp.foldl {e : Entry} (ok : s.Sound) (own : e.origin = .hold ∨ e.origin = .call) {l : List LoadId}
    (listed : n ∈ l) {u : Part} (h : s.GivesUp u n e) :
    (l.foldl Part.reexamine u).atRest n ∧ (l.foldl Part.reexamine u).atl = s.atl := by
  obtain ⟨given, rests⟩ := foldl_reaches (P := fun v => s.GivesUp v n e) (Q := fun v => v.atRest n)
    (fun v m h => (h.reexamine ok own m).1) (fun v h => (h.reexamine ok own n).2 rfl)
    (fun v m _ rests => Part.reexamine_keeps (P := fun v => v.atRest n) (fun _ m _ rests => rests.setOrigin m _)
      (fun _ m rests => rests.dropEntry m) m rests) listed h
  exact ⟨rests, given.silent⟩

end

end Sys2Proof.Machine
end

section
/-! Idle stops that a handling has made due: what keeps one due, and that the checks come to take it (R29, R30). -/

namespace Sys2Proof.Machine

section
variable {s t : Part} {n : LoadId}

/-- From s to t a load and what R29 reads of the plant about it stay, no other load has come to be active, and no other
member of its group has ceased to be up. -/
structure Part.SparesIdle (s t : Part) (n : LoadId) : Prop where
  work : s.ModeWork t
  holds : t.holds = s.holds
  mode : t.mode = s.mode
  grade : (t.station (stationOf n)).grade = (s.station (stationOf n)).grade
  load : t.load n = s.load n
  active : ∀ k, t.active k = true → s.active k = true
  up : ∀ g, s.groupOf n = some g → ∀ m ∈ s.members g, m ≠ n → s.up m = true → t.up m = true

theorem Part.SparesIdle.dependentsAllowStop (h : s.SparesIdle t n) (allow : s.dependentsAllowStop n = true) :
    t.dependentsAllowStop n = true := by
  obtain ⟨group, members, groupOf, -, -, -, groupOnCount, directDependents, groupDependents⟩ := h.work.reads h.holds
  unfold Part.dependentsAllowStop at allow ⊢
  rw [Bool.and_eq_true, Bool.not_eq_true'] at allow ⊢
  obtain ⟨none_active, group_allows⟩ := allow
  rw [directDependents]
  refine ⟨?_, ?_⟩
  · rw [List.any_eq_false] at none_active ⊢
    exact fun k listed active => none_active k listed (h.active k active)
  · unfold Part.groupAllowsStop at group_allows ⊢
    rw [groupOf]
    cases found : s.groupOf n with
    | none => rfl
    | some g =>
      simp only [found, Bool.or_eq_true, Bool.not_eq_true', decide_eq_true_eq] at group_allows ⊢
      rw [group, members]
      refine group_allows.imp (fun free => ?_) fun enough => enough.trans ?_
      · unfold Part.floorDemand at free ⊢
        rw [Bool.or_eq_false_iff] at free ⊢
        rw [groupOnCount, groupDependents]
        refine ⟨free.1, ?_⟩
        have idle := List.any_eq_false.1 free.2
        exact List.any_eq_false.2 fun k listed active => idle k listed (h.active k active)
      · refine List.countP_mono_left fun m listed others => ?_
        rw [Bool.and_eq_true] at others ⊢
        exact ⟨others.1, h.up g found m listed (by simpa using others.1) others.2⟩

theorem Part.SparesIdle.idleStopDue (h : s.SparesIdle t n) (due : s.idleStopDue n = true) : t.idleStopDue n = true := by
  obtain ⟨-, -, -, -, onCount, -⟩ := h.work.reads h.holds
  unfold Part.idleStopDue at due ⊢
  rw [Bool.and_eq_true] at due ⊢
  refine ⟨?_, h.dependentsAllowStop due.2⟩
  have same : t.minRunMet n = s.minRunMet n := by
    unfold Part.minRunMet
    rw [h.load, h.work.config, h.work.now]
  rw [h.mode, h.load, Part.stationOnline, h.grade, h.work.config, h.work.now, same, onCount]
  exact due.1

/-- A stop of another load that runs and is no member of its group. -/
theorem Part.sparesIdle_enterStopping {m : LoadId} (other : m ≠ n) (runs : (s.load m).phase.running = true)
    (apart : ∀ g, s.groupOf n = some g → m ∉ s.members g) : s.SparesIdle (s.enterStopping m) n where
  work := (s.loadWork_enterStopping m).modeWork
  holds := (s.loadWork_enterStopping m).holds
  mode := (s.loadWork_enterStopping m).mode
  grade := by rw [Part.station, (s.loadWork_enterStopping m).flm]; rfl
  load := by rw [Part.enterStopping_load, if_neg other.symm]
  active k := by
    unfold Part.active
    rw [Part.enterStopping_load]
    split
    · next is =>
      subst is
      intro _
      cases phase : (s.load k).phase <;> simp [phase, LoadPhase.running] at runs <;> rfl
    · exact id
  up g found k listed _ up := by
    have apart : k ≠ m := fun is => apart g found (is ▸ listed)
    rwa [Part.up, Part.enterStopping_load, if_neg apart]

/-- Requests that make none QUEUED. -/
theorem Part.sparesIdle_withdrawn (asks : s.Asks t) (ok : s.Sound) (watch : (s.load n).phase = .watch)
    (fewer : ∀ k, (t.load k).phase = (s.load k).phase ∨ (t.load k).phase = .off) : s.SparesIdle t n where
  work := asks.work.modeWork
  holds := asks.work.holds
  mode := asks.work.mode
  grade := by rw [Part.station, asks.work.flm]; rfl
  load := by
    have out : n ∉ s.queuedLoads := fun listed => by rw [(ok.queued n).2 listed] at watch; cases watch
    obtain ⟨phase, changed, -⟩ := asks.kept n (by rw [watch]; nofun) out
    rw [asks.record n, phase, changed, asks.held n (by rw [watch]; rfl)]
  active k active := by
    unfold Part.active at active ⊢
    obtain same | off := fewer k
    · rwa [← same]
    · rw [off] at active; cases active
  up _ _ k _ _ up := by
    have away : (s.load k).phase ≠ .off ∧ (s.load k).phase ≠ .queued := by
      constructor <;> intro is <;> simp [Part.up, LoadRecord.up, is, LoadPhase.running] at up
    obtain ⟨phase, -, -⟩ := asks.kept k away.1 fun listed => away.2 ((ok.queued k).2 listed)
    have same : t.up k = s.up k := by
      rw [Part.up, asks.record k]
      simp only [LoadRecord.up, phase]
      rfl
    rwa [same]

end

/-! ## The checks are taken (R30) -/

section
variable {s : Part} {n : LoadId}

theorem Part.stopping_takeChecks (ok : s.Sound) (runs : (s.load n).phase.running = true) (live : s.mode ≠ .setup)
    (fuel : Nat) (due : List LoadId) :
    ((Part.takeChecks fuel (s.enterStopping n) due).load n).phase = .stopping s.now := by
  have stopped : ((s.enterStopping n).load n).phase = .stopping s.now := by rw [Part.enterStopping_load, if_pos rfl]
  have ok := (Part.follows_enterStopping runs live).sound ok
  have out : n ∉ (s.enterStopping n).queuedLoads := fun listed => by rw [(ok.queued n).2 listed] at stopped; cases stopped
  exact ((Part.follows_takeChecks fuel _ due).kept n (by rw [stopped]; nofun) (by rw [stopped]; rfl) out).1.trans stopped

/-- The one load whose check passes is stopped. -/
theorem Part.takeChecks_alone (ok : s.Sound) {fuel : Nat} {due : List LoadId} (alone : due.filter s.stopsNow = [n]) :
    ((Part.takeChecks (fuel + 1) s due).load n).phase = .stopping s.now := by
  have listed : n ∈ due.filter s.stopsNow := by rw [alone]; exact List.mem_singleton_self n
  obtain ⟨runs, live⟩ := Part.stopsNow_running (List.mem_filter.1 listed).2
  unfold Part.takeChecks
  rw [alone]
  exact Part.stopping_takeChecks ok runs live _ _

theorem Part.countP_running_enterStopping (runs : (s.load n).phase.running = true) :
    allLoads.countP (fun k => ((s.enterStopping n).load k).phase.running) + 1 ≤
      allLoads.countP fun k => (s.load k).phase.running := by
  refine Nat.succ_le_of_lt ?_
  rw [List.countP_eq_length_filter, List.countP_eq_length_filter]
  have fewer : (allLoads.filter fun k => ((s.enterStopping n).load k).phase.running).Sublist
      (allLoads.filter fun k => (s.load k).phase.running) := by
    refine List.monotone_filter_right allLoads fun k runs' => ?_
    rw [Part.enterStopping_load] at runs'
    split at runs'
    · cases runs'
    · exact runs'
  refine lt_of_le_of_ne fewer.length_le fun same => ?_
  have listed : n ∈ allLoads.filter fun k => (s.load k).phase.running := by simp [allLoads, runs]
  rw [← fewer.eq_of_length same, List.mem_filter, Part.enterStopping_load, if_pos rfl] at listed
  cases listed.2

/-- A load whose check passes, and goes on passing whichever other load is stopped before it, is stopped. -/
theorem Part.takeChecks_stops {P : Part → Prop} (passes : ∀ u, P u → u.stopsNow n = true)
    (lasts : ∀ u m, u.Sound → P u → m ≠ n → u.stopsNow m = true → P (u.enterStopping m))
    (chosen : ∀ u, P u → P u.nextChoice) (fuel : Nat) (s : Part) (ok : s.Sound) (start : P s) (due : List LoadId)
    (listed : n ∈ due) (enough : allLoads.countP (fun k => (s.load k).phase.running) ≤ fuel) :
    ((Part.takeChecks fuel s due).load n).phase = .stopping s.now := by
  induction fuel generalizing s due with
  | zero =>
    have none := List.countP_eq_zero.1 (Nat.le_zero.1 enough) n (by simp [allLoads])
    exact absurd (Part.stopsNow_running (passes s start)).1 none
  | succ fuel ih =>
    have here : n ∈ due.filter s.stopsNow := List.mem_filter.2 ⟨listed, passes s start⟩
    have taken {u : Part} {m : LoadId} (ok : u.Sound) (start : P u) (stops : u.stopsNow m = true)
        (enough : allLoads.countP (fun k => (u.load k).phase.running) ≤ fuel + 1) :
        ((Part.takeChecks fuel (u.enterStopping m)
          (joinDue due (u.changedInputs (u.enterStopping m)))).load n).phase = .stopping u.now := by
      obtain ⟨runs, live⟩ := Part.stopsNow_running stops
      by_cases is : m = n
      · subst is; exact Part.stopping_takeChecks ok runs live _ _
      · rw [← (u.loadWork_enterStopping m).now]
        exact ih _ ((Part.follows_enterStopping runs live).sound ok) (lasts u m ok start is stops) _
          (List.mem_append_left _ listed) (by have := Part.countP_running_enterStopping runs; omega)
    unfold Part.takeChecks
    split
    · next none => rw [none] at here; cases here
    · next m alone =>
      exact taken ok start (List.mem_filter.1 (by rw [alone]; exact List.mem_singleton_self m : m ∈ _)).2 enough
    · next m k rest several =>
      have picked : (m :: k :: rest).getD (Config.freeChoice s.freeCount % (rest.length + 2)) m ∈ due.filter s.stopsNow := by
        rw [several]; exact getD_freeChoice_mem m k rest _
      exact taken (u := s.nextChoice) (s.follows_nextChoice.sound ok) (chosen s start) (List.mem_filter.1 picked).2 enough

end

end Sys2Proof.Machine
end

section
/-! Requests for loads without needs, and the first member that a floor request asks for (R80, R82, R83). -/

namespace Sys2Proof.Machine

section
variable {s t : Part} {n : LoadId} {o : Origin}

/-- A new entry of a load without needs pulls no load. -/
theorem Part.enqueueNew_alone (ask : Part → LoadId → Origin → Part) (s : Part) (o : Origin)
    (alone : (s.config n).needs = []) : Part.enqueueNew ask s n o = (s.newEntry n o).startScan := by
  have config : (s.newEntry n o).config n = s.config n := (s.loadWork_newEntry n o).config n
  have met : (s.newEntry n o).needsSatisfiable n = true := by rw [Part.needsSatisfiable, config, alone]; rfl
  rw [Part.enqueueNew]
  simp only [met, if_true]
  rw [Part.pullNeeds, config, alone]
  rfl

theorem Part.request_off (fuel : Nat) (live : s.mode ≠ .setup) (off : (s.load n).phase = .off) (free : s.offCount n = 0)
    (o : Origin) : Part.request (fuel + 1) s n o = Part.requestOff (Part.request fuel) s n o := by
  rw [Part.request, if_neg live, off]
  exact if_neg (by omega)

/-- A request by a hold that backs it, for an OFF load without needs. -/
theorem Part.enqueue_alone (live : s.mode ≠ .setup) (off : (s.load n).phase = .off) (free : s.offCount n = 0)
    (alone : (s.config n).needs = []) (own : o = .hold ∨ o = .call) (backed : s.backed n = true) :
    s.enqueue n o = (s.newEntry n o).startScan := by
  rw [Part.enqueue, Part.request_off 64 live off free]
  obtain rfl | rfl := own <;> simp only [Part.requestOff, backed, if_true] <;> exact Part.enqueueNew_alone _ _ _ alone

/-- An OFF load that is queued has its entry from then on, whatever a request or floor asks for next. -/
theorem Part.entry_enqueue_alone (ok : s.Sound) (live : s.mode ≠ .setup) (off : (s.load n).phase = .off)
    (free : s.offCount n = 0) (alone : (s.config n).needs = []) (own : o = .hold ∨ o = .call)
    (backed : s.backed n = true) : ∃ e, (s.enqueue n o).entry? n = some e ∧ e.origin = o := by
  rw [Part.enqueue_alone live off free alone own backed]
  exact Part.entry?_newEntry_self ok (fun listed => by rw [(ok.queued n).2 listed] at off; cases off) o

theorem Part.available_alone (inUse : s.inUse n = true) (off : (s.load n).phase = .off) (free : s.offCount n = 0)
    (alone : (s.config n).needs = []) (fuel : Nat) : s.available (fuel + 1) n = true := by
  rw [Part.available, off]
  simp [inUse, free, alone]

/-- Asking for members stops at none but OFF ones. -/
theorem Part.askOffMembers_skips (ask : Part → LoadId → Origin → Part) (g : GroupId) (o : Origin) {l : List LoadId}
    (rests : ∀ m ∈ l, (s.load m).phase ≠ .off) (count : Nat) :
    l.foldl (fun (acc : Part × Nat) m =>
      if acc.2 < (s.group g).required && (acc.1.load m).phase = .off && acc.1.available 64 m then
        (ask acc.1 m o, acc.2 + 1)
      else acc) (s, count) = (s, count) := by
  induction l with
  | nil => rfl
  | cons m l ih =>
    rw [List.foldl_cons, if_neg (by simp [rests m List.mem_cons_self])]
    exact ih fun k listed => rests k (List.mem_cons_of_mem _ listed)

/-- The floor request of a held group that is short asks for its first OFF member (R82, R83). -/
theorem Part.floorRequest_first {g : GroupId} {j : LoadId} (ok : s.Sound) (live : s.mode ≠ .setup)
    (own : o = .hold ∨ o = .call) (held : 0 < s.groupOnCount g) (short : s.floorCount g < (s.group g).required)
    (member : j ∈ s.members g) (off : (s.load j).phase = .off) (free : s.offCount j = 0)
    (alone : (s.config j).needs = []) (first : ∀ m ∈ s.members g, m < j → (s.load m).phase ≠ .off) :
    ∃ e, (s.floorRequest g o).entry? j = some e ∧ e.origin = o := by
  have memberOf := Part.mem_members.1 member
  have inUse : s.inUse j = true := by
    simp only [Part.memberOf, Bool.and_eq_true] at memberOf
    exact memberOf.1.2
  have backed : s.backed j = true := by simp [Part.backed, Part.groupOf_of_member memberOf, held]
  obtain ⟨l, r, split⟩ := List.append_of_mem member
  have sorted : (s.members g).Pairwise (· < ·) := (List.sortedLT_finRange 64).pairwise.filter _
  have before (m : LoadId) (listed : m ∈ l) : m < j := by
    rw [split, List.pairwise_append] at sorted
    exact sorted.2.2 m listed j List.mem_cons_self
  have skipped := Part.askOffMembers_skips Part.enqueue g o (s := s) (l := l)
    (fun m listed => first m (by rw [split]; exact List.mem_append_left _ listed) (before m listed)) (s.floorCount g)
  obtain ⟨e, found, origin⟩ := Part.entry_enqueue_alone ok live off free alone own backed
  refine ⟨e, ?_, origin⟩
  have later : (s.enqueue j o).Asked .requests (s.floorRequest g o) := by
    rw [Part.floorRequest, if_neg live, Part.askOffMembers, split, List.foldl_append, skipped, List.foldl_cons,
      if_pos (by simp [short, off, Part.available_alone inUse off free alone 63])]
    refine Part.Asked.foldl_fst _ (fun acc m => ?_) r (s.enqueue j o, s.floorCount g + 1)
    split
    · exact acc.1.asked_enqueue m fun _ => trivial
    · exact .refl
  refine later.entry ((s.asks_enqueue j o).sound ok) (fun p pulled => ?_) id (fun _ _ => ?_) found
  · rw [origin] at pulled; subst pulled; simp at own
  · obtain rfl | rfl := own <;> rw [origin] <;> rfl

theorem Part.floorOrigin_high (s : Part) (g : GroupId) : s.floorOrigin g = .hold ∨ s.floorOrigin g = .call := by
  unfold Part.floorOrigin
  split
  · exact .inr rfl
  · exact .inl rfl

end

end Sys2Proof.Machine
end

section
/-! What the retirement of one hold gives up (R30, R62 item 4, R67, R70 to R72, R86). -/

namespace Sys2Proof.Machine

section
variable {s t u v : Part} {h : Hold}

/-! ## The end of a KEEP_OFF (R72) -/

/-- After the end of a KEEP_OFF on a load, its pending stop is cleared and nothing but requests and withdrawals has
followed. -/
theorem Part.asks_reportKeepOffLoss (s : Part) (n : LoadId) :
    (s.setLoad n { s.load n with stopPending := false }).Asks (s.reportKeepOffLoss n) :=
  (Part.asks_needReview _).trans (Part.asks_floorForMember _ n)

theorem Part.reportKeepOffLoss_runs (ok : s.Sound) (n : LoadId) {k : LoadId} (runs : (s.load k).phase.running = true) :
    ((s.reportKeepOffLoss n).load k).phase.running = true := by
  have phase : ((s.setLoad n { s.load n with stopPending := false }).load k).phase = (s.load k).phase := by
    rw [Part.setLoad_load]; split
    · next is => rw [is]
    · rfl
  have out : k ∉ s.queuedLoads := fun listed => by rw [(ok.queued k).2 listed] at runs; cases runs
  have kept := (s.asks_reportKeepOffLoss n).kept k (by rw [phase]; intro off; rw [off] at runs; cases runs) out
  rw [kept.1, phase]
  exact runs

theorem Part.reportKeepOffLoss_pending (s : Part) (n k : LoadId) :
    ((s.reportKeepOffLoss n).load k).stopPending = if k = n then false else (s.load k).stopPending := by
  rw [(s.asks_reportKeepOffLoss n).record k]
  show ((s.setLoad n _).load k).stopPending = _
  rw [Part.setLoad_load]
  split <;> rfl

/-- The loads of a KEEP_OFF that has ended run on, their pending stops cleared. -/
theorem Part.reported_keepOffLoss {l : List LoadId} (ok : s.Sound) {n : LoadId} (listed : n ∈ l) :
    ((l.foldl Part.reportKeepOffLoss s).load n).stopPending = false ∧
      ((s.load n).phase.running = true → ((l.foldl Part.reportKeepOffLoss s).load n).phase.running = true) := by
  obtain ⟨⟨-, runs⟩, cleared⟩ := foldl_reaches
    (P := fun v : Part => v.Sound ∧ ((s.load n).phase.running = true → (v.load n).phase.running = true))
    (Q := fun v : Part => (v.load n).stopPending = false) (f := Part.reportKeepOffLoss)
    (fun v m h => ⟨((v.keeps_reportKeepOffLoss m).plant h.1).1, fun was => Part.reportKeepOffLoss_runs h.1 m (h.2 was)⟩)
    (fun v _ => by rw [Part.reportKeepOffLoss_pending, if_pos rfl])
    (fun v m _ cleared => by rw [Part.reportKeepOffLoss_pending]; split <;> trivial) listed ⟨ok, id⟩
  exact ⟨cleared, runs⟩

/-- With an empty queue, the end of a KEEP_OFF on a member asks again for the floor of its held group (R62 item 4). -/
theorem Part.reportKeepOffLoss_floor {n j : LoadId} {g : GroupId} (ok : s.Sound) (live : s.mode ≠ .setup)
    (group : s.groupOf n = some g) (held : 0 < s.groupOnCount g) (none : s.dgv.queue = [])
    (short : s.floorCount g < (s.group g).required) (member : j ∈ s.members g) (off : (s.load j).phase = .off)
    (free : s.offCount j = 0) (alone : (s.config j).needs = [])
    (first : ∀ m ∈ s.members g, m < j → (s.load m).phase ≠ .off) :
    ∃ e, (s.reportKeepOffLoss n).entry? j = some e ∧ (e.origin = .hold ∨ e.origin = .call) := by
  let u := s.setLoad n { s.load n with stopPending := false }
  have phase (k : LoadId) : (u.load k).phase = (s.load k).phase := by
    show ((s.setLoad n _).load k).phase = _
    rw [Part.setLoad_load]; split
    · next is => rw [is]
    · rfl
  have up (k : LoadId) : u.up k = s.up k := by
    show ((s.setLoad n _).load k).up = _
    rw [Part.setLoad_load]; split
    · next is => rw [is]; rfl
    · rfl
  have ok : u.Sound := by
    refine (Part.keeps_setLoad (fun ok => ?_) fun _ => Iff.rfl : s.Keeps u).plant ok |>.1
    refine { ok.loads n with pending := nofun, setup := fun setup => absurd setup live }
  have same : s.reportKeepOffLoss n = u.floorRequest g (u.floorOrigin g) := by
    have review : u.needReview = u := by
      show (List.map Entry.load s.dgv.queue).foldl Part.reviewEntry u = u
      rw [none]; rfl
    show u.needReview.floorForMember n = _
    rw [review, Part.floorForMember, show u.groupOf n = some g from group]
    exact if_pos held
  have short : u.floorCount g < (u.group g).required := by
    have count : u.floorCount g = s.floorCount g := by
      unfold Part.floorCount
      simp only [phase, up]
      rfl
    rw [count]; exact short
  obtain ⟨e, found, origin⟩ := Part.floorRequest_first (o := u.floorOrigin g) ok live (u.floorOrigin_high g) held short
    member ((phase j).trans off) free alone fun m listed lt => by rw [phase]; exact first m listed lt
  rw [same]
  exact ⟨e, found, origin ▸ u.floorOrigin_high g⟩

/-! ## The end of a KEEP_ON (R70, R71) -/

theorem Part.foldl_reexamine_asks (l : List LoadId) (s : Part) : s.Asks (l.foldl Part.reexamine s) :=
  .foldl _ Part.asks_reexamine l s

theorem Part.watch_of_idleStopDue {n : LoadId} (due : s.idleStopDue n = true) : (s.load n).phase = .watch := by
  simp only [Part.idleStopDue, Bool.and_eq_true, decide_eq_true_eq] at due
  obtain ⟨⟨⟨⟨⟨⟨⟨-, watch⟩, -⟩, -⟩, -⟩, -⟩, -⟩, -⟩ := due
  exact watch

/-- An idle stop that is due stays due while entries are re-examined. -/
theorem Part.idleStopDue_foldl_reexamine {n : LoadId} (l : List LoadId) (ok : s.Sound) (due : s.idleStopDue n = true) :
    (l.foldl Part.reexamine s).idleStopDue n = true := by
  induction l generalizing s with
  | nil => exact due
  | cons m l ih =>
    have watch := Part.watch_of_idleStopDue due
    have fewer := Part.reexamine_keeps (s := s)
      (P := fun v : Part => ∀ k, (v.load k).phase = (s.load k).phase ∨ (v.load k).phase = .off)
      (fun _ _ _ fewer => fewer) (fun v m fewer k => by
        rw [Part.dropEntry_load]; split
        · exact .inr rfl
        · exact fewer k) m fun _ => .inl rfl
    exact ih ((s.asks_reexamine m).sound ok)
      ((Part.sparesIdle_withdrawn (s.asks_reexamine m) ok watch fewer).idleStopDue due)

/-- A load whose inputs have changed is among those that are checked (R30). -/
theorem Part.mem_changedInputs {n : LoadId} (watch : (t.load n).phase = .watch)
    (differs : s.checkInputs n ≠ t.checkInputs n) : n ∈ s.changedInputs t := by
  simp [Part.changedInputs, allLoads, Part.checkable, watch, differs]

/-- The idle stop that a KEEP_ON on one load alone forbade is taken. -/
theorem Part.recheck_without_load {n : LoadId} (ok : s.Sound) (once : s.holds.Pairwise fun a b => a.id < b.id)
    (live : h ∈ s.holds) (on : h.kind = .keepOn) (target : h.target = .load n) (last : s.onCount n = 1)
    (due : (s.without h).idleStopDue n = true) :
    ((s.recheck (s.without h)).load n).phase = .stopping s.now := by
  have watch := Part.watch_of_idleStopDue due
  have count (k : LoadId) : s.onCount k = (s.without h).onCount k + if n = k then 1 else 0 := by
    rw [Part.without_onCount once live k, on, target]
    simp [Part.covers]
  have groupCount (g : GroupId) : s.groupOnCount g = (s.without h).groupOnCount g := by
    rw [Part.without_groupOnCount once live g, target]
    simp
  have others {k : LoadId} (other : k ≠ n) : s.checkInputs k = (s.without h).checkInputs k := by
    have own := count k
    rw [if_neg other.symm, Nat.add_zero] at own
    have floor (g : GroupId) : s.floorDemand g = (s.without h).floorDemand g := by
      unfold Part.floorDemand
      rw [groupCount]
      rfl
    simp only [Part.checkInputs, own, floor, groupCount]
    rfl
  have alone : (s.changedInputs (s.without h)).filter (s.without h).stopsNow = [n] := by
    refine List.perm_singleton.1 <| (List.perm_ext_iff_of_nodup
      (((List.nodup_finRange 64).filter _).filter _) (List.nodup_singleton n)).2 fun k => ?_
    rw [List.mem_filter, List.mem_singleton]
    constructor
    · rintro ⟨changed, -⟩
      by_contra other
      have none : (s.without h).checksDue.drop s.checksDue.length = [] := List.drop_length
      simp [others other, none] at changed
    · rintro rfl
      refine ⟨Part.mem_changedInputs watch fun same => ?_, by simp [Part.stopsNow, due]⟩
      have := congrArg CheckInputs.onCount same
      have own := count k
      rw [if_pos rfl] at own
      simp only [Part.checkInputs] at this
      omega
  exact Part.takeChecks_alone (Part.without_sound ok) (fuel := 63) alone

/-- The idle stop that a KEEP_ON on a group alone forbade is taken, where no other member runs. -/
theorem Part.recheck_group {n : LoadId} {g : GroupId} (ok : u.Sound) (group : s.groupOf n = some g)
    (group' : u.groupOf n = some g) (held : 0 < s.groupOnCount g) (free : u.groupOnCount g = 0)
    (due : u.idleStopDue n = true) (single : ∀ m ∈ u.members g, m ≠ n → (u.load m).phase.running = false) :
    ((s.recheck u).load n).phase = .stopping u.now := by
  refine Part.takeChecks_stops (n := n)
    (P := fun v => v.idleStopDue n = true ∧
      ∀ g, v.groupOf n = some g → ∀ m ∈ v.members g, m ≠ n → (v.load m).phase.running = false)
    (fun v ⟨due, _⟩ => by simp [Part.stopsNow, due]) (fun v m _ ⟨due, single⟩ other stops => ?_)
    (fun v idle => idle) 64 u ok ⟨due, fun g' found => ?_⟩ _ ?_ ?_
  · obtain ⟨runs, -⟩ := Part.stopsNow_running stops
    have apart (g : GroupId) (found : v.groupOf n = some g) : m ∉ v.members g := fun listed => by
      rw [single g found m listed other] at runs; cases runs
    have work := v.loadWork_enterStopping m
    obtain ⟨-, members, groupOf, -⟩ := work.modeWork.reads work.holds
    refine ⟨(Part.sparesIdle_enterStopping other runs apart).idleStopDue due, fun g found k listed away => ?_⟩
    rw [groupOf] at found
    rw [members] at listed
    rw [Part.enterStopping_load]
    split
    · rfl
    · exact single g found k listed away
  · rw [group'] at found
    cases found
    exact single
  · refine Part.mem_changedInputs (Part.watch_of_idleStopDue due) fun same => ?_
    have := congrArg CheckInputs.floorHeld same
    simp [Part.checkInputs, group, group', free] at this
    omega
  · exact List.countP_le_length.trans (by simp [allLoads])

/-! ## The retirement, whole (R67) -/

theorem Part.follows_chooseLamp (s : Part) (p : PanelId) : s.Follows (s.chooseLamp p) :=
  .of_same ⟨rfl, rfl, rfl, rfl, rfl, rfl, rfl, rfl, rfl, rfl, rfl⟩ rfl rfl rfl rfl rfl id (fun _ _ _ _ => ⟨rfl, rfl⟩) id

theorem Part.calms_ownerLamp (s : Part) (o : Owner) : s.Calms (s.ownerLamp o) := by
  cases o with
  | panel p => exact .of_same (s.follows_chooseLamp p) rfl rfl rfl rfl fun _ _ _ => ⟨rfl, rfl⟩
  | supervisor | call => exact .refl s

theorem Part.calms_retire (s : Part) (h : Hold) : ((s.without h).reportRetirement h).Calms (s.retire h) :=
  (s.calms_recheck _).trans (Part.calms_ownerLamp _ _)

theorem Part.retire_load (s : Part) (h : Hold) (n : LoadId) :
    (s.retire h).load n = (s.recheck ((s.without h).reportRetirement h)).load n := by
  show (Part.ownerLamp _ _).load n = _
  cases h.owner <;> rfl

/-- What follows from a retirement stays when loads are calmed. -/
theorem Part.FollowsRetirement.calms (f : s.FollowsRetirement u h) (calm : u.Calms t)
    (light : s.mode ≠ .night → u.mode ≠ .night) : s.FollowsRetirement t h where
  cleared off n covers last := by
    obtain ⟨cleared, runs⟩ := f.cleared off n covers last
    exact ⟨calm.unstopped n cleared, fun awake was => (calm.spared (light awake)).2 n (runs awake was) cleared⟩
  floor off n g target last group held none short j member rests free alone first := by
    obtain ⟨queued, entered⟩ := f.floor off n g target last group held none short j member rests free alone first
    refine ⟨by rw [calm.still j (by rw [queued]; rfl)]; exact queued, ?_⟩
    simp only [calm.entry?]
    exact entered
  pulled on n e target last k wanted := by rw [calm.entry?]; exact f.pulled on n e target last k wanted
  withdrawn on n e last unwanted := by
    obtain ⟨off, out, silent⟩ := f.withdrawn on n e last unwanted
    refine ⟨by rw [calm.still n (by rw [off]; rfl)]; exact off, by rw [calm.queue]; exact out, ?_⟩
    exact (calm.causes 3 (by decide) (by decide)).1.trans silent
  checked on n last due := by
    have stopped := f.checked on n last due
    rw [calm.still n (by rw [stopped]; rfl)]
    exact stopped

/-- It stays where loads, queue and START_FAILED do. -/
theorem Part.FollowsRetirement.of_same (f : s.FollowsRetirement u h) (loads : t.loads = u.loads)
    (queue : t.dgv.queue = u.dgv.queue) (silent : t.atl.pending.getLsbD 3 = u.atl.pending.getLsbD 3) :
    s.FollowsRetirement t h := by
  have load (n : LoadId) : t.load n = u.load n := by rw [Part.load, loads]; rfl
  have entry (n : LoadId) : t.entry? n = u.entry? n := by rw [Part.entry?, queue]; rfl
  refine ⟨?_, ?_, ?_, ?_, ?_⟩ <;> simp only [load, entry, queue, silent]
  · exact f.cleared
  · exact f.floor
  · exact f.pulled
  · exact f.withdrawn
  · exact f.checked

end

/-! ## What a live hold had asked for alone -/

section
variable {s : Part} {h : Hold} (once : s.holds.Pairwise fun a b => a.id < b.id) (live : h ∈ s.holds)
include once live

theorem Part.without_onCount_last {n : LoadId} (on : h.kind = .keepOn) (covers : s.covers h.target n = true)
    (last : s.onCount n = 1) : (s.without h).onCount n = 0 := by
  have := Part.without_onCount once live n
  rw [on, covers, last] at this
  simpa using this

theorem Part.without_offCount_last {n : LoadId} (off : h.kind = .keepOff) (covers : s.covers h.target n = true)
    (last : s.offCount n = 1) : (s.without h).offCount n = 0 := by
  have := Part.without_offCount once live n
  rw [off, covers, last] at this
  simpa using this

theorem Part.without_groupOnCount_last {g : GroupId} (on : h.kind = .keepOn) (target : h.target = .group g)
    (last : s.groupOnCount g = 1) : (s.without h).groupOnCount g = 0 := by
  have := Part.without_groupOnCount once live g
  rw [on, target, last] at this
  simpa using this

theorem Part.without_groupOnCount_off (off : h.kind = .keepOff) (g : GroupId) :
    (s.without h).groupOnCount g = s.groupOnCount g := by
  have := Part.without_groupOnCount once live g
  rw [off] at this
  exact this.symm

/-- An entry that the hold was the last to back is backed no more. -/
theorem Part.without_backed {n : LoadId} (counts : (s.without h).onCount n = 0)
    (groups : ∀ g, s.groupOf n = some g → s.groupOnCount g = 0) : (s.without h).backed n = false := by
  refine Part.backed_eq_false.2 ⟨counts, fun g is => ?_⟩
  have := Part.without_groupOnCount once live g
  have := groups g is
  omega

end

section
variable {s : Part} {h : Hold}

theorem filter_alone {p : LoadId → Bool} {n : LoadId} (fits : p n = true) : [n].filter p = [n] := by simp [fits]

theorem Part.reportRetirement_keepOff (s : Part) (off : h.kind = .keepOff) : s.reportRetirement h =
    ((s.covered h.target).filter fun n => s.offCount n = 0).foldl Part.reportKeepOffLoss s := by
  unfold Part.reportRetirement
  rw [off]

/-- The loads of a KEEP_ON that has ended on a load or a zone. -/
theorem Part.reportRetirement_keepOn (s : Part) (on : h.kind = .keepOn) (single : h.target.isGroup = false) :
    s.reportRetirement h = ((s.covered h.target).filter fun n => s.onCount n = 0).foldl Part.reexamine s := by
  unfold Part.reportRetirement
  rw [on]
  cases target : h.target with
  | group g => rw [target] at single; cases single
  | load n => rfl
  | zone z => rfl

theorem Part.reportRetirement_load (s : Part) {n : LoadId} (on : h.kind = .keepOn) (target : h.target = .load n)
    (none : s.onCount n = 0) : s.reportRetirement h = s.reexamine n := by
  rw [s.reportRetirement_keepOn on (by rw [target]; rfl), target, s.covered_load, filter_alone (decide_eq_true none)]
  rfl

theorem Part.reportRetirement_group (s : Part) {g : GroupId} (on : h.kind = .keepOn) (target : h.target = .group g)
    (none : s.groupOnCount g = 0) : s.reportRetirement h = (s.members g).foldl Part.reexamine s := by
  unfold Part.reportRetirement
  rw [on, target]
  exact if_pos none

end

/-! ## The retirement of a live hold, clause by clause -/

section
variable {s : Part} {h : Hold} (once : s.holds.Pairwise fun a b => a.id < b.id) (live : h ∈ s.holds) (ok : s.Sound)
include once live ok

theorem Part.retire_cleared (off : h.kind = .keepOff) {n : LoadId} (covers : s.covers h.target n = true)
    (last : s.offCount n = 1) : ((s.retire h).load n).stopPending = false ∧
      (s.mode ≠ .night → (s.load n).phase.running = true → ((s.retire h).load n).phase.running = true) := by
  have calm := s.calms_retire h
  have listed : n ∈ (s.covered h.target).filter fun n => (s.without h).offCount n = 0 :=
    List.mem_filter.2 ⟨Part.mem_covered.2 covers, decide_eq_true (Part.without_offCount_last once live off covers last)⟩
  obtain ⟨cleared, runs⟩ := Part.reported_keepOffLoss (Part.without_sound ok) listed
  have all := (s.without h).reportRetirement_keepOff off
  rw [show (s.without h).covered h.target = s.covered h.target from rfl] at all
  rw [← all] at cleared runs
  refine ⟨calm.unstopped n cleared, fun light was => (calm.spared ?_).2 n (runs was) cleared⟩
  rw [(Part.loadWork_reportRetirement (s.without h) h).mode]
  exact light

theorem Part.retire_floor (awake : s.mode ≠ .setup) (off : h.kind = .keepOff) {n j : LoadId} {g : GroupId}
    (target : h.target = .load n) (last : s.offCount n = 1) (group : s.groupOf n = some g)
    (held : 0 < s.groupOnCount g) (none : s.dgv.queue = []) (short : s.floorCount g < (s.group g).required)
    (member : j ∈ s.members g) (rests : (s.load j).phase = .off) (free : j = n ∨ s.offCount j = 0)
    (needs : (s.config j).needs = []) (first : ∀ m ∈ s.members g, m < j → (s.load m).phase ≠ .off) :
    ((s.retire h).load j).phase = .queued ∧
      ∃ e, (s.retire h).entry? j = some e ∧ (e.origin = .hold ∨ e.origin = .call) := by
  have calm := s.calms_retire h
  have gone : (s.without h).Sound := Part.without_sound ok
  have covers : s.covers h.target n = true := by rw [target]; exact decide_eq_true rfl
  have unforced := Part.without_offCount_last once live off covers last
  have free : (s.without h).offCount j = 0 := by
    obtain rfl | free := free
    · exact unforced
    · have := Part.without_offCount once live j
      omega
  have one : (s.without h).reportRetirement h = (s.without h).reportKeepOffLoss n := by
    rw [Part.reportRetirement_keepOff _ off, target, Part.covered_load, filter_alone (decide_eq_true unforced)]
    rfl
  obtain ⟨e, found, origin⟩ := Part.reportKeepOffLoss_floor (s := s.without h) (n := n) gone awake group
    (by rw [Part.without_groupOnCount_off once live off]; exact held) none short member rests free needs first
  rw [← one] at found
  have ok := ((Part.keeps_reportRetirement (s.without h) h).plant gone).1
  have queued := (ok.queued j).2 (Part.entry?_isSome.1 (by rw [found]; rfl))
  exact ⟨by rw [calm.still j (by rw [queued]; rfl)]; exact queued, e, by rw [calm.entry?]; exact found, origin⟩

omit ok in
theorem Part.retire_pulled (on : h.kind = .keepOn) {n k : LoadId} {e : Entry} (target : h.target = .load n)
    (last : s.lastBacking h n e) (wanted : s.firstWanting n = some k) :
    (s.retire h).entry? n = some { e with origin := .pull k } := by
  obtain ⟨covers, last, found, own, apart⟩ | ⟨g, grouped, -⟩ := last
  · have none := Part.without_onCount_last once live on covers last
    have found : (s.without h).entry? n = some e := found
    rw [(s.calms_retire h).entry?, Part.reportRetirement_load _ on target none,
      Part.reexamine_wanted found own (Part.without_backed once live none apart) wanted, Part.entry?_setOrigin, found,
      Option.map_some, if_pos (Part.entry?_some found).2]
  · rw [target] at grouped; cases grouped

theorem Part.retire_withdrawn (on : h.kind = .keepOn) {n : LoadId} {e : Entry} (last : s.lastBacking h n e)
    (unwanted : s.firstWanting n = none) : ((s.retire h).load n).phase = .off ∧
      n ∉ (s.retire h).dgv.queue.map Entry.load ∧
      (s.retire h).atl.pending.getLsbD 3 = s.atl.pending.getLsbD 3 := by
  have calm := s.calms_retire h
  have withdrawn {l : List LoadId} (listed : n ∈ l)
      (all : (s.without h).reportRetirement h = l.foldl Part.reexamine (s.without h)) (found : s.entry? n = some e)
      (own : e.origin = .hold ∨ e.origin = .call) (alone : (s.without h).backed n = false) :
      ((s.retire h).load n).phase = .off ∧ n ∉ (s.retire h).dgv.queue.map Entry.load ∧
        (s.retire h).atl.pending.getLsbD 3 = s.atl.pending.getLsbD 3 := by
    have start : (s.without h).GivesUp (s.without h) n e := ⟨.refl _, alone, unwanted, rfl, .inl found⟩
    obtain ⟨⟨off, out⟩, silent⟩ := start.foldl (Part.without_sound ok) own listed
    rw [← all] at off out silent
    refine ⟨by rw [calm.still n (by rw [off]; rfl)]; exact off, by rw [calm.queue]; exact out, ?_⟩
    exact (calm.causes 3 (by decide) (by decide)).1.trans (by rw [silent]; rfl)
  obtain ⟨covers, last, found, own, apart⟩ | ⟨g, target, member, last, free, found, own⟩ := last
  · have none := Part.without_onCount_last once live on covers last
    refine withdrawn (List.mem_filter.2 ⟨Part.mem_covered.2 covers, decide_eq_true none⟩)
      ((s.without h).reportRetirement_keepOn on ?_) found own (Part.without_backed once live none apart)
    cases target : h.target with
    | group g => rw [target] at covers; cases covers
    | load | zone => rfl
  · have none := Part.without_groupOnCount_last once live on target last
    refine withdrawn (Part.mem_members.2 member) (Part.reportRetirement_group _ on target none) found own
      (Part.backed_eq_false.2 ⟨?_, fun g' is => ?_⟩)
    · have := Part.without_onCount once live n
      omega
    · rw [show (s.without h).groupOf n = some g from Part.groupOf_of_member member] at is
      cases is
      exact none

theorem Part.retire_checked (on : h.kind = .keepOn) {n : LoadId}
    (last : (h.target = .load n ∧ s.onCount n = 1) ∨
      ∃ g, h.target = .group g ∧ s.groupOnCount g = 1 ∧ s.memberOf n g = true ∧
        ∀ m, s.memberOf m g = true → m ≠ n → (s.load m).phase.running = false)
    (due : (s.without h).idleStopDue n = true) : ((s.retire h).load n).phase = .stopping s.now := by
  have gone : (s.without h).Sound := Part.without_sound ok
  have watch := Part.watch_of_idleStopDue due
  have out : n ∉ (s.without h).queuedLoads := fun listed => by rw [(gone.queued n).2 listed] at watch; cases watch
  rw [s.retire_load h]
  obtain ⟨target, last⟩ | ⟨g, target, last, member, single⟩ := last
  · have none := Part.without_onCount_last once live on (by rw [target]; exact decide_eq_true rfl) last
    rw [Part.reportRetirement_load _ on target none, Part.reexamine_of_unqueued out]
    exact Part.recheck_without_load ok once live on target last due
  · have none := Part.without_groupOnCount_last once live on target last
    have asks := Part.foldl_reexamine_asks ((s.without h).members g) (s.without h)
    obtain ⟨-, members, groupOf, -, -, -, groupOnCount, -⟩ := asks.work.modeWork.reads asks.work.holds
    have group := Part.groupOf_of_member member
    rw [Part.reportRetirement_group _ on target none]
    refine Eq.trans (Part.recheck_group (asks.sound gone) group ((groupOf n).trans group) (by omega)
      ((groupOnCount g).trans none) (Part.idleStopDue_foldl_reexamine _ gone due) fun m listed other => ?_)
      (congrArg LoadPhase.stopping asks.work.now)
    rw [members] at listed
    have still := single m (Part.mem_members.1 listed) other
    obtain same | away | away := asks.phase m
    · rw [same]; exact still
    · rw [away]; rfl
    · rw [away]; rfl

end

/-- The retirement of a live hold of a sound table is followed by what the hold alone had asked for being given up. -/
theorem Part.followsRetirement_retire {s : Part} {h : Hold} (table : s.HoldsOk) (sound : s.LoadsOk)
    (live : h ∈ s.holds) : s.FollowsRetirement (s.retire h) h := by
  obtain ⟨-, once, -, -, -, -, -, -, none⟩ := table
  have ok := sound.sound
  have awake : s.mode ≠ .setup := fun setup => by
    rw [none setup] at live
    cases live
  refine ⟨fun off n => Part.retire_cleared once live ok off,
    fun off n g target last group held none short j => Part.retire_floor once live ok awake off target last group held
      none short,
    fun on n e target last k => Part.retire_pulled once live on target last,
    fun on n e => Part.retire_withdrawn once live ok on, fun on n last due => Part.retire_checked once live ok on last ?_⟩
  rw [← due, Part.without]
  congr 2
  refine List.filter_congr fun x _ => ?_
  simp [bne, beq_eq_decide]

end Sys2Proof.Machine
end

section
/-! RELEASE HOLD (R65, R67, R179). -/

namespace Sys2Proof.Machine

section
variable {s : Part} {h : Hold}

/-- A retirement works on the loads, the queue and the flags (R67). -/
theorem Part.modeWork_retire (s : Part) (h : Hold) : s.ModeWork (s.retire h) :=
  have gone : s.ModeWork (s.without h) := ⟨rfl, rfl, rfl, rfl, rfl, rfl, rfl, rfl, rfl, rfl, rfl⟩
  (gone.trans (Part.loadWork_reportRetirement (s.without h) h).modeWork).trans (s.calms_retire h).follows.work

theorem Part.retire_holds (s : Part) (h : Hold) : (s.retire h).holds = s.holds.filter fun x => x.id != h.id :=
  (s.calms_retire h).follows.holds.trans (Part.loadWork_reportRetirement (s.without h) h).holds

theorem Part.retire_mode (s : Part) (h : Hold) : (s.retire h).mode = s.mode := by
  have reported := (Part.loadWork_reportRetirement (s.without h) h).mode
  have checked := (s.loadWork_recheck ((s.without h).reportRetirement h)).mode
  rw [reported] at checked
  exact (show (Part.ownerLamp _ _).mode = _ by cases h.owner <;> rfl).trans checked

theorem Part.retire_clock (s : Part) (h : Hold) (ok : s.ClockOk) : (s.retire h).ClockOk := by
  rw [Part.ClockOk, (s.modeWork_retire h).clock]
  exact ok

/-- A retirement raises nothing but START_FAILED (Table 4-2). -/
theorem Part.reportRetirement_causes (s : Part) (h : Hold) (i : Fin 8) (other : i ≠ 3) :
    (s.reportRetirement h).atl.pending.getLsbD i = s.atl.pending.getLsbD i ∧
      (s.reportRetirement h).atl.details[i] = s.atl.details[i] := by
  have fold (l : List LoadId) (u : Part) :
      (l.foldl Part.reportKeepOffLoss u).atl.pending.getLsbD i = u.atl.pending.getLsbD i ∧
        (l.foldl Part.reportKeepOffLoss u).atl.details[i] = u.atl.details[i] := by
    induction l generalizing u with
    | nil => exact ⟨rfl, rfl⟩
    | cons n l ih =>
      obtain ⟨pending, details⟩ := (u.asks_reportKeepOffLoss n).causes i other
      exact ⟨(ih _).1.trans pending, (ih _).2.trans details⟩
  unfold Part.reportRetirement
  split
  · split
    · exact (Part.foldl_reexamine_asks _ s).causes i other
    · exact ⟨rfl, rfl⟩
  · exact (Part.foldl_reexamine_asks _ s).causes i other
  · exact fold _ s

theorem Part.retire_causes (s : Part) (h : Hold) (i : Fin 8) (a : i ≠ 3) (b : i ≠ 5) (c : i ≠ 6) :
    (s.retire h).atl.pending.getLsbD i = s.atl.pending.getLsbD i ∧
      (s.retire h).atl.details[i] = s.atl.details[i] := by
  obtain ⟨pending, details⟩ := (s.without h).reportRetirement_causes h i a
  obtain ⟨pending', details'⟩ := (s.calms_retire h).causes i b c
  exact ⟨pending'.trans pending, details'.trans details⟩

theorem Part.hold?_some {id : Nat} (found : s.hold? id = some h) : h ∈ s.holds ∧ h.id = id := by
  unfold Part.hold? at found
  split at found
  · cases found
  · exact ⟨List.mem_of_find?_eq_some found, by simpa using List.find?_some found⟩

end

/-- What RELEASE HOLD makes of a part, by its force flag (R65). -/
def Part.released (p : Part) (id : Half) (force : Bool) : Part × Answer :=
  if p.mode = .setup then (p, { status := .wrongMode })
  else
    match p.hold? id.toNat with
    | none => (p, { status := .notFound })
    | some h =>
      if h.owner = .supervisor || force then
        (p.finish (p.retire h), { status := .ok, data := u16 h.id ++ flag (h.owner != .supervisor) })
      else (p, { status := .notOwner })

theorem exec_releaseHold {s : State} {id : Half} {force : Byte} {f : Bool} (can : s.canServe (.releaseHold id force) = true)
    (read : yesNo force = some f) : exec (.releaseHold id force) s =
      .next (s.answered (.releaseHold id force) (s.released id f).1 (s.released id f).2) := by
  show execReleaseHold id force s = _
  rw [execReleaseHold, request_served can, read]
  rfl

theorem yesNo_some {b : Byte} (low : b.toNat ≤ 1) : yesNo b = some (decide (b = 1)) := by
  obtain ⟨f, read⟩ := Option.isSome_iff_exists.1 (yesNo_isSome.2 low)
  rw [read, yesNo_eq_some read]

/-- Settles O25: RELEASE HOLD is the rows of Table 3-3 in order, and what a retirement gives up stays given up to the
close of the command. -/
theorem releaseHold : Obligations.ReleaseHold := by
  intro s id force c can
  refine ⟨fun high => ?_, fun low setup => ?_, fun low live none => ?_, fun h low live found => ⟨fun foreign soft => ?_,
    fun allowed => ?_⟩⟩
  · show execReleaseHold id force s = _
    rw [execReleaseHold, request_served can, yesNo_none high]
    rfl
  · rw [exec_releaseHold can (yesNo_some low), Part.released, if_pos setup]
  · rw [exec_releaseHold can (yesNo_some low), Part.released, if_neg live, none]
  · rw [exec_releaseHold can (yesNo_some low), Part.released, if_neg live, found]
    simp only [foreign, soft, decide_false, Bool.false_or]
    rfl
  · have done := exec_releaseHold can (yesNo_some low)
    have may : (decide (h.owner = .supervisor) || decide (force = 1)) = true := by simpa using allowed
    rw [Part.released, if_neg live, found] at done
    simp only [may, if_true] at done
    obtain ⟨listed, -⟩ := Part.hold?_some found
    have work := s.modeWork_retire h
    have holds := s.retire_holds h
    have causes := s.retire_causes h 4 (by decide) (by decide) (by decide)
    have mode := s.retire_mode h
    have clock := s.retire_clock h
    have gives : s.HoldsOk → s.LoadsOk → s.FollowsRetirement (s.retire h) h := fun table sound =>
      Part.followsRetirement_retire table sound listed
    generalize s.retire h = v at done work holds causes mode clock gives
    have follows := s.follows_finish v
    have calm : s.ClockOk → v.Calms (s.finish v) := fun ok => (Part.calms_finish s.toPart (.inr (clock ok))).1
    generalize s.finish v = u at done follows calm
    have whole := work.trans follows.work
    obtain ⟨pending, details⟩ := follows.causes 4 (by decide) (by decide) (by decide)
    refine ⟨_, done, ?_, ?_, whole.nextId, pending.trans causes.1, details.trans causes.2,
      fun table sound ok => ((gives table sound).calms (calm ok) fun light => mode ▸ light).of_same rfl rfl rfl,
      whole.sameOutside_answer _ _⟩
    · show Part.replies _ _ _ (u16 h.id ++ [if h.owner = .supervisor then 0 else 1])
      have flagged : flag (h.owner != .supervisor) = [if h.owner = .supervisor then 0 else 1] := by
        by_cases own : h.owner = .supervisor <;> simp [flag, own]
      rw [← flagged]
      rfl
    · refine (follows.holds.trans holds).trans (List.filter_congr fun x _ => ?_)
      simp [bne, beq_eq_decide]

end Sys2Proof.Machine
end

section
/-! HOLD EXPIRY (R68), and what several retirements one after the other leave of the table. -/

namespace Sys2Proof.Machine

section
variable {s : Part}

/-- Retirements one after the other leave the holds of other ids. -/
theorem Part.foldl_retires_holds {f : Part → Hold → Part}
    (each : ∀ u h, (f u h).holds = u.holds.filter fun x => x.id != h.id) (l : List Hold) (u : Part) :
    (l.foldl f u).holds = u.holds.filter fun x => l.all fun h => x.id != h.id := by
  induction l generalizing u with
  | nil => simp
  | cons h l ih =>
    rw [List.foldl_cons, ih, each, List.filter_filter]
    refine List.filter_congr fun x _ => ?_
    rw [List.all_cons, Bool.and_comm]

/-- In a table of distinct ids the retirement of the holds of a kind leaves the others. -/
theorem Part.filter_retired (once : s.holds.Pairwise fun a b => a.id < b.id) (p : Hold → Bool) :
    (s.holds.filter fun x => (s.holds.filter p).all fun h => x.id != h.id) = s.holds.filter fun x => !p x := by
  have ids {a b : Hold} (ha : a ∈ s.holds) (hb : b ∈ s.holds) (same : a.id = b.id) : a = b :=
    List.inj_on_of_nodup_map (f := Hold.id) ((List.pairwise_map.2 once).imp ne_of_lt) ha hb same
  refine List.filter_congr fun x listed => ?_
  rw [Bool.eq_iff_iff, List.all_eq_true, Bool.not_eq_true']
  constructor
  · intro apart
    by_contra fits
    have := apart x (List.mem_filter.2 ⟨listed, by simpa using fits⟩)
    simp at this
  · intro other h kept
    obtain ⟨there, fits⟩ := List.mem_filter.1 kept
    simp only [bne_iff_ne]
    intro same
    rw [ids listed there same, fits] at other
    cases other

theorem Part.modeWork_foldl {α : Type} {f : Part → α → Part} (each : ∀ (u : Part) (a : α), u.ModeWork (f u a))
    (l : List α) (u : Part) :
    u.ModeWork (l.foldl f u) := by
  induction l generalizing u with
  | nil => exact .refl u
  | cons a l ih => exact (each u a).trans (ih _)

theorem Part.modeWork_expire (s : Part) (h : Hold) : s.ModeWork (s.expire h) :=
  (s.modeWork_retire h).trans (Part.loadWork_raise _ _).modeWork

theorem Part.expire_holds (s : Part) (h : Hold) : (s.expire h).holds = s.holds.filter fun x => x.id != h.id :=
  s.retire_holds h

theorem Part.expire_mode (s : Part) (h : Hold) : (s.expire h).mode = s.mode := s.retire_mode h

end

/-- What HOLD EXPIRY makes of a part at a boundary of the minute (R68). -/
def Part.expired (p : Part) : Part := p.expiring.foldl Part.expire p

theorem exec_holdExpiry {s : State} (working : s.working = true) :
    exec .holdExpiry s = .next (s.withPart
      (if 0 < s.now ∧ s.now % 60 = 0 then s.finish s.expired else s.toPart)) := by
  show execHoldExpiry s = _
  rw [execHoldExpiry, event_taken working]
  rfl

/-- Settles O50: the holds reached are retired one after the other in ascending id, each raising HOLD_RETIRED. -/
theorem holdExpiry : Obligations.HoldExpiry := by
  intro s working
  refine ⟨fun away => ?_, fun late boundary table => ?_⟩
  · rw [exec_holdExpiry working, if_neg (by omega)]
    rfl
  · intro reached
    have done := exec_holdExpiry working
    rw [if_pos ⟨late, boundary⟩] at done
    have listed : s.expiring = s.holds.filter reached := rfl
    have once := table.2.1
    have work : s.ModeWork s.expired := Part.modeWork_foldl Part.modeWork_expire _ _
    have holds : s.expired.holds = s.holds.filter fun x => !reached x :=
      (Part.foldl_retires_holds Part.expire_holds _ _).trans (Part.filter_retired once reached)
    have last {h : Hold} (found : (s.holds.filter reached).getLast? = some h) :
        s.expired.atl.pending.getLsbD 4 = true ∧ s.expired.atl.details[4] = some (.holdRetired h.id) := by
      obtain ⟨l, split⟩ := List.getLast?_eq_some_iff.1 found
      rw [Part.expired, listed, split, List.foldl_append]
      exact ⟨Part.raise_pending _ (.holdRetired h.id), Part.raise_details _ (.holdRetired h.id)⟩
    have single {h : Hold} (one : s.holds.filter reached = [h]) (sound : s.LoadsOk) :
        s.FollowsRetirement s.expired h ∧ s.expired.mode = s.mode := by
      have live : h ∈ s.holds := (List.mem_filter.1 (by rw [one]; exact List.mem_singleton_self h : h ∈ _)).1
      rw [Part.expired, listed, one]
      refine ⟨(Part.followsRetirement_retire table sound live).of_same rfl rfl ?_, s.expire_mode h⟩
      exact ((s.retire h).raise_others (.holdRetired h.id) (i := 3) (show (3 : Fin 8) ≠ 4 by decide)).1
    generalize s.expired = v at done work holds last single
    have follows := s.follows_finish v
    have calm : s.ClockOk → v.Calms (s.finish v) := fun ok =>
      (Part.calms_finish s.toPart (.inr (by rw [Part.ClockOk, work.clock]; exact ok))).1
    generalize s.finish v = u at done follows calm
    have whole := work.trans follows.work
    refine ⟨_, done, follows.holds.trans holds, fun h found => ?_, fun h one sound ok => ?_, whole.nextId,
      whole.sameOutside⟩
    · obtain ⟨pending, details⟩ := follows.causes 4 (by decide) (by decide) (by decide)
      obtain ⟨raised, told⟩ := last found
      exact ⟨pending.trans raised, details.trans told⟩
    · obtain ⟨gives, mode⟩ := single one sound
      exact gives.calms (calm ok) fun light => mode ▸ light

end Sys2Proof.Machine
end

section
/-! The panel keys and the refusal timer (R154 to R157). -/

namespace Sys2Proof.Machine

/-! ## Lamps (R157) -/

section
variable {s t : Part} {p : PanelId}

/-- A panel's lamp shows the pattern of Table 7-2. -/
def Part.lampRight (s : Part) (p : PanelId) : Prop := (s.lin.lamps[p]).pattern = s.lampPattern p

theorem Part.lampPattern_of (panels : t.cfg.panels = s.cfg.panels) (refusal : t.lin.refusal = s.lin.refusal)
    (holds : t.holds = s.holds) (now : t.now = s.now) (mode : t.mode = s.mode) : t.lampPattern p = s.lampPattern p := by
  unfold Part.lampPattern Part.panelHold Part.minute
  rw [panels, refusal, holds, now, mode]

theorem Part.ModeWork.lampRight (work : s.ModeWork t) (holds : t.holds = s.holds) (mode : t.mode = s.mode)
    (lamps : t.lin.lamps = s.lin.lamps) (right : s.lampRight p) : t.lampRight p := by
  rw [Part.lampRight, lamps, Part.lampPattern_of (by rw [work.records]) (by rw [work.lines]) holds work.now mode]
  exact right

theorem Part.chooseLamp_right (s : Part) (p : PanelId) : (s.chooseLamp p).lampRight p := by
  show ((s.lin.lamps.set p _)[p]).pattern = s.lampPattern p
  rw [Fin.getElem_fin, Vector.getElem_set_self]
  exact Lamp.choose_pattern _ _

theorem Part.lampPattern_refused (inUse : (s.cfg.panels[p]).inUse = true) (runs : (s.lin.refusal[p]).isSome = true) :
    s.lampPattern p = .fast := by
  simp only [Part.lampPattern, inUse, runs, Bool.not_true, Bool.false_eq_true, if_false, if_true]

/-- The close of a handling leaves lamps that are right so: a mode change chooses them again (R116, R157). -/
theorem Part.CloseStep.lampRight (h : s.CloseStep t) (right : s.lampRight p) : t.lampRight p := by
  cases h with
  | @stop n stops =>
    have work := s.loadWork_enterStopping n
    exact work.modeWork.lampRight work.holds work.mode (by rw [work.lin]) right
  | tell live => exact Part.chooseLamps_pattern _ p
  | ask asks =>
    have work := asks.asks.work
    exact work.modeWork.lampRight work.holds work.mode (by rw [work.lin]) right
  | idle idles => exact idles.follows.work.lampRight idles.follows.holds idles.mode idles.lamps right

/-- The close of a handling keeps the holds, the lines and the refusal timers, and a right lamp. -/
theorem Part.finish_lines (before : Part) (right : s.lampRight p) :
    (before.finish s).holds = s.holds ∧ (before.finish s).nextId = s.nextId ∧
      (before.finish s).lin = { s.lin with lamps := (before.finish s).lin.lamps } ∧ (before.finish s).lampRight p ∧
      (before.finish s).flm = s.flm ∧ (before.finish s).cfs = s.cfs ∧ (before.finish s).cfg.panels = s.cfg.panels := by
  have follows := before.follows_finish s
  exact ⟨follows.holds, follows.work.nextId, follows.work.lines,
    (before.closes_finish s).keeps (P := fun u => u.lampRight p) (fun _ _ step right => step.lampRight right) right,
    follows.work.flm, follows.work.cfs, by rw [follows.work.records]⟩

/-- An event that changes a line alone, outside WAKE, is closed by computing D again (R92). -/
theorem Part.finish_of_line (awake : s.mode ≠ .wake) (lin : LineInputs) :
    s.finish { s with lin := lin } = { s with lin := lin, dgv := s.demandTaken } := by
  have quiet : s.recheck { s with lin := lin } = { s with lin := lin } :=
    Part.recheck_of_same_inputs (fun _ => rfl) rfl
  have none : s.needBecameSatisfied { s with lin := lin } = false := by
    refine List.any_eq_false.2 fun k _ => ?_
    rw [Bool.and_eq_true, not_and, Bool.not_eq_true]
    intro _
    refine List.any_eq_false.2 fun need _ => ?_
    rw [show Part.needSatisfied { s with lin := lin } need = s.needSatisfied need by cases need <;> rfl]
    simp
  have settled : (s.recomputeDemand { s with lin := lin }).wakeSettled := fun wake => by
    rw [(s.loadWork_recomputeDemand _).mode] at wake
    exact absurd wake awake
  rw [Part.finish, quiet, Part.wakeEndTest_settled settled, Part.recomputeDemand, none, Bool.or_false]
  rfl

end

/-! ## KEEP presses (R154, R155) -/

section
variable {s : Part} {kind : HoldKind} {x : Target} {owner : Owner} {duration reason : Nat}

theorem Part.place_renewed {h : Hold} (live : s.mode ≠ .setup) (there : s.targetEmpty x = false)
    (found : s.matching kind x owner = some h) :
    s.place kind x owner duration reason =
      (let h' := { h with expiry := (expiryFor kind duration s.minute).1, renewals := min 255 (h.renewals + 1)
                          reason := reason }
       ((s.updateHold h').ownerLamp owner, .renewed h' (expiryFor kind duration s.minute).2)) := by
  simp only [Part.place, if_neg live, there, Bool.false_eq_true, if_false, found]

theorem Part.place_placed (live : s.mode ≠ .setup) (there : s.targetEmpty x = false)
    (none : s.matching kind x owner = none) (room : s.holds.length < 48) (clear : s.conflicts kind x = false) :
    s.place kind x owner duration reason =
      (let h : Hold := { id := s.nextId, kind := kind, target := x, owner := owner
                         expiry := (expiryFor kind duration s.minute).1, placedAt := s.minute, renewals := 0
                         reason := reason }
       (s.createHold h, .placed h (expiryFor kind duration s.minute).2)) := by
  have room : ¬ Config.maxHolds ≤ s.holds.length := by rw [show Config.maxHolds = 48 from rfl]; omega
  simp only [Part.place, if_neg live, there, Bool.false_eq_true, if_false, none, if_neg room, clear]

theorem Part.place_refused (live : s.mode ≠ .setup) (there : s.targetEmpty x = false)
    (none : s.matching kind x owner = none) (refuses : 48 ≤ s.holds.length ∨ s.conflicts kind x = true) :
    s.place kind x owner duration reason = (s, .full) ∨ s.place kind x owner duration reason = (s, .conflict) := by
  by_cases full : 48 ≤ s.holds.length
  · have full : Config.maxHolds ≤ s.holds.length := full
    exact .inl (by simp only [Part.place, if_neg live, there, Bool.false_eq_true, if_false, none, if_pos full])
  · have conflict := refuses.resolve_left full
    have room : ¬ Config.maxHolds ≤ s.holds.length := full
    exact .inr (by
      simp only [Part.place, if_neg live, there, Bool.false_eq_true, if_false, none, if_neg room, conflict, if_true])

theorem expiryFor_keepOn {d m : Nat} (pos : 1 ≤ d) (low : d ≤ 900) : expiryFor .keepOn d m = (some (m + d), false) := by
  have low : d ≤ Config.keepOnMax := low
  simp only [expiryFor, if_neg (show ¬ d = 0 by omega), if_pos low]

/-- A placement puts its record into the table, and works on the loads, the queue and the lamps (R60). -/
theorem Part.createHold_work (s : Part) (h : Hold) :
    (s.createHold h).holds = insertHold h s.holds ∧
      (s.createHold h).lin = { s.lin with lamps := (s.createHold h).lin.lamps } ∧ (s.createHold h).flm = s.flm ∧
      (s.createHold h).cfs = s.cfs := by
  have work := Part.loadWork_reportPlacement
    { s with holds := insertHold h s.holds
             nextId := freeId ((insertHold h s.holds).map Hold.id) 49 (stepId h.id) } h
  have lamp (u : Part) (o : Owner) : (u.ownerLamp o).holds = u.holds ∧
      (u.ownerLamp o).lin = { u.lin with lamps := (u.ownerLamp o).lin.lamps } ∧ (u.ownerLamp o).flm = u.flm ∧
      (u.ownerLamp o).cfs = u.cfs := by cases o <;> exact ⟨rfl, rfl, rfl, rfl⟩
  obtain ⟨holds, lines, flm, cfs⟩ := lamp (Part.reportPlacement _ h) h.owner
  refine ⟨holds.trans work.holds, ?_, flm.trans work.flm, cfs.trans work.cfs⟩
  exact lines.trans (by rw [work.lin]; rfl)

end

theorem Part.keepEffective_of {s : Part} (effective : s.mode = .day ∨ s.mode = .windDown ∨ s.mode = .wake ∨
    (s.mode = .night ∧ s.cfg.active.valid = true ∧ s.cfg.active.nightPanels = true)) :
    s.keepEffective = true ∧ s.mode ≠ .setup := by
  unfold Part.keepEffective
  obtain day | down | wake | ⟨night, valid, panels⟩ := effective <;> simp_all

/-! What an effective press makes of a part, to the outcome's refusal timer and lamp (R154, R155). -/

section
variable {q : Part} {p : PanelId} {z : ZoneId} {k : Nat} (zone : q.cfg.panels[p].zone = z) (keep : q.cfg.panels[p].keepMin = k)
  (effective : q.keepEffective = true) (live : q.mode ≠ .setup) (named : q.targetEmpty (.zone z) = false)
include zone keep effective live named

omit live named in
theorem Part.keepPressed_eq :
    q.keepPressed p = (q.place .keepOn (.zone z) (.panel p) k 0).1.keepOutcome p
      (q.place .keepOn (.zone z) (.panel p) k 0).2 := by
  rw [Part.keepPressed, if_pos effective]
  simp only [zone, keep]

theorem Part.keepPressed_renewed {h : Hold} (pos : 1 ≤ k) (low : k ≤ 900)
    (found : q.matching .keepOn (.zone z) (.panel p) = some h) :
    ∃ u : Part, q.keepPressed p = (u.setRefusal p none).chooseLamp p ∧
      u.holds = (q.holds.map fun y => if y.id = h.id then
        { h with expiry := some (q.minute + k), renewals := min 255 (h.renewals + 1), reason := 0 } else y) ∧
      u.nextId = q.nextId ∧ u.lin = { q.lin with lamps := u.lin.lamps } ∧ u.flm = q.flm ∧ u.cfs = q.cfs := by
  rw [Part.keepPressed_eq zone keep effective, Part.place_renewed live named found, expiryFor_keepOn pos low]
  exact ⟨_, rfl, rfl, rfl, rfl, rfl, rfl⟩

theorem Part.keepPressed_placed (pos : 1 ≤ k) (low : k ≤ 900) (none_ : q.matching .keepOn (.zone z) (.panel p) = none)
    (room : q.holds.length < 48) (clear : q.keepOnConflict (.zone z) = false) :
    ∃ u : Part, q.keepPressed p = (u.setRefusal p none).chooseLamp p ∧
      u.holds = insertHold
        { id := q.nextId, kind := .keepOn, target := .zone z, owner := .panel p, expiry := some (q.minute + k)
          placedAt := q.minute, renewals := 0, reason := 0 } q.holds ∧
      u.lin = { q.lin with lamps := u.lin.lamps } ∧ u.flm = q.flm ∧ u.cfs = q.cfs := by
  rw [Part.keepPressed_eq zone keep effective, Part.place_placed live named none_ room clear, expiryFor_keepOn pos low]
  exact ⟨_, rfl, q.createHold_work _⟩

theorem Part.keepPressed_refused (none_ : q.matching .keepOn (.zone z) (.panel p) = none)
    (refuses : 48 ≤ q.holds.length ∨ q.keepOnConflict (.zone z) = true) :
    q.keepPressed p = (q.setRefusal p (some (q.now + 5))).chooseLamp p := by
  rw [Part.keepPressed_eq zone keep effective]
  obtain full | conflict := Part.place_refused (duration := k) (reason := 0) live named none_ refuses
  · rw [full]; rfl
  · rw [conflict]; rfl

end

/-! ## CLEAR presses (R66, R156) -/

section
variable {s : Part} {p : PanelId}

theorem Part.modeWork_panelRelease (s : Part) (p : PanelId) : s.ModeWork (s.panelRelease p) :=
  Part.modeWork_foldl Part.modeWork_retire _ _

theorem Part.panelRelease_holds (once : s.holds.Pairwise fun a b => a.id < b.id) : (s.panelRelease p).holds =
    s.holds.filter fun h => !(h.owner = .panel p && h.target = .zone s.cfg.panels[p].zone) :=
  (Part.foldl_retires_holds Part.retire_holds _ _).trans
    (Part.filter_retired once fun h => h.owner = .panel p && h.target = .zone s.cfg.panels[p].zone)

theorem Part.panelRelease_single (table : s.HoldsOk) (sound : s.LoadsOk) {h : Hold}
    (one : (s.holds.filter fun h => h.owner = .panel p && h.target = .zone s.cfg.panels[p].zone) = [h]) :
    s.FollowsRetirement (s.panelRelease p) h ∧ (s.panelRelease p).mode = s.mode := by
  have live : h ∈ s.holds := (List.mem_filter.1 (by rw [one]; exact List.mem_singleton_self h : h ∈ _)).1
  rw [show s.panelRelease p = s.retire h from congrArg (List.foldl Part.retire s) one]
  exact ⟨Part.followsRetirement_retire table sound live, s.retire_mode h⟩

end

/-! ## The rows -/

section
variable {s : State} {p : PanelId}

/-- A press is taken at its row, and closed (R151). -/
theorem exec_keepPress (works : s.working = true) (inUse : s.cfg.panels[p].inUse = true)
    (level : (s.lin.keep[p]).level = .inactive) (run : s.cfg.panels[p].keySamples ≤ (s.lin.keep[p]).run) :
    exec (.keepPress p) s = .next (s.withPart
      (s.finish ((s.setDebounce (.key p .keep) (.at_ .active)).keepPressed p))) := by
  show execKeepPress p s = _
  rw [execKeepPress, event_taken works,
    Part.takeLine_due (s := s.toPart) (line := .key p .keep) _ _ inUse (Debounce.risingDue_of level run)]

/-- A KEEP press that is not effective changes the key's level alone (R154). -/
theorem keepPress_idle (works : s.working = true) (inUse : s.cfg.panels[p].inUse = true)
    (level : (s.lin.keep[p]).level = .inactive) (run : s.cfg.panels[p].keySamples ≤ (s.lin.keep[p]).run)
    (idle : s.mode = .setup ∨
      (s.mode = .night ∧ (s.cfg.active.valid = false ∨ s.cfg.active.nightPanels = false))) :
    exec (.keepPress p) s = .next (s.withPart { s.toPart with
      lin := { s.lin with keep := s.lin.keep.set p { level := .active } }, dgv := s.demandTaken }) := by
  have still : (s.setDebounce (.key p .keep) (.at_ .active)).keepPressed p = s.setDebounce (.key p .keep) (.at_ .active) := by
    refine if_neg ?_
    show ¬ s.keepEffective = true
    unfold Part.keepEffective
    obtain setup | ⟨night, plan⟩ := idle
    · rw [setup]; simp
    · rw [night]; simpa [← Bool.not_eq_true, ← not_and_or] using plan
  have awake : s.mode ≠ .wake := by
    obtain setup | ⟨night, -⟩ := idle
    · rw [setup]; nofun
    · rw [night]; nofun
  have closed := Part.finish_of_line awake (s.lin.setDebounce (.key p .keep) (.at_ .active))
  rw [exec_keepPress works inUse level run, still, Part.setDebounce, closed]
  rfl

theorem exec_clearPress (works : s.working = true) (inUse : s.cfg.panels[p].inUse = true)
    (level : (s.lin.clear[p]).level = .inactive) (run : s.cfg.panels[p].keySamples ≤ (s.lin.clear[p]).run) :
    exec (.clearPress p) s = .next (s.withPart (s.finish
      ((((s.setDebounce (.key p .clear) (.at_ .active)).panelRelease p).setRefusal p none).chooseLamp p))) := by
  show execClearPress p s = _
  rw [execClearPress, event_taken works,
    Part.takeLine_due (s := s.toPart) (line := .key p .clear) _ _ inUse (Debounce.risingDue_of level run)]

theorem exec_refusalTimerExpiry (works : s.working = true) {until_ : Nat} (running : s.lin.refusal[p] = some until_) :
    exec (.refusalTimerExpiry p) s = .next (s.withPart
      (if until_ ≤ s.now then (s.setRefusal p none).chooseLamp p else s.toPart)) := by
  show execRefusalTimerExpiry p s = _
  rw [execRefusalTimerExpiry, event_taken works, running]

end

/-- The close of a press that has set the panel's refusal timer and chosen its lamp. -/
theorem Part.finish_press (before u : Part) (p : PanelId) (r : Option Nat) :
    ∃ t, t = before.finish ((u.setRefusal p r).chooseLamp p) ∧ t.holds = u.holds ∧ t.nextId = u.nextId ∧
      t.lin.refusal[p] = r ∧ t.lin.keep = u.lin.keep ∧ t.lin.clear = u.lin.clear ∧ t.lampRight p ∧ t.flm = u.flm ∧
      t.cfs = u.cfs ∧ t.cfg.panels = u.cfg.panels := by
  obtain ⟨holds, nextId, lin, right, flm, cfs, panels⟩ := Part.finish_lines before ((u.setRefusal p r).chooseLamp_right p)
  refine ⟨_, rfl, holds, nextId, ?_, by rw [lin]; rfl, by rw [lin]; rfl, right, flm, cfs, panels⟩
  rw [lin]
  exact Vector.getElem_set_self _

/-- Settles O57: each row by its debounce record or timer, and each placement by its outcome. -/
theorem panelKeys : Obligations.PanelKeys := by
  intro s p works inUse c pressed expiry
  refine ⟨fun ⟨level, run⟩ => ⟨fun idle => ?_, fun effective named pos low => ?_⟩, fun ⟨level, run⟩ table => ?_,
    fun until_ running => ⟨fun early => ?_, fun late => ?_⟩⟩
  · exact keepPress_idle works inUse level run idle
  · obtain ⟨effective, live⟩ := Part.keepEffective_of effective
    have done := exec_keepPress works inUse level run
    have key : ((s.setDebounce (.key p .keep) (.at_ .active)).lin.keep[p]).level = .active := by
      show ((s.lin.keep.set p (Debounce.at_ .active))[p]).level = .active
      rw [Fin.getElem_fin, Vector.getElem_set_self]
      rfl
    have renewed {h : Hold} := Part.keepPressed_renewed (q := s.setDebounce (.key p .keep) (.at_ .active)) (p := p) (h := h)
      rfl rfl effective live named pos low
    have placed := Part.keepPressed_placed (q := s.setDebounce (.key p .keep) (.at_ .active)) (p := p)
      rfl rfl effective live named pos low
    have refused := Part.keepPressed_refused (q := s.setDebounce (.key p .keep) (.at_ .active)) (p := p)
      rfl rfl effective live named
    refine ⟨fun h found => ?_, fun absent room clear => ?_, fun absent refuses => ?_⟩
    · obtain ⟨u, outcome, holds', nextId', lin', flm', cfs'⟩ := renewed found
      obtain ⟨t, closed, holds, nextId, refusal, keep, -, right, flm, cfs, -⟩ := Part.finish_press s.toPart u p none
      rw [outcome, ← closed] at done
      exact ⟨_, done, holds.trans holds', nextId.trans nextId', refusal, right,
        by rw [show (s.withPart t).lin.keep = _ from keep, lin']; exact key, flm.trans flm', cfs.trans cfs'⟩
    · obtain ⟨u, outcome, holds', lin', flm', cfs'⟩ := placed absent room clear
      obtain ⟨t, closed, holds, nextId, refusal, keep, -, right, flm, cfs, -⟩ := Part.finish_press s.toPart u p none
      rw [outcome, ← closed] at done
      exact ⟨_, done, holds.trans holds', refusal,
        by rw [show (s.withPart t).lin.keep = _ from keep, lin']; exact key, flm.trans flm', cfs.trans cfs'⟩
    · obtain ⟨t, closed, holds, nextId, refusal, keep, -, right, flm, cfs, panels⟩ := Part.finish_press s.toPart
        (s.setDebounce (.key p .keep) (.at_ .active)) p (some (Part.now (s.setDebounce (.key p .keep) (.at_ .active)) + 5))
      rw [refused absent refuses] at done
      rw [← closed] at done
      have fast : t.lampPattern p = .fast :=
        Part.lampPattern_refused (by rw [panels]; exact inUse) (by rw [refusal]; rfl)
      exact ⟨_, done, holds, nextId, refusal, right.trans fast, by rw [show (s.withPart t).lin.keep = _ from keep]; exact key,
        flm, cfs⟩
  · have done := exec_clearPress works inUse level run
    let q : Part := s.setDebounce (.key p .clear) (.at_ .active)
    have key : (q.lin.clear[p]).level = .active := by
      show ((s.lin.clear.set p (Debounce.at_ .active))[p]).level = .active
      rw [Fin.getElem_fin, Vector.getElem_set_self]
      rfl
    have work := q.modeWork_panelRelease p
    have holds' := Part.panelRelease_holds (s := q) (p := p) table.2.1
    have gives {h : Hold} (one : (s.holds.filter fun h => h.owner = .panel p && h.target = .zone c.zone) = [h])
        (sound : s.LoadsOk) : s.FollowsRetirement (q.panelRelease p) h ∧ (q.panelRelease p).mode = s.mode := by
      obtain ⟨⟨cleared, floor, pulled, withdrawn, checked⟩, mode⟩ := Part.panelRelease_single (s := q) table sound one
      exact ⟨⟨cleared, floor, pulled, withdrawn, checked⟩, mode⟩
    obtain ⟨t, closed, holds, nextId, refusal, -, clear, -, flm, cfs, -⟩ :=
      Part.finish_press s.toPart (q.panelRelease p) p none
    have calm : s.ClockOk → (((q.panelRelease p).setRefusal p none).chooseLamp p).Calms t := fun ok => by
      rw [closed]
      refine (Part.calms_finish s.toPart (.inr ?_)).1
      show (q.panelRelease p).ClockOk
      rw [Part.ClockOk, work.clock]
      exact ok
    rw [← closed] at done
    refine ⟨_, done, holds.trans holds', refusal, ?_, nextId.trans work.nextId, fun h one sound ok => ?_,
      flm.trans work.flm, cfs.trans work.cfs⟩
    · rw [show (s.withPart t).lin.clear = _ from clear, work.lines]
      exact key
    · obtain ⟨gives, mode⟩ := gives one sound
      have kept : s.FollowsRetirement (((q.panelRelease p).setRefusal p none).chooseLamp p) h :=
        gives.of_same rfl rfl rfl
      exact kept.calms (calm ok) fun light => mode ▸ light
  · rw [exec_refusalTimerExpiry works running, if_neg (by omega)]
    rfl
  · have done := exec_refusalTimerExpiry works running
    rw [if_pos late] at done
    exact ⟨_, done, rfl, Part.chooseLamp_right _ p, rfl, rfl, rfl, rfl⟩

end Sys2Proof.Machine
end

section
/-! What requests, withdrawals and reviews leave of one load: whether it is still queued, by which origin, and whether it
can be started (R80 to R87). -/

namespace Sys2Proof.Machine

section
variable {a : Licence} {s t : Part} {n : LoadId}

/-- START_FAILED is pending (R85). -/
abbrev Part.failed (s : Part) : Prop := s.atl.pending.getLsbD 3 = true

/-- A load leaves the queue with START_FAILED pending, where no withdrawal is silent. -/
theorem Part.AskStep.queuedOrFailed (h : s.AskStep a t) (loud : ¬ a.silent) (start : n ∈ s.queuedLoads ∨ s.failed) :
    n ∈ t.queuedLoads ∨ t.failed := by
  obtain listed | failed := start
  · cases h with
    | merge => exact .inl (by rw [Part.setOrigin_queuedLoads]; exact listed)
    | repull => exact .inl (by rw [Part.setOrigin_queuedLoads]; exact listed)
    | drop _ _ raised => exact .inr (raised.resolve_right loud)
    | @lost m => exact .inr (Part.raise_pending _ (.startFailed m .needLost))
    | enter => exact .inl ((s.newEntry_queuedLoads _ _).mem_iff.2 (List.mem_cons_of_mem _ listed))
    | @bounce m => exact .inr (Part.raise_pending _ (.startFailed m .needLost))
    | hold => exact .inl listed
    | scan => exact .inl listed
  · exact .inr (h.asks.failed failed)

theorem Part.Asked.queuedOrFailed (h : s.Asked a t) (loud : ¬ a.silent) (start : n ∈ s.queuedLoads ∨ s.failed) :
    n ∈ t.queuedLoads ∨ t.failed :=
  h.keeps (P := fun u => n ∈ u.queuedLoads ∨ u.failed) (fun _ _ step start => step.queuedOrFailed loud start) start

/-- Origins that pull-up and the sweep give, and that these requests bring: an entry's origin is one of them. -/
theorem Part.AskStep.origin {own : Origin → Prop} (h : s.AskStep a t) (ok : s.Sound)
    (low : ∀ o : Origin, o.high = false → own o) (high : ∀ o, a.high o → own o)
    (start : ∀ e, s.entry? n = some e → own e.origin) : ∀ e, t.entry? n = some e → own e.origin := by
  have ranked {o : Origin} (rank : o.high = true → a.high o) : own o := by
    cases hi : o.high with
    | false => exact low o hi
    | true => exact high o (rank hi)
  have set (m : LoadId) (o : Origin) (fits : m = n → own o) : ∀ e, (s.setOrigin m o).entry? n = some e → own e.origin := by
    intro e found
    rw [Part.entry?_setOrigin, Option.map_eq_some_iff] at found
    obtain ⟨d, there, rfl⟩ := found
    split
    · next is => exact fits (is.symm.trans (Part.entry?_some there).2)
    · exact start d there
  have dropped (u : Part) (m : LoadId) (start : ∀ e, u.entry? n = some e → own e.origin) :
      ∀ e, (u.dropEntry m).entry? n = some e → own e.origin := by
    intro e found
    by_cases is : n = m
    · subst is
      exact absurd (Part.entry?_isSome.1 (by rw [found]; rfl)) fun listed => (Part.mem_dropEntry.1 listed).2 rfl
    · rw [Part.entry?_dropEntry_ne u is] at found
      exact start e found
  have entered {m : LoadId} {o : Origin} (off : (s.load m).phase = .off) (fits : m = n → own o) :
      ∀ e, (s.newEntry m o).entry? n = some e → own e.origin := by
    have out : m ∉ s.queuedLoads := fun listed => by rw [(ok.queued m).2 listed] at off; cases off
    intro e found
    by_cases is : n = m
    · subst is
      obtain ⟨d, there, origin⟩ := Part.entry?_newEntry_self ok out o
      rw [there] at found
      cases found
      rw [origin]
      exact fits rfl
    · rw [Part.entry?_newEntry_ne ok out o is] at found
      exact start e found
  cases h with
  | @merge m e o found rank =>
    refine set _ _ fun is => ?_
    subst is
    unfold Origin.merge
    split
    · exact ranked rank
    · exact start e found
  | repull => exact set _ _ fun _ => low _ rfl
  | drop => exact dropped s _ start
  | lost => exact dropped s _ start
  | enter off live free met rank => exact entered off fun _ => ranked rank
  | @bounce m o off =>
    by_cases is : m = n
    · subst is
      intro e found
      exact absurd (Part.entry?_isSome.1 (by rw [show (Part.dropEntry _ m).entry? m = some e from found]; rfl))
        fun listed => (Part.mem_dropEntry.1 listed).2 rfl
    · exact dropped (s.newEntry m o) _ (entered off fun same => absurd same is)
  | hold => exact start
  | scan => exact start

theorem Part.Asked.origin {own : Origin → Prop} (h : s.Asked a t) (ok : s.Sound)
    (low : ∀ o : Origin, o.high = false → own o) (high : ∀ o, a.high o → own o)
    (start : ∀ e, s.entry? n = some e → own e.origin) : ∀ e, t.entry? n = some e → own e.origin :=
  (h.keeps (P := fun u : Part => u.Sound ∧ ∀ e, u.entry? n = some e → own e.origin)
    (fun _ _ step ⟨ok, start⟩ => ⟨step.asks.sound ok, step.origin ok low high start⟩) ⟨ok, start⟩).2

/-! ## Loads with a need that is not satisfiable (R81, R84) -/

/-- The load has a need that is not satisfiable (R81). -/
def Part.unmet (s : Part) (n : LoadId) : Prop := s.needsSatisfiable n = false

theorem Part.unmet.barred (h : s.unmet n) : s.barred n := .inr h

theorem Part.Follows.unmet (h : s.Follows t) (ok : s.Sound) (unmet : s.unmet n) : t.unmet n := by
  refine Bool.eq_false_iff.2 fun met => Bool.eq_false_iff.1 unmet ?_
  unfold Part.needsSatisfiable at met ⊢
  rw [h.work.config, List.all_eq_true] at met
  rw [List.all_eq_true]
  exact fun need listed => (h.fades ok).needSatisfiableBy h.work h.holds
    ((h.fades ok).available h.work h.holds 64) need (met need listed)

theorem Part.unmet_of_need {j : LoadId} (needs : .load j ∈ (s.config n).needs) (dark : s.serving j = false)
    (away : s.available 64 j = false) : s.unmet n := by
  refine Bool.eq_false_iff.2 fun met => ?_
  have := List.all_eq_true.1 met _ needs
  simp [Part.needSatisfiable, Part.needSatisfiableBy, dark, away] at this

theorem Part.unmet.needs (h : s.unmet n) : (s.config n).needs ≠ [] := by
  intro none
  rw [Part.unmet, Part.needsSatisfiable, none] at h
  cases h

/-- A review withdraws a queued load with a need that is not satisfiable (R84). -/
theorem Part.needReview_unmet (ok : s.Sound) (unmet : s.unmet n) (listed : n ∈ s.queuedLoads) :
    s.needReview.atRest n ∧ s.needReview.failed := by
  refine (foldl_reaches (f := Part.reviewEntry)
    (P := fun u : Part => u.Sound ∧ u.unmet n ∧ (n ∈ u.queuedLoads ∨ u.atRest n ∧ u.failed))
    (Q := fun u : Part => u.atRest n ∧ u.failed) (fun u m ⟨ok, unmet, there⟩ => ?_) (fun u ⟨ok, unmet, there⟩ => ?_)
    (fun u m ⟨ok, unmet, _⟩ ⟨rests, failed⟩ => ?_) listed ⟨ok, unmet, .inl listed⟩).2
  · have asked := u.asked_reviewEntry m
    refine ⟨asked.asks.sound ok, asked.asks.follows.unmet ok unmet, ?_⟩
    obtain listed | ⟨rests, failed⟩ := there
    · obtain still | failed := asked.queuedOrFailed id (.inl listed)
      · exact .inl still
      · by_cases still : n ∈ (u.reviewEntry m).queuedLoads
        · exact .inl still
        · obtain off | queued := asked.asks.rests (.inr ((ok.queued n).2 listed))
          · exact .inr ⟨⟨off, still⟩, failed⟩
          · exact absurd (((asked.asks.sound ok).queued n).1 queued) still
    · exact .inr ⟨asked.atRest ok unmet.barred rests, asked.asks.failed failed⟩
  · obtain listed | ⟨rests, failed⟩ := there
    · have withdrawn : u.reviewEntry n = u.withdraw n .needLost := by
        rw [Part.reviewEntry, if_pos (Part.entry?_isSome.2 listed),
          if_neg (by rw [show u.needsSatisfiable n = false from unmet]; nofun)]
      rw [withdrawn]
      exact ⟨u.atRest_withdraw n rfl, by
        rw [Part.failed, u.withdraw_raises n rfl rfl]; exact Part.raise_pending _ (.startFailed n .needLost)⟩
    · have same : u.reviewEntry n = u := if_neg fun listed => rests.2 (Part.entry?_isSome.1 listed)
      rw [same]
      exact ⟨rests, failed⟩
  · have asked := u.asked_reviewEntry m
    exact ⟨asked.atRest ok unmet.barred rests, asked.asks.failed failed⟩

end

end Sys2Proof.Machine
end

section
/-! A placement and its reports, load by load (R34, R52, R60 to R63). -/

namespace Sys2Proof.Machine

/-! ## The record (R49, R52, R60) -/

theorem insertHold_perm (h : Hold) (l : List Hold) : (insertHold h l).Perm (h :: l) := by
  unfold insertHold
  exact List.perm_middle.trans (by rw [List.takeWhile_append_dropWhile])

section
variable {s t : Part} {h : Hold}

/-- The part when a record has been put into the table, its changes not yet reported (R60). -/
def Part.withHold (s : Part) (h : Hold) : Part :=
  { s with holds := insertHold h s.holds
           nextId := freeId ((insertHold h s.holds).map Hold.id) 49 (stepId h.id) }

theorem Part.withHold_sound (ok : s.Sound) : (s.withHold h).Sound :=
  ok.congr (fun _ => rfl) (fun _ => rfl) rfl ok.keys rfl rfl

theorem Part.countP_withHold (s : Part) (h : Hold) (p : Hold → Bool) :
    (s.withHold h).holds.countP p = s.holds.countP p + if p h then 1 else 0 :=
  ((insertHold_perm h s.holds).countP_eq p).trans List.countP_cons

theorem Part.withHold_onCount (s : Part) (h : Hold) (n : LoadId) :
    (s.withHold h).onCount n = s.onCount n + if h.kind = .keepOn && s.covers h.target n then 1 else 0 :=
  s.countP_withHold h _

theorem Part.withHold_offCount (s : Part) (h : Hold) (n : LoadId) :
    (s.withHold h).offCount n = s.offCount n + if h.kind = .keepOff && s.covers h.target n then 1 else 0 :=
  s.countP_withHold h _

theorem Part.withHold_groupOnCount (s : Part) (h : Hold) (g : GroupId) :
    (s.withHold h).groupOnCount g = s.groupOnCount g + if h.kind = .keepOn && h.target = .group g then 1 else 0 :=
  s.countP_withHold h _

theorem Part.withHold_onCount_new {n : LoadId} (on : h.kind = .keepOn) (covers : s.covers h.target n = true)
    (free : s.onCount n = 0) : (s.withHold h).onCount n = 1 := by
  rw [s.withHold_onCount h, on, covers, free]
  rfl

theorem Part.withHold_offCount_new {n : LoadId} (off : h.kind = .keepOff) (covers : s.covers h.target n = true)
    (free : s.offCount n = 0) : (s.withHold h).offCount n = 1 := by
  rw [s.withHold_offCount h, off, covers, free]
  rfl

theorem Part.withHold_offCount_on (on : h.kind = .keepOn) (n : LoadId) : (s.withHold h).offCount n = s.offCount n := by
  rw [s.withHold_offCount h, on]
  rfl

theorem Part.reportPlacement_keepOff (s : Part) (off : h.kind = .keepOff) : s.reportPlacement h =
    ((s.covered h.target).filter fun n => s.offCount n = 1).foldl Part.reportKeepOff s := by
  unfold Part.reportPlacement
  rw [off]

theorem Part.reportPlacement_keepOn (s : Part) (on : h.kind = .keepOn) (single : h.target.isGroup = false) :
    s.reportPlacement h = ((s.covered h.target).filter fun n => s.onCount n = 1).foldl (fun s n => s.enqueue n .hold) s := by
  unfold Part.reportPlacement
  rw [on]
  cases target : h.target with
  | group g => rw [target] at single; cases single
  | load n => rfl
  | zone z => rfl

theorem Part.reportPlacement_load (s : Part) {n : LoadId} (on : h.kind = .keepOn) (target : h.target = .load n) :
    s.reportPlacement h = if s.onCount n = 1 then s.enqueue n .hold else s := by
  rw [s.reportPlacement_keepOn on (by rw [target]; rfl), target, s.covered_load]
  split
  · next one => rw [filter_alone (decide_eq_true one)]; rfl
  · next more => rw [List.filter_cons_of_neg (by simpa using more)]; rfl

theorem Part.reportPlacement_group (s : Part) {g : GroupId} (on : h.kind = .keepOn) (target : h.target = .group g) :
    s.reportPlacement h = if s.groupOnCount g = 1 then s.floorRequest g (s.floorOrigin g) else s := by
  unfold Part.reportPlacement
  rw [on, target]

end

/-! ## KEEP_OFF reported (R34, R63) -/

section
variable {s t : Part} {m n : LoadId}

theorem Part.keepOffStop_load (s : Part) (m n : LoadId) :
    (s.keepOffStop m).load n = if n = m ∧ (s.load m).phase.running = true then
      (if s.stopConditions m then { s.load m with phase := .stopping s.now, stopPending := false, changed := true }
        else { s.load m with stopPending := true }) else s.load n := by
  unfold Part.keepOffStop
  by_cases runs : (s.load m).phase.running = true
  · rw [if_pos runs]
    split
    · rw [Part.enterStopping_load]
      by_cases is : n = m <;> simp [is, runs]
    · rw [Part.setLoad_load]
      by_cases is : n = m <;> simp [is, runs]
  · rw [if_neg runs, if_neg fun both => runs both.2]

theorem Part.keepOffStop_queuedLoads (s : Part) (m : LoadId) : (s.keepOffStop m).queuedLoads = s.queuedLoads := by
  unfold Part.keepOffStop
  split
  · split
    · exact s.enterStopping_queuedLoads m
    · rfl
  · rfl

theorem Part.follows_setPending (runs : (s.load n).phase.running = true) (live : s.mode ≠ .setup) :
    s.Follows (s.setLoad n { s.load n with stopPending := true }) := by
  have load (k : LoadId) : (s.setLoad n { s.load n with stopPending := true }).load k =
      { s.load k with stopPending := if k = n then true else (s.load k).stopPending } := by
    rw [Part.setLoad_load]
    by_cases is : k = n <;> simp [is]
  have phase (k : LoadId) : ((s.setLoad n { s.load n with stopPending := true }).load k).phase = (s.load k).phase := by
    rw [load]
  refine ⟨(s.loadWork_setLoad n _).modeWork, rfl, id, fun ok => ?_, fun k => .inl (phase k), fun k => ?_, fun k h => ?_,
    fun k _ _ => ?_, fun k _ still out => ?_, fun k runs out => ⟨.inl (by rw [phase]; exact runs), out⟩, rfl, id,
    fun _ _ _ _ => ⟨rfl, rfl⟩, id⟩
  · refine ((Part.keeps_setLoad (r := { s.load n with stopPending := true }) (fun ok => ?_) fun _ => Iff.rfl).plant ok).1
    exact { ok.loads n with pending := fun _ => runs, setup := fun setup => absurd setup live }
  · rw [load]
  · rw [load]; exact h
  · rw [load]
  · have other : k ≠ n := fun is => by rw [is, runs] at still; cases still
    rw [load, if_neg other]
    exact ⟨rfl, rfl, rfl, out⟩

theorem Part.follows_keepOffStop (live : s.mode ≠ .setup) (m : LoadId) : s.Follows (s.keepOffStop m) := by
  unfold Part.keepOffStop
  split
  · next runs =>
    split
    · exact Part.follows_enterStopping runs live
    · exact Part.follows_setPending runs live
  · exact .refl s

/-- A load newly kept off: stopped, or withdrawn, the need review not yet taken (R34, R63). -/
def Part.keptOff (s : Part) (m : LoadId) : Part :=
  if ((s.keepOffStop m).load m).phase = .queued then (s.keepOffStop m).withdraw m .keepOff else s.keepOffStop m

theorem Part.reportKeepOff_eq (s : Part) (m : LoadId) : s.reportKeepOff m = (s.keptOff m).needReview := rfl

theorem Part.keptOff_queued (queued : (s.load m).phase = .queued) : s.keptOff m = s.withdraw m .keepOff := by
  have same : s.keepOffStop m = s := if_neg (by rw [queued]; nofun)
  rw [Part.keptOff, same, if_pos queued]

theorem Part.keptOff_unqueued (up : (s.load m).phase ≠ .queued) : s.keptOff m = s.keepOffStop m := by
  refine if_neg fun queued => up ?_
  rw [Part.keepOffStop_load] at queued
  split at queued
  · split at queued
    · cases queued
    · exact queued
  · exact queued

theorem Part.follows_keptOff (ok : s.Sound) (live : s.mode ≠ .setup) (m : LoadId) : s.Follows (s.keptOff m) := by
  by_cases queued : (s.load m).phase = .queued
  · rw [Part.keptOff_queued queued]
    exact (Part.asks_withdraw (.inl ((ok.queued m).1 queued)) rfl).follows
  · rw [Part.keptOff_unqueued queued]
    exact Part.follows_keepOffStop live m

theorem Part.follows_reportKeepOff (ok : s.Sound) (live : s.mode ≠ .setup) (m : LoadId) :
    s.Follows (s.reportKeepOff m) := (Part.follows_keptOff ok live m).trans (Part.asks_needReview _).follows

/-- A report touches the state and the pending stop of a load that is up by its own stop alone. -/
theorem Part.reportKeepOff_up (ok : s.Sound) (up : (s.load n).phase ≠ .off)
    (out : n ∉ s.queuedLoads) (m : LoadId) : ((s.reportKeepOff m).load n).phase = ((s.keepOffStop m).load n).phase ∧
      ((s.reportKeepOff m).load n).stopPending = ((s.keepOffStop m).load n).stopPending := by
  have kept {u v : Part} (asks : u.Asks v) (up : (u.load n).phase ≠ .off) (out : n ∉ u.queuedLoads) :
      (v.load n).phase = (u.load n).phase ∧ (v.load n).stopPending = (u.load n).stopPending ∧ n ∉ v.queuedLoads :=
    ⟨(asks.kept n up out).1, by rw [asks.record n], (asks.kept n up out).2.2⟩
  have first : ((s.keptOff m).load n).phase = ((s.keepOffStop m).load n).phase ∧
      ((s.keptOff m).load n).stopPending = ((s.keepOffStop m).load n).stopPending ∧ n ∉ (s.keptOff m).queuedLoads := by
    by_cases queued : (s.load m).phase = .queued
    · have same : s.keepOffStop m = s := if_neg (by rw [queued]; nofun)
      rw [Part.keptOff_queued queued, same]
      exact kept (Part.asks_withdraw (.inl ((ok.queued m).1 queued)) rfl) up out
    · rw [Part.keptOff_unqueued queued]
      exact ⟨rfl, rfl, by rw [Part.keepOffStop_queuedLoads]; exact out⟩
  obtain ⟨phase, pending, out'⟩ := first
  have up' : ((s.keptOff m).load n).phase ≠ .off := by
    rw [phase, Part.keepOffStop_load]
    split
    · next both => split
                   · nofun
                   · rw [← both.1]; exact up
    · exact up
  obtain ⟨phase', pending', -⟩ := kept (Part.asks_needReview (s.keptOff m)) up' out'
  rw [Part.reportKeepOff_eq]
  exact ⟨phase'.trans phase, pending'.trans pending⟩

theorem Part.keptOff_queuedOrFailed (m : LoadId) (start : n ∈ s.queuedLoads ∨ s.failed) :
    n ∈ (s.keptOff m).queuedLoads ∨ (s.keptOff m).failed := by
  by_cases queued : (s.load m).phase = .queued
  · refine .inr ?_
    rw [Part.keptOff_queued queued, Part.failed, s.withdraw_raises m rfl rfl]
    exact Part.raise_pending _ (.startFailed m .keepOff)
  · rw [Part.keptOff_unqueued queued, Part.keepOffStop_queuedLoads]
    refine start.imp_right fun failed => ?_
    unfold Part.keepOffStop
    split
    · split
      · simpa [Part.failed, Part.enterStopping] using failed
      · exact failed
    · exact failed

theorem Part.reportKeepOff_queuedOrFailed (m : LoadId) (start : n ∈ s.queuedLoads ∨ s.failed) :
    n ∈ (s.reportKeepOff m).queuedLoads ∨ (s.reportKeepOff m).failed :=
  (Part.asked_needReview _).queuedOrFailed id (Part.keptOff_queuedOrFailed m start)

theorem Part.keptOff_atRest (rests : s.atRest n) (m : LoadId) : (s.keptOff m).atRest n := by
  by_cases queued : (s.load m).phase = .queued
  · rw [Part.keptOff_queued queued, Part.withdraw_eq rfl]
    refine Part.atRest_settleOrphans _ _ ?_
    split <;> exact rests.dropEntry m
  · rw [Part.keptOff_unqueued queued]
    refine ⟨?_, by rw [Part.keepOffStop_queuedLoads]; exact rests.2⟩
    rw [Part.keepOffStop_load, if_neg]
    · exact rests.1
    · rintro ⟨is, runs⟩
      rw [← is, rests.1] at runs; cases runs

theorem Part.reportKeepOff_atRest (ok : s.Sound) (live : s.mode ≠ .setup) (bars : s.barred n) (rests : s.atRest n)
    (m : LoadId) : (s.reportKeepOff m).atRest n := by
  have follows := Part.follows_keptOff ok live m
  exact (Part.asked_needReview _).atRest (follows.sound ok) (follows.barred ok bars) (Part.keptOff_atRest rests m)

end

end Sys2Proof.Machine
end

section
/-! What a placement asks for, from its reports to the close of the command (R34, R35, R61 to R63, R80, R83, R84). -/

namespace Sys2Proof.Machine

/-- Requests of origin HOLD. -/
abbrev Licence.holds : Licence := { high := fun o => o = .hold }

section
variable {s t : Part} {n : LoadId}

/-! ## A load newly kept on (R61, R80) -/

/-- The load is queued by a hold, or a need of it cannot be met and it is back in OFF with START_FAILED. -/
def Part.heldOn (s : Part) (n : LoadId) : Prop :=
  (∃ e, s.entry? n = some e ∧ e.origin = .hold) ∨ (s.unmet n ∧ s.atRest n ∧ s.failed)

theorem Part.heldOn.asked (h : s.heldOn n) (ok : s.Sound) (asked : s.Asked .holds t) : t.heldOn n := by
  obtain ⟨e, found, origin⟩ | ⟨unmet, rests, failed⟩ := h
  · exact .inl ⟨e, asked.entry ok (by rw [origin]; nofun) id (fun _ _ => by rw [origin]; rfl) found, origin⟩
  · exact .inr ⟨asked.asks.follows.unmet ok unmet, asked.atRest ok unmet.barred rests, asked.asks.failed failed⟩

theorem Part.heldOn.closes (h : s.heldOn n) (ok : s.Sound) (closes : s.Closes t) : t.heldOn n := by
  obtain ⟨e, found, origin⟩ | ⟨unmet, rests, failed⟩ := h
  · exact .inl ⟨e, closes.entry ok (by rw [origin]; nofun) found, origin⟩
  · exact .inr ⟨closes.follows.unmet ok unmet, closes.atRest ok unmet.barred rests, closes.follows.failed failed⟩

/-- A request by a hold of an OFF load that it backs makes an entry, which its needs may take back (R80, R82). -/
theorem Part.heldOn_enqueue_off (ok : s.Sound) (live : s.mode ≠ .setup) (off : (s.load n).phase = .off)
    (free : s.offCount n = 0) (backed : s.backed n = true) : (s.enqueue n .hold).heldOn n := by
  have out : n ∉ s.queuedLoads := fun listed => by rw [(ok.queued n).2 listed] at off; cases off
  have entered := (Part.asks_newEntry off live .hold).sound ok
  have new : s.enqueue n .hold = Part.enqueueNew (Part.request 64) s n .hold := by
    rw [Part.enqueue, Part.request_off 64 live off free]
    simp only [Part.requestOff, backed, if_true]
  rw [new, Part.enqueueNew]
  split
  · have pulled : (s.newEntry n .hold).Asked .holds (Part.pullNeeds (Part.request 64) (s.newEntry n .hold) n).startScan :=
      (Part.asked_pullNeeds _ (fun s m _ rank => Part.asked_request 64 s m rank) _ n).tail (.scan _)
    exact Part.heldOn.asked (.inl (Part.entry?_newEntry_self ok out .hold)) entered pulled
  · next unmet =>
    have listed : n ∈ (s.newEntry n .hold).queuedLoads :=
      (s.newEntry_queuedLoads n .hold).mem_iff.2 List.mem_cons_self
    refine .inr ⟨(Part.asks_withdraw (.inl listed) rfl).follows.unmet entered (by simpa [Part.unmet] using unmet),
      Part.atRest_withdraw _ n rfl, ?_⟩
    rw [Part.failed, Part.withdraw_raises _ n rfl rfl]
    exact Part.raise_pending _ (.startFailed n .needLost)

theorem Part.enqueue_queued (live : s.mode ≠ .setup) (queued : (s.load n).phase = .queued) {e : Entry}
    (found : s.entry? n = some e) (o : Origin) : s.enqueue n o = s.setOrigin n (e.origin.merge o) := by
  rw [Part.enqueue, Part.request, if_neg live, queued]
  simp only [found]

theorem Part.heldOn_enqueue_queued (live : s.mode ≠ .setup) (queued : (s.load n).phase = .queued) {e : Entry}
    (found : s.entry? n = some e) (own : e.origin ≠ .command ∧ e.origin ≠ .call) : (s.enqueue n .hold).heldOn n := by
  refine .inl ⟨{ e with origin := .hold }, ?_, rfl⟩
  have merged : e.origin.merge .hold = .hold := by
    cases origin : e.origin <;> simp_all [Origin.merge, Origin.high]
  rw [Part.enqueue_queued live queued found, merged, Part.entry?_setOrigin, found, Option.map_some,
    if_pos (Part.entry?_some found).2]

/-- Requests by a hold for several loads come to each that is OFF and not kept off. -/
theorem Part.heldOn_foldl {l : List LoadId} (ok : s.Sound) (live : s.mode ≠ .setup) (listed : n ∈ l)
    (off : (s.load n).phase = .off) (free : s.offCount n = 0) (backed : s.backed n = true) :
    (l.foldl (fun s n => s.enqueue n .hold) s).heldOn n ∧
      s.Asked .holds (l.foldl (fun s n => s.enqueue n .hold) s) := by
  have asked (u : Part) (m : LoadId) : u.Asked .holds (u.enqueue m .hold) := u.asked_enqueue m fun _ => rfl
  have out : s.entry? n = none := Part.entry?_none.2 fun listed => by rw [(ok.queued n).2 listed] at off; cases off
  have reach (u : Part) (run : s.Asked .holds u) : (u.enqueue n .hold).heldOn n := by
    have work := run.asks.work
    obtain ⟨-, -, -, -, -, offCount, -⟩ := work.modeWork.reads work.holds
    have live : u.mode ≠ .setup := by rw [work.mode]; exact live
    have sound := run.asks.sound ok
    obtain off | queued := run.asks.rests (.inl off)
    · exact Part.heldOn_enqueue_off sound live off (by rw [offCount]; exact free)
        (by rw [work.modeWork.backed work.holds]; exact backed)
    · obtain ⟨e, found⟩ := Option.isSome_iff_exists.1 (Part.entry?_isSome.2 ((sound.queued n).1 queued))
      refine Part.heldOn_enqueue_queued live queued found ?_
      exact run.origin (own := fun o => o ≠ .command ∧ o ≠ .call) ok (fun o low => by cases o <;> simp_all [Origin.high])
        (fun o is => by rw [show o = .hold from is]; simp) (by simp [out]) e found
  obtain ⟨run, held⟩ := foldl_reaches (f := fun (s : Part) n => s.enqueue n .hold) (P := fun u => s.Asked .holds u)
    (Q := fun u => u.heldOn n) (fun u m run => run.trans (asked u m)) reach
    (fun u m run held => held.asked (run.asks.sound ok) (asked u m)) listed (b := s) .refl
  exact ⟨held, run⟩

/-! ## One load asked for (R35, R61, R80) -/

theorem Origin.merge_hold (o : Origin) : o.merge .hold = o.withHold := by
  cases o <;> rfl

theorem Origin.withHold_high (o : Origin) : o.withHold.high = true := by
  cases o <;> rfl

theorem LoadRecord.keptRequest_hold (r : LoadRecord) :
    r.keptRequest .hold = (r.heldEnqueue.map Origin.withHold).getD .hold := by
  unfold LoadRecord.keptRequest
  cases r.heldEnqueue with
  | none => rfl
  | some o => exact o.merge_hold

theorem Part.enqueue_stopping (live : s.mode ≠ .setup) (stopping : (s.load n).phase.isStopping = true) (o : Origin) :
    s.enqueue n o = s.setLoad n { s.load n with heldEnqueue := some ((s.load n).keptRequest o) } := by
  rw [Part.enqueue, Part.request, if_neg live]
  cases phase : (s.load n).phase <;> simp only [phase, LoadPhase.isStopping, Bool.false_eq_true] at stopping ⊢
  rfl

/-- A request of a load that is neither OFF nor QUEUED leaves the queue as it is. -/
theorem Part.enqueue_queue (away : (s.load n).phase ≠ .off ∧ (s.load n).phase ≠ .queued) (o : Origin) :
    (s.enqueue n o).dgv.queue = s.dgv.queue := by
  rw [Part.enqueue, Part.request]
  split
  · rfl
  · split
    · next off => exact absurd off away.1
    · next queued => exact absurd queued away.2
    · rfl
    · rfl

/-- Asking for OFF members ends once there are enough. -/
theorem Part.askOffMembers_enough (ask : Part → LoadId → Origin → Part) (s u : Part) (g : GroupId) (o : Origin)
    (l : List LoadId) {count : Nat} (enough : (s.group g).required ≤ count) :
    l.foldl (fun (acc : Part × Nat) m =>
      if acc.2 < (s.group g).required && (acc.1.load m).phase = .off && acc.1.available 64 m then
        (ask acc.1 m o, acc.2 + 1)
      else acc) (u, count) = (u, count) := by
  induction l with
  | nil => rfl
  | cons m l ih =>
    rw [List.foldl_cons, if_neg (by simp [Nat.not_lt.2 enough])]
    exact ih

/-- A floor that is met asks for no load (R83). -/
theorem Part.floorRequest_met {g : GroupId} (met : (s.group g).required ≤ s.floorCount g) (o : Origin) :
    s.floorRequest g o = s := by
  unfold Part.floorRequest
  split
  · rfl
  · rw [Part.askOffMembers, Part.askOffMembers_enough _ _ _ _ _ _ met]

end

/-! ## The clauses of a KEEP_ON -/

theorem Part.mem_closureLoads {s : Part} {x : Target} {n : LoadId} (covers : s.covers x n = true) (k : Nat) :
    n ∈ s.closureLoads x k := by
  induction k with
  | zero => exact Part.mem_covered.2 covers
  | succ k ih => simp [Part.closureLoads, allLoads, ih]

section
variable {s t : Part} {h : Hold} {n : LoadId} (ok : s.Sound) (live : s.mode ≠ .setup) (on : h.kind = .keepOn)
  (closes : ((s.withHold h).reportPlacement h).Closes t)
include live on closes

include ok in
theorem Part.placement_off (agrees : s.keepOnConflict h.target = false) (single : h.target.isGroup = false)
    (covers : s.covers h.target n = true) (new : s.onCount n = 0) (off : (s.load n).phase = .off) : t.heldOn n := by
  have free : s.offCount n = 0 := by
    unfold Part.keepOnConflict at agrees
    rw [Bool.or_eq_false_iff] at agrees
    simpa using List.any_eq_false.1 agrees.1 n (Part.mem_closureLoads covers 63)
  have one := Part.withHold_onCount_new (h := h) on covers new
  have listed : n ∈ (s.covered h.target).filter fun n => (s.withHold h).onCount n = 1 :=
    List.mem_filter.2 ⟨Part.mem_covered.2 covers, decide_eq_true one⟩
  have backed : (s.withHold h).backed n = true := by simp [Part.backed, one]
  have ok' := Part.withHold_sound (h := h) ok
  obtain ⟨held, run⟩ := Part.heldOn_foldl (s := s.withHold h) ok' live listed off
    (by rw [Part.withHold_offCount_on on]; exact free) backed
  have all := (s.withHold h).reportPlacement_keepOn on single
  rw [show (s.withHold h).covered h.target = s.covered h.target from rfl] at all
  rw [← all] at held run
  exact held.closes (run.asks.sound ok') closes

include ok in
theorem Part.placement_queued (target : h.target = .load n) (new : s.onCount n = 0)
    (queued : (s.load n).phase = .queued) {e : Entry} (found : s.entry? n = some e) :
    t.entry? n = some { e with origin := e.origin.withHold } := by
  have one := Part.withHold_onCount_new (h := h) on (by rw [target]; exact decide_eq_true rfl) new
  have asked : (s.withHold h).reportPlacement h = (s.withHold h).setOrigin n e.origin.withHold := by
    rw [Part.reportPlacement_load _ on target, if_pos one, Part.enqueue_queued (s := s.withHold h) live queued found,
      Origin.merge_hold]
  refine closes.entry ?_ (e := { e with origin := e.origin.withHold }) (fun p pulled => ?_) ?_
  · rw [asked]
    exact (Part.asks_setOrigin _ _ _).sound (Part.withHold_sound ok)
  · have := e.origin.withHold_high
    rw [show e.origin.withHold = .pull p from pulled] at this
    cases this
  · rw [asked, Part.entry?_setOrigin, show (s.withHold h).entry? n = some e from found, Option.map_some,
      if_pos (Part.entry?_some found).2]

include ok in
theorem Part.placement_stopping (target : h.target = .load n) (new : s.onCount n = 0)
    (stopping : (s.load n).phase.isStopping = true) :
    (t.load n).heldEnqueue = some (((s.load n).heldEnqueue.map Origin.withHold).getD .hold) := by
  have one := Part.withHold_onCount_new (h := h) on (by rw [target]; exact decide_eq_true rfl) new
  have asked : (s.withHold h).reportPlacement h = (s.withHold h).setLoad n
      { s.load n with heldEnqueue := some ((s.load n).keptRequest .hold) } := by
    rw [Part.reportPlacement_load _ on target, if_pos one, Part.enqueue_stopping (s := s.withHold h) live stopping]
    rfl
  have sound : ((s.withHold h).reportPlacement h).Sound := by
    rw [asked]
    exact (Part.asks_holdRequest (s := s.withHold h) stopping _).sound (Part.withHold_sound ok)
  rw [← LoadRecord.keptRequest_hold]
  refine (closes.keptRequest sound ?_ ?_ ?_).2
  · rw [LoadRecord.keptRequest_hold]
    cases (s.load n).heldEnqueue with
    | none => rfl
    | some o => exact o.withHold_high
  · rw [asked, Part.setLoad_load, if_pos rfl]; exact stopping
  · rw [asked, Part.setLoad_load, if_pos rfl]

omit closes live in
theorem Part.placement_other (target : h.target = .load n)
    (away : 0 < s.onCount n ∨ ((s.load n).phase ≠ .off ∧ (s.load n).phase ≠ .queued)) :
    ((s.withHold h).reportPlacement h).dgv.queue = s.dgv.queue := by
  rw [Part.reportPlacement_load _ on target]
  split
  · next one =>
    obtain more | away := away
    · have := s.withHold_onCount h n
      rw [on, target] at this
      simp [Part.covers] at this
      omega
    · exact Part.enqueue_queue (s := s.withHold h) away .hold
  · rfl

end

end Sys2Proof.Machine
end

section
/-! The clauses of a floor newly held and of a KEEP_OFF (R34, R62, R63, R83, R84). -/

namespace Sys2Proof.Machine

section
variable {s t : Part} {h : Hold}

/-! ## A group newly held (R62, R83) -/

theorem Part.withHold_floorOrigin {g : GroupId} (on : h.kind = .keepOn) (target : h.target = .group g)
    (owner : h.owner = .supervisor) : (s.withHold h).floorOrigin g = .hold := by
  refine if_neg fun all => ?_
  have mine := List.all_eq_true.1 all h ((insertHold_perm h s.holds).mem_iff.2 List.mem_cons_self)
  simp [on, target, owner] at mine

theorem Part.placement_floor {g : GroupId} {j : LoadId} (ok : s.Sound) (live : s.mode ≠ .setup) (on : h.kind = .keepOn)
    (closes : ((s.withHold h).reportPlacement h).Closes t) (target : h.target = .group g) (owner : h.owner = .supervisor)
    (new : s.groupOnCount g = 0) (short : s.floorCount g < (s.group g).required) (member : j ∈ s.members g)
    (off : (s.load j).phase = .off) (free : s.offCount j = 0) (alone : (s.config j).needs = [])
    (first : ∀ m ∈ s.members g, m < j → (s.load m).phase ≠ .off) : ∃ e, t.entry? j = some e ∧ e.origin = .hold := by
  have one : (s.withHold h).groupOnCount g = 1 := by
    rw [s.withHold_groupOnCount h, on, target, new]
    simp
  have asked : (s.withHold h).reportPlacement h = (s.withHold h).floorRequest g .hold := by
    rw [Part.reportPlacement_group _ on target, if_pos one, Part.withHold_floorOrigin on target owner]
  have ok' := Part.withHold_sound (h := h) ok
  obtain ⟨e, found, origin⟩ := Part.floorRequest_first (s := s.withHold h) (o := .hold) ok' live (.inl rfl)
    (one ▸ Nat.one_pos) short member off (by rw [Part.withHold_offCount_on on]; exact free) alone first
  rw [asked] at closes
  exact ⟨e, closes.entry ((Part.asks_floorRequest _ g .hold).sound ok') (by rw [origin]; nofun) found, origin⟩

theorem Part.placement_met {g : GroupId} (on : h.kind = .keepOn) (target : h.target = .group g)
    (met : 0 < s.groupOnCount g ∨ (s.group g).required ≤ s.floorCount g) :
    ((s.withHold h).reportPlacement h).dgv.queue = s.dgv.queue := by
  rw [Part.reportPlacement_group _ on target]
  split
  · next one =>
    obtain more | enough := met
    · rw [s.withHold_groupOnCount h, on, target] at one
      simp at one
      omega
    · rw [Part.floorRequest_met (s := s.withHold h) enough]
      rfl
  · rfl

end

/-! ## Loads newly kept off (R34, R63) -/

section
variable {s t : Part} {n : LoadId}

/-- A KEEP_OFF stop of the load has begun at a second, or is pending (R34). -/
def Part.stopsOrPends (s : Part) (n : LoadId) (second : Nat) : Prop :=
  (s.load n).phase = .stopping second ∨ ((s.load n).phase.running = true ∧ (s.load n).stopPending = true)

theorem Part.unqueued_of_running (ok : s.Sound) (runs : (s.load n).phase.running = true) :
    (s.load n).phase ≠ .off ∧ n ∉ s.queuedLoads :=
  ⟨fun off => (by rw [off] at runs; cases runs), fun listed => by rw [(ok.queued n).2 listed] at runs; cases runs⟩

theorem Part.unqueued_of_stopping {second : Nat} (ok : s.Sound) (stops : (s.load n).phase = .stopping second) :
    (s.load n).phase ≠ .off ∧ n ∉ s.queuedLoads :=
  ⟨by rw [stops]; nofun, fun listed => by rw [(ok.queued n).2 listed] at stops; cases stops⟩

theorem Part.reportKeepOff_runs (ok : s.Sound) (runs : (s.load n).phase.running = true) :
    (s.reportKeepOff n).stopsOrPends n s.now ∧
      (s.stopConditions n = true → ((s.reportKeepOff n).load n).phase = .stopping s.now) ∧
      (s.stopConditions n = false → ((s.reportKeepOff n).load n).phase.running = true ∧
        ((s.reportKeepOff n).load n).stopPending = true) := by
  obtain ⟨up, out⟩ := Part.unqueued_of_running ok runs
  obtain ⟨phase, pending⟩ := Part.reportKeepOff_up ok up out n
  rw [Part.keepOffStop_load, if_pos ⟨rfl, runs⟩] at phase pending
  cases may : s.stopConditions n with
  | true =>
    rw [if_pos may] at phase
    exact ⟨.inl phase, fun _ => phase, nofun⟩
  | false =>
    rw [if_neg (by rw [may]; nofun)] at phase pending
    have still : ((s.reportKeepOff n).load n).phase.running = true := by rw [phase]; exact runs
    exact ⟨.inr ⟨still, pending⟩, nofun, fun _ => ⟨still, pending⟩⟩

theorem Part.stopsOrPends.reportKeepOff (h : s.stopsOrPends n s.now) (ok : s.Sound) (m : LoadId) :
    (s.reportKeepOff m).stopsOrPends n s.now := by
  obtain stops | ⟨runs, pends⟩ := h
  · obtain ⟨up, out⟩ := Part.unqueued_of_stopping ok stops
    obtain ⟨phase, -⟩ := Part.reportKeepOff_up ok up out m
    rw [Part.keepOffStop_load, if_neg (by rintro ⟨rfl, runs⟩; rw [stops] at runs; cases runs)] at phase
    exact .inl (phase.trans stops)
  · by_cases is : m = n
    · subst is; exact (Part.reportKeepOff_runs ok runs).1
    · obtain ⟨up, out⟩ := Part.unqueued_of_running ok runs
      obtain ⟨phase, pending⟩ := Part.reportKeepOff_up ok up out m
      rw [Part.keepOffStop_load, if_neg fun both => is both.1.symm] at phase pending
      exact .inr ⟨by rw [phase]; exact runs, pending.trans pends⟩

theorem Part.stopsOrPends.closes {second : Nat} (h : s.stopsOrPends n second) (ok : s.Sound) (now : s.now = second)
    (closes : s.Closes t) : t.stopsOrPends n second := by
  obtain stops | ⟨runs, pends⟩ := h
  · obtain ⟨up, out⟩ := Part.unqueued_of_stopping ok stops
    exact .inl ((closes.follows.kept n up (by rw [stops]; rfl) out).1.trans stops)
  · obtain ⟨still, pending⟩ | stops := closes.goesOn_or_stops ok runs
    · exact .inr ⟨still, pending.trans pends⟩
    · exact .inl (now ▸ stops)

/-- Several loads newly kept off: each of them that runs is stopped, or has its stop pending. -/
theorem Part.foldl_reportKeepOff_runs {l : List LoadId} (ok : s.Sound) (live : s.mode ≠ .setup) (listed : n ∈ l)
    (runs : (s.load n).phase.running = true) : (l.foldl Part.reportKeepOff s).stopsOrPends n s.now ∧
      (s.stationOnline n = false → ((l.foldl Part.reportKeepOff s).load n).phase.running = true ∧
        ((l.foldl Part.reportKeepOff s).load n).stopPending = true) := by
  have out := (Part.unqueued_of_running ok runs).2
  have step (u : Part) (m : LoadId) (h : s.Follows u) : s.Follows (u.reportKeepOff m) :=
    h.trans (Part.follows_reportKeepOff (h.sound ok) (fun setup => live (h.setup setup)) m)
  have now (u : Part) (h : s.Follows u) : u.now = s.now := h.work.now
  constructor
  · refine (foldl_reaches (f := Part.reportKeepOff) (P := fun u => s.Follows u) (Q := fun u => u.stopsOrPends n s.now)
      step (fun u h => ?_) (fun u m h q => ?_) listed (.refl s)).2
    · obtain ⟨runs | stops, -⟩ := h.ran n runs out
      · rw [← now u h]; exact (Part.reportKeepOff_runs (h.sound ok) runs).1
      · rw [← now u h]
        exact Part.stopsOrPends.reportKeepOff (.inl (by rw [now u h]; exact stops)) (h.sound ok) n
    · rw [← now u h] at q ⊢
      exact q.reportKeepOff (h.sound ok) m
  · intro offline
    have waits (u : Part) (h : s.Follows u) : u.stopConditions n = false := by
      have same : u.stationOnline n = s.stationOnline n := by
        rw [Part.stationOnline, Part.station, h.work.flm]
        rfl
      rw [Part.stopConditions, same, offline]
      rfl
    have keeps (u : Part) (m : LoadId) (h : s.Follows u) (runs : (u.load n).phase.running = true) :
        ((u.reportKeepOff m).load n).phase.running = true ∧
          ((u.load n).stopPending = true → ((u.reportKeepOff m).load n).stopPending = true) := by
      by_cases is : m = n
      · subst is
        obtain ⟨still, pends⟩ := (Part.reportKeepOff_runs (h.sound ok) runs).2.2 (waits u h)
        exact ⟨still, fun _ => pends⟩
      · obtain ⟨up, out⟩ := Part.unqueued_of_running (h.sound ok) runs
        obtain ⟨phase, pending⟩ := Part.reportKeepOff_up (h.sound ok) up out m
        rw [Part.keepOffStop_load, if_neg fun both => is both.1.symm] at phase pending
        exact ⟨phase ▸ runs, fun pends => pending.trans pends⟩
    obtain ⟨⟨-, still⟩, pends⟩ := foldl_reaches (f := Part.reportKeepOff)
      (P := fun u => s.Follows u ∧ (u.load n).phase.running = true) (Q := fun u => (u.load n).stopPending = true)
      (fun u m ⟨h, runs⟩ => ⟨step u m h, (keeps u m h runs).1⟩)
      (fun u ⟨h, runs⟩ => ((Part.reportKeepOff_runs (h.sound ok) runs).2.2 (waits u h)).2)
      (fun u m ⟨h, runs⟩ pends => (keeps u m h runs).2 pends) listed ⟨.refl s, runs⟩
    exact ⟨still, pends⟩

/-- A load on a station that is not ONLINE is not stopped. -/
theorem Part.Closes.offline (h : s.Closes t) (ok : s.Sound) (runs : (s.load n).phase.running = true)
    (offline : s.stationOnline n = false) : s.goesOn t n :=
  (h.goesOn (Q := fun u => u.stationOnline n = false) ok runs
    (fun u _ off => by simp [Part.stopsNow, Part.idleStopDue, Part.stopConditions, off])
    (fun u v _ follows _ off => by rw [Part.stationOnline, Part.station, follows.work.flm]; exact off) offline).1

end

end Sys2Proof.Machine
end

section
/-! PLACE HOLD places: its record, its id and what FollowsPlacement says (R50, R53, R54, R60 to R63). -/

namespace Sys2Proof.Machine

/-! ## Loads withdrawn by a KEEP_OFF (R63, R84) -/

section
variable {s t : Part} {n : LoadId}

theorem Part.Follows.atRest {u : Part} (h : s.Follows u) (ok : s.Sound) (queued : (s.load n).phase = .queued)
    (out : n ∉ u.queuedLoads) : u.atRest n :=
  ⟨(h.rests (.inr queued)).resolve_right fun still => out (((h.sound ok).queued n).1 still), out⟩

theorem Part.Follows.offCount (h : s.Follows t) (n : LoadId) : t.offCount n = s.offCount n := by
  obtain ⟨-, -, -, -, -, offCount, -⟩ := h.work.reads h.holds
  exact offCount n

theorem Part.follows_foldl_reportKeepOff (ok : s.Sound) (live : s.mode ≠ .setup) (l : List LoadId) :
    s.Follows (l.foldl Part.reportKeepOff s) := by
  induction l generalizing s with
  | nil => exact .refl s
  | cons m l ih =>
    have first := Part.follows_reportKeepOff ok live m
    exact first.trans (ih (first.sound ok) fun setup => live (first.setup setup))

/-- A load queued when the reports begin is withdrawn by them where one report, of it or of a need, withdraws it. -/
theorem Part.foldl_reportKeepOff_withdraws {l : List LoadId} {m : LoadId} (ok : s.Sound) (live : s.mode ≠ .setup)
    (listed : m ∈ l) (queued : (s.load n).phase = .queued) (bars : s.barred n)
    (reach : ∀ u : Part, s.Follows u → n ∈ u.queuedLoads → (u.reportKeepOff m).atRest n ∧ (u.reportKeepOff m).failed) :
    s.Follows (l.foldl Part.reportKeepOff s) ∧ (l.foldl Part.reportKeepOff s).atRest n ∧
      (l.foldl Part.reportKeepOff s).failed := by
  have lives (u : Part) (h : s.Follows u) : u.mode ≠ .setup := fun setup => live (h.setup setup)
  have step (u : Part) (k : LoadId) (h : s.Follows u) : u.Follows (u.reportKeepOff k) :=
    Part.follows_reportKeepOff (h.sound ok) (lives u h) k
  have stays (u : Part) (k : LoadId) (h : s.Follows u) (done : u.atRest n ∧ u.failed) :
      (u.reportKeepOff k).atRest n ∧ (u.reportKeepOff k).failed :=
    ⟨Part.reportKeepOff_atRest (h.sound ok) (lives u h) (h.barred ok bars) done.1 k, (step u k h).failed done.2⟩
  have all := foldl_reaches (f := Part.reportKeepOff) (P := fun u => s.Follows u ∧ (n ∈ u.queuedLoads ∨ u.failed))
    (Q := fun u => u.atRest n ∧ u.failed)
    (fun u k ⟨h, there⟩ => ⟨h.trans (step u k h), Part.reportKeepOff_queuedOrFailed k there⟩)
    (fun u ⟨h, there⟩ => by
      by_cases still : n ∈ u.queuedLoads
      · exact reach u h still
      · exact stays u m h ⟨h.atRest ok queued still, there.resolve_left still⟩)
    (fun u k ⟨h, _⟩ done => stays u k h done) listed ⟨.refl s, .inl ((ok.queued n).1 queued)⟩
  exact ⟨all.1.1, all.2⟩

theorem Part.reportKeepOff_withdraws (ok : s.Sound) (live : s.mode ≠ .setup) (off : 0 < s.offCount n)
    (listed : n ∈ s.queuedLoads) : (s.reportKeepOff n).atRest n ∧ (s.reportKeepOff n).failed := by
  have out := Part.keptOff_queued ((ok.queued n).2 listed)
  have follows := Part.follows_keptOff ok live n
  have asked := Part.asked_needReview (s.keptOff n)
  have rests : (s.keptOff n).atRest n := out ▸ s.atRest_withdraw n rfl
  have failed : (s.keptOff n).failed := by
    rw [out, Part.failed, s.withdraw_raises n rfl rfl]
    exact Part.raise_pending _ (.startFailed n .keepOff)
  exact ⟨asked.atRest (follows.sound ok) (follows.barred ok (.inl off)) rests, asked.asks.failed failed⟩

/-- The report of a load kept off withdraws a queued load with a need that is not satisfiable (R84). -/
theorem Part.reportKeepOff_reviews {d : LoadId} (ok : s.Sound) (live : s.mode ≠ .setup) (unmet : s.unmet d)
    (listed : d ∈ s.queuedLoads) : (s.reportKeepOff n).atRest d ∧ (s.reportKeepOff n).failed := by
  have follows := Part.follows_keptOff ok live n
  by_cases still : d ∈ (s.keptOff n).queuedLoads
  · exact Part.needReview_unmet (follows.sound ok) (follows.unmet ok unmet) still
  · have asked := Part.asked_needReview (s.keptOff n)
    have failed := (Part.keptOff_queuedOrFailed (n := d) n (.inl listed)).resolve_left still
    exact ⟨asked.atRest (follows.sound ok) (follows.barred ok unmet.barred)
      (follows.atRest ok ((ok.queued d).2 listed) still), asked.asks.failed failed⟩

end

/-! ## The clauses of a KEEP_OFF -/

section
variable {s t : Part} {h : Hold} {n : LoadId} (ok : s.Sound) (live : s.mode ≠ .setup) (off : h.kind = .keepOff)
  (closes : ((s.withHold h).reportPlacement h).Closes t) (covers : s.covers h.target n = true) (new : s.offCount n = 0)
include ok live off closes covers new

omit ok live closes in
theorem Part.placement_listed : n ∈ ((s.withHold h).covered h.target).filter fun n => (s.withHold h).offCount n = 1 :=
  List.mem_filter.2 ⟨Part.mem_covered.2 covers, decide_eq_true (Part.withHold_offCount_new off covers new)⟩

omit ok live closes covers new in
theorem Part.withHold_stopConditions (n : LoadId) : (s.withHold h).stopConditions n = s.stopConditions n := by
  have groups (g : GroupId) : (s.withHold h).groupOnCount g = s.groupOnCount g := by
    rw [s.withHold_groupOnCount h, off]
    rfl
  simp only [Part.stopConditions, Part.dependentsAllowStop, Part.groupAllowsStop, Part.floorDemand, groups]
  rfl

theorem Part.placement_stopped (runs : (s.load n).phase.running = true) :
    t.stopsOrPends n s.now ∧
    (h.target = .load n → s.stopConditions n = true → (t.load n).phase = .stopping s.now) ∧
    (s.stationOnline n = false → (t.load n).phase.running = true ∧ (t.load n).stopPending = true) := by
  have listed := Part.placement_listed off covers new
  have asked := (s.withHold h).reportPlacement_keepOff off
  have ok' := Part.withHold_sound (h := h) ok
  obtain ⟨stops, offline⟩ := Part.foldl_reportKeepOff_runs (s := s.withHold h) ok' live listed runs
  have run := Part.follows_foldl_reportKeepOff (s := s.withHold h) ok' live
    (((s.withHold h).covered h.target).filter fun n => (s.withHold h).offCount n = 1)
  rw [← asked] at stops offline run
  refine ⟨stops.closes (run.sound ok') run.work.now closes, fun target may => ?_, fun unreached => ?_⟩
  · have alone : (s.withHold h).reportPlacement h = (s.withHold h).reportKeepOff n := by
      rw [asked, target, Part.covered_load, filter_alone (decide_eq_true
        (Part.withHold_offCount_new (h := h) off covers new))]
      rfl
    have first := (Part.reportKeepOff_runs (s := s.withHold h) ok' runs).2.1
      ((Part.withHold_stopConditions off n).trans may)
    rw [← alone] at first
    obtain ⟨up, out⟩ := Part.unqueued_of_stopping (run.sound ok') first
    exact (closes.follows.kept n up (by rw [first]; rfl) out).1.trans first
  · obtain ⟨still, pends⟩ := offline unreached
    have dark : ((s.withHold h).reportPlacement h).stationOnline n = false := by
      rw [Part.stationOnline, Part.station, run.work.flm]
      exact unreached
    obtain ⟨goes, same⟩ := closes.offline (run.sound ok') still dark
    exact ⟨goes, same.trans pends⟩

theorem Part.placement_withdrawn (queued : (s.load n).phase = .queued) : t.atRest n ∧ t.failed := by
  have listed := Part.placement_listed off covers new
  have ok' := Part.withHold_sound (h := h) ok
  have kept : 0 < (s.withHold h).offCount n := by rw [Part.withHold_offCount_new off covers new]; exact Nat.one_pos
  obtain ⟨run, rests, failed⟩ := Part.foldl_reportKeepOff_withdraws (s := s.withHold h) ok' live listed queued (.inl kept)
    fun u follows there => Part.reportKeepOff_withdraws (follows.sound ok') (fun setup => live (follows.setup setup))
      (follows.offCount n ▸ kept) there
  rw [← (s.withHold h).reportPlacement_keepOff off] at run rests failed
  exact ⟨closes.atRest (run.sound ok') (run.barred ok' (.inl kept)) rests, closes.follows.failed failed⟩

theorem Part.placement_needLost (dark : s.serving n = false) {d : LoadId} (queued : (s.load d).phase = .queued)
    (needs : .load n ∈ (s.config d).needs) : t.atRest d ∧ t.failed := by
  have listed := Part.placement_listed off covers new
  have ok' := Part.withHold_sound (h := h) ok
  have kept : 0 < (s.withHold h).offCount n := by rw [Part.withHold_offCount_new off covers new]; exact Nat.one_pos
  have unmet : (s.withHold h).unmet d := Part.unmet_of_need (s := s.withHold h) needs dark (Part.available_keptOff kept 64)
  obtain ⟨run, rests, failed⟩ := Part.foldl_reportKeepOff_withdraws (s := s.withHold h) ok' live listed queued
    unmet.barred fun u follows there => Part.reportKeepOff_reviews (follows.sound ok')
      (fun setup => live (follows.setup setup)) (follows.unmet ok' unmet) there
  rw [← (s.withHold h).reportPlacement_keepOff off] at run rests failed
  exact ⟨closes.atRest (run.sound ok') (run.barred ok' unmet.barred) rests, closes.follows.failed failed⟩

end

end Sys2Proof.Machine
end

section
/-! PLACE HOLD places: its record, its id, and what its reports leave at the close of the command (R50, R53, R54, R60 to
R63). -/

namespace Sys2Proof.Machine

/-! ## The next id (R50) -/

theorem stepId_eq {i : Nat} (low : 1 ≤ i) (high : i ≤ 65535) : stepId i = i % 65535 + 1 := by
  unfold stepId
  split <;> omega

theorem stepId_iterate {i : Nat} (low : 1 ≤ i) (high : i ≤ 65535) (k : Nat) :
    stepId^[k] i = (i - 1 + k) % 65535 + 1 := by
  induction k with
  | zero => simp only [Function.iterate_zero, id_eq]; omega
  | succ k ih =>
    rw [Function.iterate_succ_apply', ih, stepId_eq (by omega) (by omega)]
    omega

theorem freeId_range (live : List Nat) (fuel : Nat) {i : Nat} (low : 1 ≤ i) (high : i ≤ 65535) :
    1 ≤ freeId live fuel i ∧ freeId live fuel i ≤ 65535 := by
  induction fuel generalizing i with
  | zero => exact ⟨low, high⟩
  | succ fuel ih =>
    unfold freeId
    split
    · rw [stepId_eq low high]
      exact ih (by omega) (by omega)
    · exact ⟨low, high⟩

theorem freeId_live {live : List Nat} {fuel i : Nat} (found : freeId live fuel i ∈ live) :
    ∀ k < fuel, stepId^[k] i ∈ live := by
  induction fuel generalizing i with
  | zero => nofun
  | succ fuel ih =>
    unfold freeId at found
    split at found
    · next here =>
      rintro (_ | k) less
      · simpa using here
      · exact ih found k (by omega)
    · next free => exact absurd found (by simpa using free)

/-- With fewer live ids than tries, the next id is free. -/
theorem freeId_free {live : List Nat} {fuel i : Nat} (low : 1 ≤ i) (high : i ≤ 65535) (few : live.length < fuel)
    (short : fuel ≤ 65535) : freeId live fuel i ∉ live := by
  intro found
  have all := freeId_live found
  have apart : ((List.range fuel).map fun k => stepId^[k] i).Nodup := by
    refine List.Nodup.map_on (fun a ha b hb same => ?_) List.nodup_range
    rw [stepId_iterate low high, stepId_iterate low high] at same
    rw [List.mem_range] at ha hb
    omega
  have within : ((List.range fuel).map fun k => stepId^[k] i) ⊆ live := by
    intro j listed
    obtain ⟨k, less, rfl⟩ := List.mem_map.1 listed
    exact all k (List.mem_range.1 less)
  have := (List.subperm_of_subset apart within).length_le
  rw [List.length_map, List.length_range] at this
  omega

/-! ## What the reports leave at the close (R61 to R63) -/

section
variable {s t : Part} {h : Hold}

theorem Part.heldOn.queuedByHold {n : LoadId} (found : ∃ e, t.entry? n = some e ∧ e.origin = .hold) (ok : t.Sound) :
    t.queuedByHold n := by
  obtain ⟨e, there, origin⟩ := found
  obtain ⟨listed, is⟩ := Part.entry?_some there
  exact ⟨(ok.queued n).2 (is ▸ List.mem_map_of_mem listed), e, there, origin⟩

theorem Part.followsPlacement (sound : s.LoadsOk) (live : s.mode ≠ .setup) (owner : h.owner = .supervisor)
    (clear : s.conflicts h.kind h.target = false) (closes : ((s.withHold h).reportPlacement h).Closes t)
    (ok : t.Sound) (still : s.mode ≠ .wake → t.dgv.queue = ((s.withHold h).reportPlacement h).dgv.queue) :
    s.FollowsPlacement t h.kind h.target where
  off on single n covers new off := by
    have single : h.target.isGroup = false := by
      cases target : h.target with
      | group g => exact absurd target (single g)
      | load n => rfl
      | zone z => rfl
    have agrees : s.keepOnConflict h.target = false := by rw [on] at clear; exact clear
    refine (Part.placement_off sound.sound live on closes agrees single covers new off).imp
      (Part.heldOn.queuedByHold · ok) fun ⟨unmet, rests, failed⟩ => ⟨?_, rests.1, failed⟩
    have config : t.config n = s.config n := (closes.follows.work.config n).trans
      (((s.withHold h).loadWork_reportPlacement h).modeWork.config n)
    exact config ▸ unmet.needs
  queued on n target new queued e found := Part.placement_queued sound.sound live on closes target new queued found
  stopping on n target new stopping := Part.placement_stopping sound.sound live on closes target new stopping
  other on n target awake away := (still awake).trans (Part.placement_other on target away)
  floor on g target new short j member off free alone first := Part.heldOn.queuedByHold
    (Part.placement_floor sound.sound live on closes target owner new short member off free alone first) ok
  met on g target awake met := (still awake).trans (Part.placement_met on target met)
  stopped off n covers new runs := Part.placement_stopped sound.sound live off closes covers new runs
  withdrawn off n covers new queued := by
    obtain ⟨⟨rests, out⟩, failed⟩ := Part.placement_withdrawn sound.sound live off closes covers new queued
    exact ⟨rests, out, failed⟩
  needLost off n covers new dark d queued needs := by
    obtain ⟨rests, failed⟩ := Part.placement_needLost sound.sound live off closes covers new dark queued needs
    exact ⟨rests.1, failed⟩

theorem Part.FollowsPlacement.of_same {k : HoldKind} {x : Target} {u : Part} (h : s.FollowsPlacement t k x)
    (loads : u.load = t.load) (queue : u.dgv = t.dgv) (pending : u.atl = t.atl) : s.FollowsPlacement u k x := by
  have entry (n : LoadId) : u.entry? n = t.entry? n := by rw [Part.entry?, Part.entry?, queue]
  obtain ⟨off, queued, stopping, other, floor, met, stopped, withdrawn, needLost⟩ := h
  constructor <;>
    simp only [Part.queuedByHold, Part.startFailedRaised, loads, entry, queue, pending] <;> assumption

end

/-! ## The command -/

section
variable {s : State} {kind targetKind target : Byte} {duration : Half} {reason : Byte} {k : HoldKind} {x : Target}

theorem exec_placeHold_placed (can : s.canServe (.placeHold kind targetKind target duration reason) = true)
    (live : s.mode ≠ .setup) (read : checkTarget kind targetKind target = .ok (k, x)) (there : s.targetEmpty x = false)
    (new : s.matching k x .supervisor = none) (room : s.holds.length < 48) (clear : s.conflicts k x = false)
    {expiry : Option Nat} {clamped : Bool} (timed : expiryFor k duration.toNat s.minute = (expiry, clamped)) {h : Hold}
    (record : h = { id := s.nextId, kind := k, target := x, owner := .supervisor, expiry := expiry
                    placedAt := s.minute, renewals := 0, reason := reason.toNat }) :
    exec (.placeHold kind targetKind target duration reason) s =
      .next (s.answered (.placeHold kind targetKind target duration reason)
        (s.finish ((s.withHold h).reportPlacement h))
        { status := if clamped then .clamped else .ok
          data := Part.placedData (s.finish ((s.withHold h).reportPlacement h)) h false clamped }) := by
  show execPlaceHold kind targetKind target duration reason s = _
  rw [execPlaceHold, request_served can, if_neg live, read]
  simp only [Part.place_placed live there new room clear, timed, ← record, Part.afterPlacement]
  subst record
  rfl

end

/-- Settles O22: a placement's record is inserted, its reports are taken load by load, and what each report leaves
stays to the close of the command. -/
theorem placeHoldCreates : Obligations.PlaceHoldCreates := by
  intro s kind targetKind target duration reason k x can live read there new room clear d limit clamped expiry h
  have timed : expiryFor k duration.toNat s.minute = (expiry, clamped) := by
    by_cases zero : duration.toNat = 0
    · cases k <;> simp [expiryFor, expiry, clamped, limit, d, zero]
    · by_cases low : duration.toNat ≤ limit
      · cases k <;> simp_all [expiryFor, expiry, clamped, limit, d, Config.keepOnMax, Config.keepOffMax]
      · have past : min limit duration.toNat = limit := Nat.min_eq_left (Nat.le_of_not_le low)
        cases k <;> simp_all [expiryFor, expiry, clamped, limit, d, Config.keepOnMax, Config.keepOffMax]
        all_goals exact if_neg (Nat.not_le.2 low)
  have done := exec_placeHold_placed can live read there new room clear timed (h := h) rfl
  have follows := Part.follows_finish s.toPart ((s.withHold h).reportPlacement h)
  have reports := ((s.withHold h).loadWork_reportPlacement h)
  have closes := Part.closes_finish s.toPart ((s.withHold h).reportPlacement h)
  have calm (awake : s.mode ≠ .wake) := (Part.calms_finish (s := (s.withHold h).reportPlacement h) s.toPart
    (.inl (by rw [reports.mode]; exact awake))).1.queue
  have sound (ok : s.LoadsOk) : (s.finish ((s.withHold h).reportPlacement h)).Sound :=
    (closes.follows.sound (((s.withHold h).keeps_reportPlacement h live).plant (Part.withHold_sound ok.sound)).1)
  have gives (ok : s.LoadsOk) := Part.followsPlacement ok live rfl clear closes (sound ok) calm
  have whole := reports.modeWork.trans follows.work
  have table : (s.finish ((s.withHold h).reportPlacement h)).holds = insertHold h s.holds :=
    follows.holds.trans reports.holds
  clear calm closes
  generalize s.finish ((s.withHold h).reportPlacement h) = u at done follows gives whole table
  refine ⟨_, done, ?_, table, fun ok => ?_, fun ok => (gives ok).of_same rfl rfl rfl, ?_⟩
  · have shown : Part.placedData u h false clamped = u16 s.nextId ++ opt 4 u32 expiry ++
        opt 2 u16 (expiry.map fun e => e - s.minute) ++ flag false ++ flag clamped := by
      rw [Part.placedData, Part.minutesLeft, Part.minute, whole.now]
      rfl
    rw [← shown]
    rfl
  · obtain ⟨few, -, -, ⟨low, high⟩, -⟩ := ok
    have next : u.nextId = freeId ((insertHold h s.holds).map Hold.id) 49 (stepId s.nextId) := whole.nextId
    have start : 1 ≤ stepId s.nextId ∧ stepId s.nextId ≤ 65535 := by rw [stepId_eq low high]; omega
    have size : ((insertHold h s.holds).map Hold.id).length < 49 := by
      rw [List.length_map, (insertHold_perm h s.holds).length_eq, List.length_cons]
      omega
    obtain ⟨above, below⟩ := freeId_range ((insertHold h s.holds).map Hold.id) 49 start.1 start.2
    rw [← next] at above below
    refine ⟨above, below, fun h' listed is => freeId_free start.1 start.2 size (by omega) ?_⟩
    rw [← next]
    exact List.mem_map.2 ⟨h', table ▸ listed, is⟩
  · obtain ⟨power, flm, cfs, uptime, clock, records, lines, port⟩ := whole.sameOutside_answer
      (.placeHold kind targetKind target duration reason)
      { status := if clamped then .clamped else .ok, data := Part.placedData u h false clamped }
    exact ⟨power, flm, cfs, uptime, clock, records, lines, port⟩

end Sys2Proof.Machine
end

section
/-! START LOAD of a load that stays queued: alone, or pulling one load (R43, R79, R80, R82). -/

namespace Sys2Proof.Machine

section
variable {s t : Part} {n k : LoadId} {o : Origin}

/-! ## The close of a handling that leaves WAKE its work (R124) -/

theorem Part.Calms.wakeWork (h : s.Calms t) (works : s.wakeWork = true) : t.wakeWork = true := by
  unfold Part.wakeWork at works ⊢
  rw [h.queue, h.follows.starting]
  refine (Bool.or_eq_true _ _).mpr (((Bool.or_eq_true _ _).mp works).imp_right fun some => ?_)
  obtain ⟨k, listed, starts⟩ := List.any_eq_true.1 some
  refine List.any_eq_true.2 ⟨k, listed, ?_⟩
  simp only [Bool.and_eq_true, decide_eq_true_eq] at starts ⊢
  rw [h.still k (by rw [starts.1]; rfl)]
  exact starts

/-- The close of a handling that leaves WAKE its work, or is not in WAKE, works on the loads and the Governor, takes no
entry and no load that does not run, and raises nothing. -/
theorem Part.finish_settled (before : Part) (settled : s.wakeSettled) :
    s.LoadWork (before.finish s) ∧ s.Calms (before.finish s) ∧ (before.finish s).atl = s.atl := by
  have work := (before.loadWork_recheck s).trans (before.loadWork_recomputeDemand _)
  have calm := (before.calms_recheck s).trans (before.calms_recomputeDemand _)
  have still : (before.recomputeDemand (before.recheck s)).wakeSettled := fun wake => by
    rw [work.mode] at wake
    exact calm.wakeWork (settled wake)
  obtain ⟨_, _, _, _, stops⟩ := Part.stops_takeChecks 64 s (before.changedInputs s)
  rw [Part.finish, Part.wakeEndTest_settled still]
  refine ⟨work.trans (before.loadWork_settleChecks _), calm.trans (before.calms_settleChecks _), ?_⟩
  rw [Part.recheck, stops, Part.recomputeDemand]
  rfl

/-! ## A new entry (R79) -/

theorem Part.newEntry_load (s : Part) (n : LoadId) (o : Origin) (k : LoadId) :
    (s.newEntry n o).load k = if k = n then { s.load n with phase := .queued, changed := true } else s.load k := by
  rw [Part.newEntry, Part.setPhase_load]
  rfl

theorem Part.newEntry_wakeSettled (off : (s.load n).phase = .off) (settled : s.wakeSettled) (o : Origin) :
    (s.newEntry n o).wakeSettled := by
  intro wake
  rw [(s.loadWork_newEntry n o).mode] at wake
  have works := settled wake
  unfold Part.wakeWork at works ⊢
  obtain ⟨e, -, -, perm⟩ := s.placeEntry_perm n o
  refine (Bool.or_eq_true _ _).mpr (((Bool.or_eq_true _ _).mp works).imp (fun some => ?_) fun some => ?_)
  · obtain ⟨d, listed, waked⟩ := List.any_eq_true.1 some
    exact List.any_eq_true.2 ⟨d, perm.mem_iff.2 (List.mem_cons_of_mem _ listed), waked⟩
  · obtain ⟨k, listed, starts⟩ := List.any_eq_true.1 some
    refine List.any_eq_true.2 ⟨k, listed, ?_⟩
    rw [Part.newEntry_load, if_neg]
    · exact starts
    · rintro rfl
      simp [off] at starts

/-- The entry of a load that no entry ahead of it has. -/
theorem Part.entry?_split {front back : List Entry} {own : Entry} (queue : t.dgv.queue = front ++ own :: back)
    (out : ∀ e ∈ front, e.load ≠ own.load) : t.entry? own.load = some own := by
  have none : front.find? (fun e => decide (e.load = own.load)) = none :=
    List.find?_eq_none.2 fun e listed => by simpa using out e listed
  rw [Part.entry?, queue, List.find?_append, none]
  simp

/-- A load that is pulled takes its place right before its puller (R79). -/
theorem beforePuller_split {front back : List Entry} {own e : Entry} (out : ∀ e ∈ front, e.load ≠ own.load) :
    beforePuller (front ++ own :: back) e own.load = front ++ e :: own :: back := by
  have front_ : ∀ x ∈ front, (x.load != own.load) = true := fun x listed => by simpa using out x listed
  rw [beforePuller, List.takeWhile_append_of_pos front_, List.dropWhile_append_of_pos front_]
  simp

/-! ## The load pulled (R82) -/

/-- From s to t the load is queued, other loads, holds and records as before. -/
structure Part.Queues (s t : Part) (n : LoadId) : Prop where
  work : s.LoadWork t
  own : (t.load n).phase = .queued
  others : ∀ k, k ≠ n → t.load k = s.load k

theorem Part.queues_newEntry (s : Part) (n : LoadId) (o : Origin) : s.Queues (s.newEntry n o) n :=
  ⟨s.loadWork_newEntry n o, by rw [Part.newEntry_load, if_pos rfl], fun k other => by rw [Part.newEntry_load, if_neg other]⟩

/-- The load can be started: OFF, not kept off, without needs. -/
structure Part.Startable (s : Part) (j : LoadId) : Prop where
  inUse : s.inUse j = true
  off : (s.load j).phase = .off
  free : s.offCount j = 0
  alone : (s.config j).needs = []

theorem Part.Queues.startable {j : LoadId} (h : s.Queues t n) (other : j ≠ n) (can : s.Startable j) : t.Startable j := by
  obtain ⟨-, -, -, -, -, offCount, -⟩ := h.work.modeWork.reads h.work.holds
  exact ⟨by rw [Part.inUse, h.work.config]; exact can.inUse, by rw [h.others j other]; exact can.off,
    (offCount j).trans can.free, by rw [h.work.config]; exact can.alone⟩

theorem Part.Startable.available {j : LoadId} (can : s.Startable j) : s.available 64 j = true :=
  Part.available_alone can.inUse can.off can.free can.alone 63

theorem Part.Startable.down {j : LoadId} (can : s.Startable j) : s.up j = false := by
  simp [Part.up, LoadRecord.up, can.off, LoadPhase.running]

/-- A queued load pulls a load that can be started. -/
theorem Part.request_pull {j : LoadId} (live : s.mode ≠ .setup) (queued : (s.load n).phase = .queued) (can : s.Startable j)
    (fuel : Nat) : Part.request (fuel + 1) s j (.pull n) = (s.newEntry j (.pull n)).startScan := by
  have stands : s.pullerStands n = true := by simp [Part.pullerStands, queued]
  rw [Part.request_off fuel live can.off can.free]
  simp only [Part.requestOff, stands, if_true]
  exact Part.enqueueNew_alone _ _ _ can.alone

/-- A group whose required count one load that can be started would complete, no member being under way. -/
structure Part.Completes (s : Part) (j : LoadId) (g : GroupId) : Prop where
  member : s.memberOf j g = true
  short : (s.members g).countP s.up + 1 = (s.group g).required
  idle : ∀ k ∈ s.members g, (s.load k).phase ≠ .queued ∧ (s.load k).phase ≠ .starting ∧ (k < j → (s.load k).phase ≠ .off)

theorem Part.Queues.completes {j : LoadId} {g : GroupId} (h : s.Queues t n) (apart : s.memberOf n g = false)
    (fits : s.Completes j g) : t.Completes j g := by
  obtain ⟨group, members, -⟩ := h.work.modeWork.reads h.work.holds
  have same (k : LoadId) (listed : k ∈ s.members g) : t.load k = s.load k :=
    h.others k fun is => by rw [is, Part.mem_members, apart] at listed; cases listed
  refine ⟨?_, ?_, fun k listed => ?_⟩
  · exact Part.mem_members.1 (by rw [members]; exact Part.mem_members.2 fits.member)
  · rw [members, group, ← fits.short]
    refine congrArg (· + 1) (List.countP_congr fun k listed => ?_)
    rw [Part.up, same k listed]
    rfl
  · rw [members] at listed
    rw [same k listed]
    exact fits.idle k listed

section
variable {j : LoadId} {g : GroupId} (fits : s.Completes j g) (can : s.Startable j)
include fits

/-- Such a group is short of the load alone. -/
theorem Part.Completes.floorCount : s.floorCount g + 1 = (s.group g).required := by
  rw [← fits.short]
  refine congrArg (· + 1) (List.countP_congr fun k listed => ?_)
  obtain ⟨out, still, -⟩ := fits.idle k listed
  simp [out, still]

include can

/-- With the load such a group's need is satisfiable. -/
theorem Part.Completes.satisfiable : s.needSatisfiable (.group g) = true := by
  obtain ⟨l, r, split⟩ := List.append_of_mem (Part.mem_members.2 fits.member)
  have short := fits.short
  have more (l : List LoadId) : l.countP s.up ≤ l.countP fun m => s.up m || s.available 64 m :=
    List.countP_mono_left fun m _ up => by simp [up]
  have ahead := more l
  have behind := more r
  have counts : (s.members g).countP s.up = l.countP s.up + r.countP s.up := by
    simp [split, can.down]
  have available : (s.members g).countP (fun m => s.up m || s.available 64 m) =
      (l.countP fun m => s.up m || s.available 64 m) + ((r.countP fun m => s.up m || s.available 64 m) + 1) := by
    simp [split, can.available]
  simp only [Part.needSatisfiable, Part.needSatisfiableBy, decide_eq_true_eq, available]
  omega

/-- Pull-up asks such a group for the load and for no other. -/
theorem Part.Completes.pullNeed (live : s.mode ≠ .setup) (queued : (s.load n).phase = .queued) (fuel : Nat) :
    Part.pullNeed (Part.request (fuel + 1)) n s (.group g) = (s.newEntry j (.pull n)).startScan := by
  obtain ⟨l, r, split⟩ := List.append_of_mem (Part.mem_members.2 fits.member)
  have count := fits.floorCount
  have sorted : (s.members g).Pairwise (· < ·) := (List.sortedLT_finRange 64).pairwise.filter _
  rw [split, List.pairwise_append] at sorted
  have asked : s.askOffMembers (Part.request (fuel + 1)) g (.pull n) =
      ((s.newEntry j (.pull n)).startScan, s.floorCount g + 1) := by
    rw [Part.askOffMembers, split, List.foldl_append, Part.askOffMembers_skips _ _ _ (fun m listed =>
        (fits.idle m (by rw [split]; exact List.mem_append_left _ listed)).2.2
          (sorted.2.2 m listed j List.mem_cons_self)), List.foldl_cons,
      if_pos (by simp [can.off, can.available]; omega), Part.request_pull live queued can fuel]
    exact Part.askOffMembers_enough _ _ _ _ _ _ (by omega)
  have group : ((s.newEntry j (.pull n)).startScan).group g = s.group g := by
    rw [Part.group, ((s.loadWork_newEntry j _).trans (Part.loadWork_startScan _)).cfg]
    rfl
  rw [Part.pullNeed, asked, Part.askStoppingMembers]
  have none (l : List LoadId) (u : Part) (c : Nat) (enough : (u.group g).required ≤ c) :
      l.foldl (fun (acc : Part × Nat) m =>
        if acc.2 < (acc.1.group g).required && (acc.1.load m).phase.isStopping && acc.1.offCount m = 0 then
          (Part.request (fuel + 1) acc.1 m (.pull n), acc.2 + 1)
        else acc) (u, c) = (u, c) := by
    induction l with
    | nil => rfl
    | cons m l ih =>
      rw [List.foldl_cons, if_neg (by simp [Nat.not_lt.2 enough])]
      exact ih
  rw [none _ _ _ (by rw [group]; omega)]

end

/-- A load whose one need is met by pulling a load that can be started, directly or for its group. -/
theorem Part.enqueueNew_pulls {j : LoadId} (live : s.mode ≠ .setup) (other : j ≠ n) (can : s.Startable j)
    (needs : (s.config n).needs = [.load j] ∨
      ∃ g, (s.config n).needs = [.group g] ∧ s.memberOf n g = false ∧ s.Completes j g) (o : Origin) (fuel : Nat) :
    Part.enqueueNew (Part.request (fuel + 1)) s n o =
      ((s.newEntry n o).newEntry j (.pull n)).startScan.startScan := by
  have entered := s.queues_newEntry n o
  have live' : (s.newEntry n o).mode ≠ .setup := by rw [entered.work.mode]; exact live
  have can' := entered.startable other can
  have pulls {need : Need} (only : (s.config n).needs = [need]) (meets : (s.newEntry n o).needSatisfiable need = true)
      (pull : Part.pullNeed (Part.request (fuel + 1)) n (s.newEntry n o) need =
        ((s.newEntry n o).newEntry j (.pull n)).startScan) :
      Part.enqueueNew (Part.request (fuel + 1)) s n o =
        ((s.newEntry n o).newEntry j (.pull n)).startScan.startScan := by
    have only : ((s.newEntry n o).config n).needs = [need] := by rw [entered.work.config, only]
    rw [Part.enqueueNew]
    simp only [Part.needsSatisfiable, only, List.all_cons, meets, List.all_nil, Bool.and_self, if_true, Part.pullNeeds,
      List.foldl_cons, List.foldl_nil, pull]
  obtain only | ⟨g, only, apart, fits⟩ := needs
  · refine pulls only ?_ ?_
    · simp [Part.needSatisfiable, Part.needSatisfiableBy, can'.available]
    · simp only [Part.pullNeed, can'.off, decide_true, Bool.true_or, if_true]
      exact Part.request_pull live' entered.own can' fuel
  · have fits' := entered.completes apart fits
    exact pulls only (fits'.satisfiable can') (fits'.pullNeed can' live' entered.own fuel)

end

end Sys2Proof.Machine
end

section
/-! START LOAD's command, from the entry that it makes to its answer (R43, R80, R85). -/

namespace Sys2Proof.Machine

section
variable {s : State} {b : Byte} {n : LoadId}

/-! ## The rows (R43) -/

theorem exec_startLoad_off (can : s.canServe (.startLoad b) = true) (named : b.toNat = n.val)
    (off : (s.load n).phase = .off) (free : s.offCount n = 0) :
    exec (.startLoad b) s = .next (s.answered (.startLoad b) (s.finish (s.enqueue n .command))
      { status := .ok, data := (s.finish (s.enqueue n .command)).startData n }) := by
  show execStartLoad b s = _
  refine (onLoad_served can named).trans ?_
  dsimp only
  rw [off]
  dsimp only
  rw [if_neg (by omega)]

theorem exec_startLoad_queued (can : s.canServe (.startLoad b) = true) (named : b.toNat = n.val)
    (queued : (s.load n).phase = .queued) :
    exec (.startLoad b) s = .next (s.answered (.startLoad b) (s.finish (s.enqueue n .command))
      { status := .noChange, data := (s.finish (s.enqueue n .command)).startData n }) := by
  show execStartLoad b s = _
  refine (onLoad_served can named).trans ?_
  dsimp only
  rw [queued]

theorem exec_startLoad_keptOff (can : s.canServe (.startLoad b) = true) (named : b.toNat = n.val)
    (off : (s.load n).phase = .off) (kept : 0 < s.offCount n) :
    exec (.startLoad b) s = .next (s.answered (.startLoad b) s.toPart { status := .keptOff }) := by
  show execStartLoad b s = _
  refine (onLoad_served can named).trans ?_
  dsimp only
  rw [off]
  dsimp only
  rw [if_pos kept]

theorem exec_startLoad_up (can : s.canServe (.startLoad b) = true) (named : b.toNat = n.val)
    (up : (s.load n).phase = .localRun ∨ (s.load n).phase = .watch ∨ (s.load n).phase = .starting) :
    exec (.startLoad b) s =
      .next (s.answered (.startLoad b) s.toPart { status := .noChange, data := s.startData n }) := by
  show execStartLoad b s = _
  refine (onLoad_served can named).trans ?_
  dsimp only
  obtain up | up | up := up <;> rw [up]

theorem exec_startLoad_away (can : s.canServe (.startLoad b) = true) (named : b.toNat = n.val)
    (away : (s.load n).phase.isStopping = true ∨ (s.load n).phase = .override ∨ (s.load n).phase.isFault = true ∨
      (s.load n).phase = .unreachable ∨ (s.load n).phase = .unused) :
    exec (.startLoad b) s = .next (s.answered (.startLoad b) s.toPart { status := .wrongState }) := by
  show execStartLoad b s = _
  refine (onLoad_served can named).trans ?_
  dsimp only
  cases phase : (s.load n).phase <;> simp [phase, LoadPhase.isStopping, LoadPhase.isFault] at away ⊢

/-! ## The answer (R180) -/

theorem Part.startData_queued {t : Part} {e : Entry} (named : b.toNat = n.val) (queued : (t.load n).phase = .queued)
    (found : t.entry? n = some e) : t.startData n = [b, 5, BitVec.ofNat 8 e.origin.code] := by
  rw [Part.startData, u8_of_toNat named, queued, found]
  rfl

theorem Part.startData_off {t : Part} (named : b.toNat = n.val) (off : (t.load n).phase = .off)
    (out : n ∉ t.queuedLoads) : t.startData n = [b, 4, 0xFF] := by
  rw [Part.startData, u8_of_toNat named, off, Part.entry?_none.2 out]
  rfl

/-! ## An entry made (R79, R80, R82) -/

/-- The entry a START LOAD makes of the load. -/
def Part.commanded (s : Part) (n : LoadId) : Entry :=
  { load := n, origin := .command, key := (s.config n).wakePriority, seq := s.dgv.nextSeq }

/-- The entries that stay ahead of it, and those behind. -/
def Part.ahead (s : Part) (n : LoadId) : List Entry := s.dgv.queue.takeWhile fun x => x.key ≤ (s.commanded n).key
def Part.behind (s : Part) (n : LoadId) : List Entry := s.dgv.queue.dropWhile fun x => x.key ≤ (s.commanded n).key

theorem Part.ahead_others {s : Part} (out : n ∉ s.queuedLoads) : ∀ e ∈ s.ahead n, e.load ≠ (s.commanded n).load :=
  fun e listed is => out (Part.mem_queuedLoads.2 ⟨e, (List.takeWhile_sublist _).subset listed, is⟩)

/-- What a START LOAD that leaves the load queued answers, and what it leaves of the plant. -/
theorem startLoad_queues (can : s.canServe (.startLoad b) = true) (named : b.toNat = n.val)
    (off : (s.load n).phase = .off) (free : s.offCount n = 0) {u : Part} (asked : s.enqueue n .command = u)
    (work : s.LoadWork u) (settled : u.wakeSettled) {e : Entry} (queued : (u.load n).phase = .queued)
    (found : u.entry? n = some e) (own : e.origin = .command) (scans : u.dgv.scanDue = true) :
    ∃ t : State, exec (.startLoad b) s = .next t ∧ t.replies 0x31 .ok [b, 5, 3] ∧ t.dgv.queue = u.dgv.queue ∧
      t.dgv.nextSeq = u.dgv.nextSeq ∧ (∀ k, (u.load k).phase.running = false → t.load k = u.load k) ∧
      t.dgv.scanDue = true ∧ t.holds = s.holds ∧ t.ncc = s.ncc ∧ t.cfg = s.cfg ∧ s.SameOutside t.toPart := by
  have done := exec_startLoad_off can named off free
  rw [asked] at done
  obtain ⟨closed, calm, -⟩ := Part.finish_settled s.toPart settled
  generalize s.finish u = v at done closed calm
  have whole := work.trans closed
  have still : (v.load n).phase = .queued := by rw [calm.still n (by rw [queued]; rfl)]; exact queued
  have data := Part.startData_queued named still ((calm.entry? n).trans found)
  rw [data, own] at done
  exact ⟨_, done, rfl, calm.queue, calm.nextSeq, calm.still, calm.follows.scan scans, whole.holds, whole.ncc, whole.cfg,
    whole.modeWork.sameOutside_answer _ _⟩

theorem startLoad_alone (can : s.canServe (.startLoad b) = true) (named : b.toNat = n.val)
    (off : (s.load n).phase = .off) (free : s.offCount n = 0) (alone : (s.config n).needs = []) (live : s.mode ≠ .setup)
    (out : n ∉ s.queuedLoads) (settled : s.wakeSettled) :
    ∃ t : State, exec (.startLoad b) s = .next t ∧ t.replies 0x31 .ok [b, 5, 3] ∧
      t.dgv.queue = s.ahead n ++ s.commanded n :: s.behind n ∧ t.dgv.nextSeq = s.dgv.nextSeq + 1 ∧
      t.dgv.scanDue = true ∧ t.load n = { s.load n with phase := .queued, changed := true } ∧
      t.holds = s.holds ∧ t.ncc = s.ncc ∧ t.cfg = s.cfg ∧ s.SameOutside t.toPart := by
  have asked : s.enqueue n .command = (s.newEntry n .command).startScan := by
    rw [Part.enqueue, Part.request_off 64 live off free]
    exact Part.enqueueNew_alone _ _ _ alone
  have load : ((s.newEntry n .command).startScan).load n = { s.load n with phase := .queued, changed := true } := by
    rw [Part.startScan_load, Part.newEntry_load, if_pos rfl]
  have settled' := Part.newEntry_wakeSettled off settled .command
  obtain ⟨t, done, replies, queue, nextSeq, still, frame⟩ := startLoad_queues can named off free asked
    ((s.loadWork_newEntry n _).trans (Part.loadWork_startScan _)) settled' (by rw [load])
    (Part.entry?_split (own := s.commanded n) (front := s.ahead n) (back := s.behind n) rfl (Part.ahead_others out)) rfl rfl
  obtain ⟨scans, frame⟩ := frame
  exact ⟨t, done, replies, queue, nextSeq, scans, (still n (by rw [load]; rfl)).trans load, frame⟩

theorem startLoad_pulls {j : LoadId} (can : s.canServe (.startLoad b) = true) (named : b.toNat = n.val)
    (off : (s.load n).phase = .off) (free : s.offCount n = 0) (live : s.mode ≠ .setup) (out : n ∉ s.queuedLoads)
    (settled : s.wakeSettled) (other : j ≠ n) (startable : s.Startable j)
    (needs : (s.config n).needs = [.load j] ∨
      ∃ g, (s.config n).needs = [.group g] ∧ s.memberOf n g = false ∧ s.Completes j g) :
    ∃ t : State, exec (.startLoad b) s = .next t ∧ t.replies 0x31 .ok [b, 5, 3] ∧
      t.dgv.queue = s.ahead n ++
        { load := j, origin := .pull n, key := (s.commanded n).key, seq := (s.commanded n).seq + 1 } ::
          s.commanded n :: s.behind n ∧
      t.dgv.nextSeq = s.dgv.nextSeq + 2 ∧ t.dgv.scanDue = true ∧
      t.load n = { s.load n with phase := .queued, changed := true } ∧
      t.load j = { s.load j with phase := .queued, changed := true } ∧
      t.holds = s.holds ∧ t.ncc = s.ncc ∧ t.cfg = s.cfg ∧ s.SameOutside t.toPart := by
  have front := Part.ahead_others out
  have asked : s.enqueue n .command = ((s.newEntry n .command).newEntry j (.pull n)).startScan.startScan := by
    rw [Part.enqueue, Part.request_off 64 live off free]
    exact Part.enqueueNew_pulls live other startable needs .command 63
  have own : (s.newEntry n .command).entry? n = some (s.commanded n) :=
    Part.entry?_split (own := s.commanded n) (front := s.ahead n) (back := s.behind n) rfl front
  have queue : ((s.newEntry n .command).newEntry j (.pull n)).startScan.startScan.dgv.queue =
      s.ahead n ++
        { load := j, origin := .pull n, key := (s.commanded n).key, seq := (s.commanded n).seq + 1 } ::
          s.commanded n :: s.behind n := by
    show (s.newEntry n .command).placeEntry j (.pull n) = _
    simp only [Part.placeEntry, own]
    exact beforePuller_split (own := s.commanded n) front
  have seq : ((s.newEntry n .command).newEntry j (.pull n)).startScan.startScan.dgv.nextSeq = s.dgv.nextSeq + 2 := by
    simp [Part.newEntry, BitVec.add_assoc]
  have load (k : LoadId) : (((s.newEntry n .command).newEntry j (.pull n)).startScan.startScan).load k =
      if k = n ∨ k = j then { s.load k with phase := .queued, changed := true } else s.load k := by
    rw [Part.startScan_load, Part.startScan_load, Part.newEntry_load, Part.newEntry_load, if_neg other,
      Part.newEntry_load]
    by_cases is : k = j
    · simp [is]
    · by_cases own : k = n <;> simp [is, own, other.symm]
  have settled' := Part.newEntry_wakeSettled (n := j) (by rw [Part.newEntry_load, if_neg other]; exact startable.off)
    (Part.newEntry_wakeSettled off settled .command) (.pull n)
  have found := Part.entry?_split (t := ((s.newEntry n .command).newEntry j (.pull n)).startScan.startScan)
    (own := s.commanded n) (queue.trans (List.append_cons _ _ _)) (fun e listed => ?_)
  · obtain ⟨t, done, replies, queue', nextSeq, still, scans, frame⟩ := startLoad_queues can named off free asked
      ((((s.loadWork_newEntry n _).trans (Part.loadWork_newEntry _ j _)).trans (Part.loadWork_startScan _)).trans
        (Part.loadWork_startScan _)) settled' (by rw [load, if_pos (.inl rfl)]) found rfl rfl
    have loaded {k : LoadId} (is : k = n ∨ k = j) : t.load k = { s.load k with phase := .queued, changed := true } := by
      rw [still k (by rw [load, if_pos is]; rfl), load, if_pos is]
    exact ⟨t, done, replies, queue'.trans queue, nextSeq.trans seq, scans, loaded (.inl rfl), loaded (.inr rfl), frame⟩
  · obtain listed | listed := List.mem_append.1 listed
    · exact front e listed
    · rw [List.mem_singleton.1 listed]
      exact other

/-! ## An entry kept (R80) -/

theorem Part.setOrigin_quiet (p : Part) (n : LoadId) (o : Origin) (k : LoadId) :
    p.checkInputs k = (p.setOrigin n o).checkInputs k := rfl

theorem Origin.merge_command (o : Origin) :
    o.merge .command = match o with | .wake | .pull _ => .command | o => o := by
  cases o <;> rfl

theorem startLoad_merges (can : s.canServe (.startLoad b) = true) (named : b.toNat = n.val)
    (queued : (s.load n).phase = .queued) (live : s.mode ≠ .setup) (clock : s.ClockOk) {e : Entry}
    (found : s.entry? n = some e) {o : Origin} (merged : e.origin.merge .command = o) :
    ∃ t : State, exec (.startLoad b) s = .next t ∧ t.replies 0x31 .noChange [b, 5, BitVec.ofNat 8 o.code] ∧
      t.dgv.queue = (s.dgv.queue.map fun x => if x.load = n then { x with origin := o } else x) ∧
      (s.mode ≠ .wake → t.loads = s.loads ∧ t.ncc = s.ncc ∧ t.cfg = s.cfg) ∧
      t.holds = s.holds ∧ s.SameOutside t.toPart := by
  have done := exec_startLoad_queued can named queued
  rw [Part.enqueue_queued live queued found, merged] at done
  have calm := (Part.calms_finish (s := s.setOrigin n o) s.toPart (.inr clock)).1
  have plain (awake : s.mode ≠ .wake) : (s.finish (s.setOrigin n o)).loads = s.loads ∧
      (s.setOrigin n o).LoadWork (s.finish (s.setOrigin n o)) := by
    refine ⟨?_, (Part.finish_settled (s := s.setOrigin n o) s.toPart fun wake => absurd wake awake).1⟩
    have settled : (s.recomputeDemand (s.setOrigin n o)).wakeSettled := fun wake => by
      rw [(s.loadWork_recomputeDemand _).mode] at wake
      exact absurd wake awake
    rw [Part.finish, Part.recheck_of_same_inputs (Part.setOrigin_quiet _ _ _) rfl, Part.wakeEndTest_settled settled]
    exact Part.recomputeDemand_loads s.toPart (s.setOrigin n o)
  have still := calm.still n (show (s.load n).phase.running = false by rw [queued]; rfl)
  have entry := calm.entry? n
  rw [Part.entry?_setOrigin, found, Option.map_some, if_pos (Part.entry?_some found).2] at entry
  have data := Part.startData_queued (n := n) named (by rw [still]; exact queued) entry
  have queue := calm.queue
  have holds := calm.follows.holds
  have work := (s.loadWork_setOrigin n o).modeWork.trans calm.follows.work
  clear calm still entry
  generalize s.finish (s.setOrigin n o) = v at done data plain queue holds work
  rw [data] at done
  exact ⟨_, done, rfl, queue, fun awake => ⟨(plain awake).1, (plain awake).2.ncc, (plain awake).2.cfg⟩, holds,
    work.sameOutside_answer _ _⟩

end

end Sys2Proof.Machine
end

section
/-! START LOAD of a load with a need that cannot be met: its entry comes and goes, and is a change of its state (R30,
R82, R85). -/

namespace Sys2Proof.Machine

section
variable {s : Part} {n x : LoadId}

/-! ## The entry withdrawn at once (R82) -/

/-- The part when the load's entry has come and gone. -/
abbrev Part.bounced (s : Part) (n : LoadId) : Part := (s.newEntry n .command).withdraw n .needLost

theorem Part.Queues.unmet {t : Part} {j : LoadId} (h : s.Queues t n) (other : j ≠ n) (needs : .load j ∈ (s.config n).needs)
    (lost : (s.load j).phase = .unused ∨ (s.load j).phase.isFault = true ∨ (s.load j).phase = .unreachable ∨
      (0 < s.offCount j ∧ ((s.load j).phase.running = false ∨ (s.load j).feedback = false))) : t.unmet n := by
  obtain ⟨-, -, -, -, -, offCount, -⟩ := h.work.modeWork.reads h.work.holds
  refine Part.unmet_of_need (j := j) (by rw [h.work.config]; exact needs) ?_ ?_
  · rw [Part.serving, h.others j other]
    obtain unused | fault | lost | ⟨-, still | dark⟩ := lost
    · rw [unused]; rfl
    · cases phase : (s.load j).phase <;> simp [phase, LoadPhase.isFault, LoadPhase.running] at fault ⊢
    · rw [lost]; rfl
    · rw [still]; rfl
    · rw [dark, Bool.and_false]
  · obtain unused | fault | lost | ⟨kept, -⟩ := lost
    · exact Part.available_lost (.inl (by rw [h.others j other]; exact unused)) 64
    · exact Part.available_lost (.inr (.inl (by rw [h.others j other]; exact fault))) 64
    · exact Part.available_lost (.inr (.inr (by rw [h.others j other]; exact lost))) 64
    · exact Part.available_keptOff (by rw [offCount]; exact kept) 64

theorem Part.enqueue_bounces {j : LoadId} (live : s.mode ≠ .setup) (off : (s.load n).phase = .off)
    (free : s.offCount n = 0) (needs : .load j ∈ (s.config n).needs)
    (lost : (s.load j).phase = .unused ∨ (s.load j).phase.isFault = true ∨ (s.load j).phase = .unreachable ∨
      (0 < s.offCount j ∧ ((s.load j).phase.running = false ∨ (s.load j).feedback = false))) :
    s.enqueue n .command = s.bounced n := by
  have other : j ≠ n := by
    rintro rfl
    rw [off] at lost
    obtain lost | lost | lost | ⟨kept, -⟩ := lost
    · cases lost
    · cases lost
    · cases lost
    · omega
  have unmet := (s.queues_newEntry n .command).unmet other needs lost
  rw [Part.enqueue, Part.request_off 64 live off free, Part.requestOff, Part.enqueueNew]
  exact if_neg (by rw [show (s.newEntry n .command).needsSatisfiable n = false from unmet]; nofun)

/-- What the withdrawal of a new entry keeps: what new pullers and withdrawals keep. -/
theorem Part.bounced_keeps {P : Part → Prop} (repull : ∀ u n k, P u → P (u.setOrigin n (.pull k)))
    (drop : ∀ u n, P u → P (u.dropEntry n)) (raise : ∀ u d, P u → P (u.raise d)) (start : P (s.newEntry n .command)) :
    P (s.bounced n) := by
  rw [Part.bounced, Part.withdraw_eq rfl]
  exact Part.settleOrphans_keeps repull drop _ _ (raise _ _ (drop _ _ start))

/-! ## The checks that it calls for (R30) -/

theorem Part.Sound.inUse (ok : s.Sound) (used : (s.load n).phase ≠ .unused) : s.inUse n = true :=
  Bool.of_not_eq_false fun idle => used ((ok.loads n).unused.2 idle)

theorem Part.bounced_notes : (s.newEntry n .command).checksDue <+: (s.bounced n).checksDue :=
  (Part.asks_withdraw (.inl ((s.newEntry_queuedLoads n .command).mem_iff.2 List.mem_cons_self)) rfl).checks

theorem Part.bounced_fewer (off : (s.load n).phase = .off) (k : LoadId) :
    ((s.bounced n).load k).phase = (s.load k).phase ∨ ((s.bounced n).load k).phase = .off := by
  refine Part.bounced_keeps (P := fun u => k = n ∨ (u.load k).phase = (s.load k).phase ∨ (u.load k).phase = .off)
    (fun _ _ _ same => same) (fun u m start => ?_) (fun _ _ same => same) ?_ |>.elim (fun is => ?_) id
  · rw [Part.dropEntry_load]
    split
    · exact .inr (.inr rfl)
    · exact start
  · rw [Part.newEntry_load]
    exact (em (k = n)).imp id fun other => by rw [if_neg other]; exact .inl rfl
  · subst is
    exact .inr (Part.atRest_withdraw _ k rfl).1

/-- A change of a load's state calls for the check of a WATCH load that the load needs. -/
theorem Part.changedInputs_setPhase {p : LoadPhase} (inUse : s.inUse n = true) (differs : (s.load n).phase ≠ p)
    (needs : .load x ∈ (s.config n).needs) (watch : (s.load x).phase = .watch) (other : x ≠ n) :
    x ∈ s.changedInputs (s.setLoad n { s.load n with phase := p, changed := true }) := by
  refine Part.mem_changedInputs (by rw [Part.setLoad_load, if_neg other]; exact watch) fun same => differs ?_
  have dependent : n ∈ s.directDependents x := by
    simp [Part.directDependents, allLoads, inUse, needs]
  have phases : (s.directDependents x).map (fun k => (s.load k).phase) = (s.directDependents x).map fun k =>
      ((s.setLoad n { s.load n with phase := p, changed := true }).load k).phase := congrArg CheckInputs.dependents same
  have moved := List.map_inj_left.1 phases n dependent
  rwa [Part.setLoad_load, if_pos rfl] at moved

/-- So the entry made of a load notes the check of a WATCH load that it needs. -/
theorem Part.newEntry_notes (inUse : s.inUse n = true) (off : (s.load n).phase = .off) (needs : .load x ∈ (s.config n).needs)
    (watch : (s.load x).phase = .watch) : x ∈ (s.newEntry n .command).checksDue.drop s.checksDue.length := by
  rw [Part.newEntry, Part.setPhase, Part.moveLoad_checksDue, List.drop_left]
  exact Part.changedInputs_setPhase inUse (show (s.load n).phase ≠ .queued by rw [off]; nofun) needs watch
    fun is => by rw [is, off] at watch; cases watch

/-- The idle stop of a load in no group that is due is taken, with an entry of a dependent that came and went. -/
theorem Part.recheck_bounced (ok : s.Sound) (inUse : s.inUse n = true)
    (off : (s.load n).phase = .off) (asks : s.Asks (s.bounced n)) (needs : .load x ∈ (s.config n).needs)
    (apart : s.groupOf x = none) (due : s.idleStopDue x = true) :
    ((s.recheck (s.bounced n)).load x).phase = .stopping s.now := by
  have watch := Part.watch_of_idleStopDue due
  have spares := Part.sparesIdle_withdrawn asks ok watch (Part.bounced_fewer off)
  have group {u v : Part} (work : u.LoadWork v) (single : u.groupOf x = none) : v.groupOf x = none := by
    obtain ⟨-, -, groupOf, -⟩ := work.modeWork.reads work.holds
    exact (groupOf x).trans single
  have noted : x ∈ (s.bounced n).checksDue.drop s.checksDue.length :=
    (List.IsPrefix.drop Part.bounced_notes _).subset (Part.newEntry_notes inUse off needs watch)
  have watch' : ((s.bounced n).load x).phase = .watch := by rw [spares.load]; exact watch
  have called : x ∈ s.changedInputs (s.bounced n) :=
    Part.mem_changedInputs_of_noted (by simp [Part.checkable, watch']) noted
  refine Eq.trans (Part.takeChecks_stops (n := x) (P := fun v => v.idleStopDue x = true ∧ v.groupOf x = none)
    (fun v ⟨due, _⟩ => by simp [Part.stopsNow, due]) (fun v m _ ⟨due, single⟩ other stops => ?_) (fun _ same => same) 64
    (s.bounced n) (asks.sound ok) ⟨spares.idleStopDue due, group asks.work apart⟩ _ called
    (List.countP_le_length.trans (by simp [allLoads]))) (congrArg LoadPhase.stopping asks.work.now)
  obtain ⟨runs, -⟩ := Part.stopsNow_running stops
  exact ⟨(Part.sparesIdle_enterStopping other runs fun g found => by rw [single] at found; cases found).idleStopDue due,
    group (v.loadWork_enterStopping m) single⟩

/-- What is STOPPING when the checks have been taken is so when the handling is closed. -/
theorem Part.finish_of_recheck (before : Part) (quiet : s.mode ≠ .wake ∨ s.ClockOk) {second : Nat}
    (stops : ((before.recheck s).load x).phase = .stopping second) : ((before.finish s).load x).phase = .stopping second := by
  have work := (before.loadWork_recheck s).trans (before.loadWork_recomputeDemand _)
  have still : (before.recomputeDemand (before.recheck s)).mode ≠ .wake ∨
      (before.recomputeDemand (before.recheck s)).ClockOk := by
    rw [work.mode, Part.ClockOk, work.ncc]
    exact quiet
  have calm := ((before.calms_recomputeDemand (before.recheck s)).trans (Part.calms_wakeEndTest still).1).trans
    (before.calms_settleChecks _)
  rw [Part.finish, calm.still x (by rw [stops]; rfl)]
  exact stops

end

section
variable {s : State} {b : Byte} {n : LoadId}

theorem startLoad_bounces {j : LoadId} (can : s.canServe (.startLoad b) = true) (named : b.toNat = n.val)
    (off : (s.load n).phase = .off) (free : s.offCount n = 0) (live : s.mode ≠ .setup) (clock : s.ClockOk)
    (needs : .load j ∈ (s.config n).needs)
    (lost : (s.load j).phase = .unused ∨ (s.load j).phase.isFault = true ∨ (s.load j).phase = .unreachable ∨
      (0 < s.offCount j ∧ ((s.load j).phase.running = false ∨ (s.load j).feedback = false))) :
    ∃ t : State, exec (.startLoad b) s = .next t ∧ t.replies 0x31 .ok [b, 4, 0xFF] ∧
      (t.load n).phase = .off ∧ n ∉ t.queuedLoads ∧ t.atl.pending.getLsbD 3 = true ∧
      t.atl.details[3] = some (.startFailed n .needLost) ∧
      (s.LoadsOk → ∀ x : LoadId, .load x ∈ (s.config n).needs → s.groupOf x = none → s.idleStopDue x = true →
        (t.load x).phase = .stopping s.now) ∧
      t.holds = s.holds ∧ s.SameOutside t.toPart := by
  have done := exec_startLoad_off can named off free
  have bounced := Part.enqueue_bounces live off free needs lost
  have asks := s.asks_enqueue n .command
  rw [bounced] at done asks
  have rests : (s.bounced n).atRest n := Part.atRest_withdraw _ n rfl
  have told : (s.bounced n).atl = ((s.newEntry n .command).raise (.startFailed n .needLost)).atl :=
    Part.withdraw_raises _ n rfl rfl
  have clock' : (s.bounced n).ClockOk := by rw [Part.ClockOk, asks.work.ncc]; exact clock
  have calm := (Part.calms_finish (s := s.bounced n) s.toPart (.inr clock')).1
  have idle (ok : s.LoadsOk) (x : LoadId) (needs : .load x ∈ (s.config n).needs) (apart : s.groupOf x = none)
      (due : s.idleStopDue x = true) : ((s.finish (s.bounced n)).load x).phase = .stopping s.now :=
    Part.finish_of_recheck s.toPart (.inr clock')
      (Part.recheck_bounced ok.sound (ok.sound.inUse (by rw [off]; nofun)) off asks needs apart due)
  have off' : ((s.finish (s.bounced n)).load n).phase = .off := by rw [calm.still n (by rw [rests.1]; rfl)]; exact rests.1
  have out : n ∉ (s.finish (s.bounced n)).queuedLoads := by rw [calm.queuedLoads]; exact rests.2
  have data := Part.startData_off named off' out
  have holds := calm.follows.holds.trans asks.work.holds
  have whole := asks.work.modeWork.trans calm.follows.work
  obtain ⟨pending, details⟩ := calm.causes 3 (by decide) (by decide)
  rw [told] at pending details
  clear calm
  generalize s.finish (s.bounced n) = v at done idle off' out data holds whole pending details
  rw [data] at done
  exact ⟨_, done, rfl, off', out, pending.trans (Part.raise_pending _ (.startFailed n .needLost)),
    details.trans (Part.raise_details _ (.startFailed n .needLost)), idle, holds, whole.sameOutside_answer _ _⟩

/-- Settles O28: a START LOAD makes an entry, which stays alone, pulls one load, or is withdrawn at once; merges with
the one there is; or is refused. -/
theorem startLoad : Obligations.StartLoad := by
  refine fun s b can => ⟨fun out => onLoad_out can out, fun n named => ⟨fun off free alone live out settled =>
    startLoad_alone can named off free alone live out settled, fun off free live out settled j other startable needs => ?_,
    fun off free live clock j needs lost => startLoad_bounces can named off free live clock needs lost,
    fun queued live clock e found => startLoad_merges can named queued live clock found e.origin.merge_command,
    exec_startLoad_keptOff can named, exec_startLoad_up can named, exec_startLoad_away can named⟩⟩
  obtain ⟨inUse, rests, unforced, alone, -⟩ := startable
  refine startLoad_pulls can named off free live out settled other ⟨inUse, rests, unforced, alone⟩
    (needs.imp_right fun ⟨g, only, apart, member, short, idle⟩ => ⟨g, only, apart, member, short, idle⟩)

end

end Sys2Proof.Machine
end

section
/-! Nights cancelled and ended by SET MODE, and the entry to WIND_DOWN (R26, R115, R117, R118, R125). -/

namespace Sys2Proof.Machine

section
variable {s t : Part}

/-! ## An entry to DAY from another state of the same records and clock -/

/-- From s to t records, clock, uptime and the armed flag stay. -/
structure Part.SameSchedule (s t : Part) : Prop where
  cfg : t.cfg = s.cfg
  armed : t.ncc.armed = s.ncc.armed
  clock : t.ncc.clock = s.ncc.clock
  uptime : t.ncc.uptime = s.ncc.uptime

theorem Part.SameSchedule.refl (s : Part) : s.SameSchedule s := ⟨rfl, rfl, rfl, rfl⟩

theorem Part.SameSchedule.trans {u : Part} (h : s.SameSchedule t) (g : t.SameSchedule u) : s.SameSchedule u :=
  ⟨g.cfg.trans h.cfg, g.armed.trans h.armed, g.clock.trans h.clock, g.uptime.trans h.uptime⟩

theorem Part.sameSchedule_tellMode (s : Part) (m : ModeState) : s.SameSchedule (s.tellMode m) := by
  obtain ⟨_, _, told⟩ := s.tellMode_eq m
  rw [told]
  exact ⟨rfl, rfl, rfl, rfl⟩

theorem Part.sameSchedule_raiseMode (s : Part) (late : Bool) : s.SameSchedule (s.raiseMode late) := ⟨rfl, rfl, rfl, rfl⟩

theorem Part.sameSchedule_told (s : Part) (m : ModeState) (late : Bool) :
    s.SameSchedule ((s.tellMode m).raiseMode late) :=
  (s.sameSchedule_tellMode m).trans (Part.sameSchedule_raiseMode _ late)

theorem Part.SameSchedule.wakeTarget (h : s.SameSchedule t) : t.wakeTarget = s.wakeTarget := by
  obtain ⟨-, -, target, -⟩ := Part.schedule_of_clock (s := s) (t := t) (congrArg Settings.active h.cfg) h.clock h.uptime
  exact target

theorem Part.SameSchedule.now (h : s.SameSchedule t) : t.now = s.now := by rw [Part.now, h.uptime]; rfl

theorem Part.SameSchedule.dayPlans (h : s.SameSchedule t) : t.dayPlans = s.dayPlans := by
  rw [Part.dayPlans, h.cfg, h.armed]; rfl

theorem Part.SameSchedule.dayNight (h : s.SameSchedule t) (mark : Option Nat) : t.dayNight mark = s.dayNight mark :=
  Part.dayNight_eq (s := s) (t := { t with cfg := t.dayPlans }) h.dayPlans h.clock h.uptime mark

theorem Part.SameSchedule.entersDay {u : Part} {late : Bool} {mark : Option Nat} (h : s.SameSchedule t)
    (enters : t.EntersDay u late mark) : s.EntersDay u late mark := by
  obtain ⟨mode, lateFlag, armed, plans, raised, swapped⟩ := enters
  rw [h.dayNight] at mode
  rw [h.dayPlans] at plans
  rw [h.armed, h.cfg] at swapped
  exact ⟨mode, lateFlag, armed, plans, raised, swapped⟩

theorem Part.SameSchedule.entersWarning {u : Part} {start : Nat} (h : s.SameSchedule t)
    (enters : t.EntersWarning u start) : s.EntersWarning u start := by
  obtain ⟨mode, armed, plans, raised⟩ := enters
  rw [h.dayPlans] at plans
  exact ⟨mode, armed, plans, raised⟩

/-- A change to DAY, and on to WIND_DOWN inside the warning of a night ahead, is carried out by two moves at most. -/
theorem Part.runMoves_day {late : Bool} {mark : Option Nat}
    (settles : s.dayStays mark ∨ ∃ night, s.dayNight mark = some night ∧ night.warnStart ≤ s.now ∧ s.now < night.nightStart)
    (k : Nat) : s.runMoves (k + 2) (some (.day late mark)) = s.changeMode (.day late mark) := by
  obtain ⟨-, next, -⟩ := s.applyMove_day late mark
  have now : (s.applyMove (.day late mark)).1.now = s.now := (s.modeWork_applyMove _).now
  obtain stays | ⟨night, found, begun, ahead⟩ := settles
  · rw [Part.changeMode_day_stays stays, Part.runMoves_some, next]
    have no_move : nextNightMove (s.dayNight mark) s.now = none := by
      unfold nextNightMove
      split
      · next night found => exact if_neg (Nat.not_le.2 (stays night found))
      · rfl
    rw [no_move, Part.runMoves_none]
  · have warned : nextNightMove (s.dayNight mark) s.now = some (.windDown night.nightStart true) := by
      rw [found]; exact if_pos begun
    rw [Part.changeMode, Part.runMoves_some, Part.runMoves_some, next, warned, Part.runMoves_some, Part.runMoves_some]
    generalize (s.applyMove (.day late mark)).1 = w at now
    obtain ⟨_, _, _, moved⟩ := Part.applyMove_windDown (s := w) true (now.symm ▸ ahead)
    rw [moved, Part.runMoves_none, Part.runMoves_none]

/-! ## Loads that the close may stop (R29, R31) -/

/-- A check leaves each load as it is, or stops it where it runs. -/
theorem Part.takeChecks_load (fuel : Nat) (s : Part) (due : List LoadId) (n : LoadId) :
    (s.takeChecks fuel due).load n = s.load n ∨ ((s.load n).phase.running = true ∧
      (s.takeChecks fuel due).load n = { s.load n with phase := .stopping s.now, stopPending := false, changed := true }) := by
  induction fuel generalizing s due with
  | zero => exact .inl rfl
  | succ fuel ih =>
    have stops {m : LoadId} (u : Part) (passes : u.stopsNow m = true) (due : List LoadId) :
        ((u.enterStopping m).takeChecks fuel due).load n = u.load n ∨ ((u.load n).phase.running = true ∧
          ((u.enterStopping m).takeChecks fuel due).load n =
            { u.load n with phase := .stopping u.now, stopPending := false, changed := true }) := by
      have later := ih (u.enterStopping m) due
      rw [(u.loadWork_enterStopping m).now, Part.enterStopping_load] at later
      by_cases is : n = m
      · subst is
        rw [if_pos rfl] at later
        exact .inr ⟨(Part.stopsNow_running passes).1, later.elim id fun ⟨runs, _⟩ => by cases runs⟩
      · rw [if_neg is] at later
        exact later
    unfold Part.takeChecks
    split
    · exact .inl rfl
    · next m alone =>
      exact stops s (List.mem_filter.1 (by rw [alone]; exact List.mem_singleton_self m : m ∈ _)).2 _
    · next m k rest several =>
      have picked : (m :: k :: rest).getD (Config.freeChoice s.freeCount % (rest.length + 2)) m ∈ due.filter s.stopsNow := by
        rw [several]; exact getD_freeChoice_mem m k rest _
      exact stops s.nextChoice (List.mem_filter.1 picked).2 _

/-- Outside WAKE so does the close of a handling. -/
theorem Part.finish_awake_load (before : Part) (awake : s.mode ≠ .wake) (n : LoadId) :
    (before.finish s).load n = s.load n ∨ ((s.load n).phase.running = true ∧
      (before.finish s).load n = { s.load n with phase := .stopping s.now, stopPending := false, changed := true }) := by
  have work := (before.loadWork_recheck s).trans (before.loadWork_recomputeDemand _)
  have still : (before.recomputeDemand (before.recheck s)).wakeSettled := fun wake => by
    rw [work.mode] at wake
    exact absurd wake awake
  have load : (before.finish s).load n = (s.takeChecks 64 (before.changedInputs s)).load n := by
    rw [Part.finish, Part.wakeEndTest_settled still]
    show (before.recomputeDemand (before.recheck s)).load n = _
    rw [Part.load, Part.recomputeDemand_loads]
    rfl
  rw [load]
  exact s.takeChecks_load 64 _ n

end

/-! ## The requests (R117) -/

section
variable {s : State} {b : Byte}

/-- What a SET MODE that Table 5-3 gives a mode change makes of the part, and answers. -/
theorem exec_setMode_move {m : Mode} {v : Move} (can : s.canServe (.setMode b) = true) (named : b.toNat = m.code)
    (other : m ≠ s.mode) (request : s.modeRequest m = .move v) :
    exec (.setMode b) s = .next (s.answered (.setMode b) (s.moveMode v).1 (s.moveMode v).2) := by
  rw [exec_setMode_named can named, Part.askMode, if_neg other, request]

/-- A mode change by SET MODE that ends in this part, outside WAKE, is closed and answered. -/
theorem setMode_enters {v : Move} {w : Part} (plain : v.isSetup = false) (moved : s.changeMode v = w)
    (awake : w.mode ≠ .wake) (done : exec (.setMode b) s = .next (s.answered (.setMode b) (s.moveMode v).1 (s.moveMode v).2))
    {P : State → Prop} {data : List Byte} (answer : w.modeData = data)
    (holds : P (s.answered (.setMode b) (s.finish w) { status := .ok, data := data })) :
    ∃ t : State, exec (.setMode b) s = .next t ∧ t.replies 0x05 .ok data ∧ P t ∧ t.holds = s.holds ∧
      s.SameOutside t.toPart := by
  have outside := s.modeWork_moveMode v
  have kept := s.moveMode_holds plain
  obtain ⟨_, _, _, _, closed⟩ := Part.moveMode_awake moved awake
  have part : s.finish w = (s.moveMode v).1 := by rw [Part.moveMode, moved]
  rw [part] at holds
  rw [show (s.moveMode v).2 = { status := .ok, data := data } by rw [closed, answer]] at done
  exact ⟨_, done, rfl, holds, kept, outside.sameOutside_answer _ _⟩

/-- A SET MODE that changes to DAY, not LATE: it stays in DAY, or passes on inside the warning of a night ahead, be the
change the one asked for or one that follows from it. -/
theorem setMode_day {v : Move} {p : Part} {mark : Option Nat} (plain : v.isSetup = false) (same : s.SameSchedule p)
    (k : Nat) (moved : s.changeMode v = p.runMoves (k + 2) (some (.day false mark)))
    (done : exec (.setMode b) s = .next (s.answered (.setMode b) (s.moveMode v).1 (s.moveMode v).2)) :
    (s.dayStays mark → ∃ t : State, exec (.setMode b) s = .next t ∧ t.replies 0x05 .ok [1, 1, 0] ∧
      s.EntersDay t.toPart false mark ∧ t.holds = s.holds ∧ s.SameOutside t.toPart) ∧
    ∀ night, s.dayNight mark = some night → night.warnStart ≤ s.now → s.now < night.nightStart →
      ∃ t : State, exec (.setMode b) s = .next t ∧ t.replies 0x05 .ok [2, 0, 0] ∧
        s.EntersWarning t.toPart night.nightStart ∧ t.holds = s.holds ∧ s.SameOutside t.toPart := by
  refine ⟨fun stays => ?_, fun night found begun ahead => ?_⟩
  · have stays : p.dayStays mark := fun night found => by
      rw [same.dayNight] at found; rw [same.now]; exact stays night found
    rw [Part.runMoves_day (.inl stays), Part.changeMode_day_stays stays] at moved
    obtain ⟨enters, -⟩ := p.applyMove_day false mark
    generalize (p.applyMove (.day false mark)).1 = w at moved enters
    have day := Part.mode_of_day enters.mode
    have enters := same.entersDay enters
    have awake : w.mode ≠ .wake := by rw [day]; nofun
    refine setMode_enters plain moved awake done (by rw [Part.modeData, day, enters.lateFlag]; rfl) ?_
    obtain ⟨_, _, _, _, closed⟩ := Part.finish_awake s.toPart awake
    rw [closed]
    exact ⟨enters.mode, enters.lateFlag, enters.armed, enters.plans, enters.raised, enters.swapped⟩
  · have found : p.dayNight mark = some night := by rw [same.dayNight]; exact found
    have now := same.now
    rw [Part.runMoves_day (.inr ⟨night, found, by omega, by omega⟩)] at moved
    have enters := Part.changeMode_day_passesOn (late := false) found (by omega) (by omega)
    generalize p.changeMode (.day false mark) = w at moved enters
    have windDown := Part.mode_of_windDown enters.mode
    have enters := same.entersWarning enters
    have awake : w.mode ≠ .wake := by rw [windDown]; nofun
    refine setMode_enters plain moved awake done (by rw [Part.modeData, windDown]; rfl) ?_
    obtain ⟨_, _, _, _, closed⟩ := Part.finish_awake s.toPart awake
    rw [closed]
    exact ⟨enters.mode, enters.armed, enters.plans, enters.raised⟩

/-- An entry to WIND_DOWN, its deadline ahead: every LOCAL load is in WATCH (R26, R118). -/
theorem Part.changeMode_windDown (p : Part) {deadline : Nat} {scheduled : Bool} (ahead : p.now < deadline) :
    ∃ w, p.changeMode (.windDown deadline scheduled) = w ∧ w.ncc.mode = .windDown deadline scheduled ∧ w.cfg = p.cfg ∧
      w.now = p.now ∧ ∀ n, (p.load n).phase = .localRun → w.load n = { p.load n with phase := .watch, changed := true } := by
  obtain ⟨_, _, told⟩ := p.tellMode_eq (.windDown deadline scheduled)
  have load := p.tellMode_load (.windDown deadline scheduled)
  refine ⟨(p.tellMode (.windDown deadline scheduled)).raiseMode false, ?_, ?_, ?_, ?_, fun n runs => ?_⟩
  · rw [Part.changeMode, Part.runMoves_some, Part.applyMove]
    simp only [if_neg (Nat.not_le.2 ahead), Part.runMoves_none]
  · rw [told]; rfl
  · rw [told]; rfl
  · rw [told]; rfl
  · have run : runningPhase (p.setMode (.windDown deadline scheduled)).mode = .watch := rfl
    rw [Part.raiseMode, Part.raise_load, load, run, runs]
    rfl

/-- WIND_DOWN by command from DAY, with a warning (R26, R118). -/
theorem setMode_windDown (can : s.canServe (.setMode b) = true) (named : b.toNat = 2) (day : s.mode = .day)
    (warns : 0 < s.cfg.active.warningMin) :
    ∃ t : State, exec (.setMode b) s = .next t ∧ t.replies 0x05 .ok [2, 0, 0] ∧
      (t.ncc.mode = .windDown (s.now + 60 * s.cfg.active.warningMin) false ∧ t.cfg = s.cfg ∧
        ∀ n : LoadId, (s.load n).phase = .localRun →
          (t.load n).phase = .watch ∨ ((s.load n).stopPending = true ∧ (t.load n).phase = .stopping s.now)) ∧
      t.holds = s.holds ∧ s.SameOutside t.toPart := by
  have request : s.modeRequest .windDown = .move (.windDown (s.now + 60 * s.cfg.active.warningMin) false) := by
    unfold Part.modeRequest
    unfold Part.mode at day
    split <;> simp_all
  have done := exec_setMode_move can (m := .windDown) named (by rw [day]; nofun) request
  obtain ⟨w, moved, modeState, cfg, now, load⟩ := s.changeMode_windDown (deadline := s.now + 60 * s.cfg.active.warningMin)
    (scheduled := false) (by omega)
  have mode := Part.mode_of_windDown modeState
  have awake : w.mode ≠ .wake := by rw [mode]; nofun
  have stopped (n : LoadId) (runs : (s.load n).phase = .localRun) : ((s.finish w).load n).phase = .watch ∨
      ((s.load n).stopPending = true ∧ ((s.finish w).load n).phase = .stopping s.now) := by
    obtain same | ⟨-, stops⟩ := Part.finish_awake_load s.toPart awake n
    · exact .inl (by rw [same, load n runs])
    · refine .inr ⟨Bool.of_not_eq_false fun none => ?_, by rw [stops, now]⟩
      have calm := (Part.calms_finish (s := w) s.toPart (.inl awake)).1
      have runs := (calm.spared (by rw [mode]; nofun)).2 n (by rw [load n runs]; rfl) (by rw [load n runs]; exact none)
      rw [stops] at runs
      cases runs
  refine setMode_enters rfl moved awake done (by rw [Part.modeData, mode]; rfl) ⟨?_, ?_, stopped⟩
  · obtain ⟨_, _, _, _, closed⟩ := Part.finish_awake s.toPart awake
    rw [closed]; exact modeState
  · obtain ⟨_, _, _, _, closed⟩ := Part.finish_awake s.toPart awake
    rw [closed]; exact cfg

end

end Sys2Proof.Machine
end

section
/-! Entries to NIGHT: the lead that is held, and the loads that the entry stops (R26, R115, R120 to R122). -/

namespace Sys2Proof.Machine

/-! ## The lead while loads stop (R121, R122) -/

theorem le_mul_ceilDiv (a : Nat) {b : Nat} (pos : 0 < b) : a ≤ b * ceilDiv a b := by
  have split := Nat.div_add_mod (a + b - 1) b
  have less := Nat.mod_lt (a + b - 1) pos
  unfold ceilDiv
  omega

theorem ceilDiv_le {a b q : Nat} (pos : 0 < b) (enough : a ≤ b * q) : ceilDiv a b ≤ q := by
  have more : (q + 1) * b = b * q + b := by ring
  have less : a + b - 1 < (q + 1) * b := by omega
  exact Nat.le_of_lt_succ ((Nat.div_lt_iff_lt_mul pos).2 less)

theorem ceilDiv_anti (a : Nat) {b c : Nat} (pos : 0 < b) (more : b ≤ c) : ceilDiv a c ≤ ceilDiv a b :=
  ceilDiv_le (by omega) ((le_mul_ceilDiv a pos).trans (Nat.mul_le_mul_right _ more))

theorem ceilDiv_mono {a b : Nat} (more : a ≤ b) (c : Nat) : ceilDiv a c ≤ ceilDiv b c :=
  Nat.div_le_div_right (by omega)

/-- A shorter lead brings wake_begin no nearer (R122). -/
theorem wakeBeginFor_ahead {target : Option WakeTarget} {lead lead' now : Nat} (shorter : lead ≤ lead')
    (ahead : ∀ b, wakeBeginFor target lead' = some b → now < b) : ∀ b, wakeBeginFor target lead = some b → now < b := by
  intro b found
  cases target with
  | none => cases found
  | some w =>
    have less : now < w.at_ - 60 * ceilDiv lead' 60 := ahead _ rfl
    have := ceilDiv_mono shorter 60
    simp only [wakeBeginFor, Option.map_some, Option.some.injEq] at found
    omega

/-- From s to t records and holds stay, and loads only stop: the lead does not grow (R121). -/
structure Part.Slows (s t : Part) : Prop where
  cfg : t.cfg = s.cfg
  holds : t.holds = s.holds
  ceiling : t.dgv.ceilingI = s.dgv.ceilingI
  off : ∀ n, (t.load n).phase = .off ↔ (s.load n).phase = .off
  up : ∀ n, t.up n = true → s.up n = true

section
variable {s t u : Part}

theorem Part.Slows.refl (s : Part) : s.Slows s := ⟨rfl, rfl, rfl, fun _ => Iff.rfl, fun _ => id⟩

theorem Part.Slows.trans (h : s.Slows t) (g : t.Slows u) : s.Slows u :=
  ⟨g.cfg.trans h.cfg, g.holds.trans h.holds, g.ceiling.trans h.ceiling, fun n => (g.off n).trans (h.off n),
    fun n up => h.up n (g.up n up)⟩

theorem Part.offCount_of_records (cfg : t.cfg = s.cfg) (holds : t.holds = s.holds) (n : LoadId) :
    t.offCount n = s.offCount n := by
  cases s; cases t; cases cfg; cases holds; rfl

theorem Part.Slows.leadSeconds (h : s.Slows t) : t.leadSeconds ≤ s.leadSeconds := by
  have asleep : (allLoads.filter fun n => t.inUse n && (t.load n).phase = .off && t.offCount n = 0) =
      allLoads.filter fun n => s.inUse n && (s.load n).phase = .off && s.offCount n = 0 := by
    refine List.filter_congr fun n _ => ?_
    rw [Part.inUse, Part.config, h.cfg, decide_eq_decide.2 (h.off n), Part.offCount_of_records h.cfg h.holds]
    rfl
  have config (n : LoadId) : t.config n = s.config n := by rw [Part.config, h.cfg]; rfl
  have drawn : ((allLoads.filter t.up).map fun n => (s.config n).runKw).sum ≤
      ((allLoads.filter s.up).map fun n => (s.config n).runKw).sum :=
    List.Sublist.sum_le_sum ((List.monotone_filter_right allLoads h.up).map _) fun _ _ => Nat.zero_le _
  unfold Part.leadSeconds
  simp only [asleep, config, h.cfg, h.ceiling]
  have headroom : 0 < Config.headroomMin := by decide
  refine min_le_min le_rfl (Nat.add_le_add_right (Nat.add_le_add_left (ceilDiv_anti _ ?_ ?_) _) _)
  · omega
  · omega

/-- Loads that run go on running or stop, and other loads stay as they are. -/
theorem Part.Slows.of_loads (cfg : t.cfg = s.cfg) (holds : t.holds = s.holds)
    (ceiling : t.dgv.ceilingI = s.dgv.ceilingI)
    (loads : ∀ n, (t.load n).feedback = (s.load n).feedback ∧ ((t.load n).phase = (s.load n).phase ∨
      ((s.load n).phase.running = true ∧ ((t.load n).phase.running = true ∨ (t.load n).phase.isStopping = true)))) :
    s.Slows t := by
  refine ⟨cfg, holds, ceiling, fun n => ?_, fun n up => ?_⟩
  · obtain ⟨-, same | ⟨runs, runs' | stops⟩⟩ := loads n
    · rw [same]
    · exact ⟨fun off => (by rw [off] at runs'; cases runs'), fun off => by rw [off] at runs; cases runs⟩
    · exact ⟨fun off => (by rw [off] at stops; cases stops), fun off => by rw [off] at runs; cases runs⟩
  · obtain ⟨feedback, same | ⟨runs, -⟩⟩ := loads n
    · rw [Part.up, LoadRecord.up, feedback, same] at up; exact up
    · simp only [Part.up, LoadRecord.up, feedback, Bool.and_eq_true] at up ⊢
      exact ⟨up.1, by rw [runs]; rfl⟩

theorem Part.slows_tellMode (s : Part) (m : ModeState) : s.Slows (s.tellMode m) ∧ (s.tellMode m).Slows s := by
  obtain ⟨_, _, told⟩ := s.tellMode_eq m
  have fields : (s.tellMode m).cfg = s.cfg ∧ (s.tellMode m).holds = s.holds ∧
      (s.tellMode m).dgv.ceilingI = s.dgv.ceilingI := by rw [told]; exact ⟨rfl, rfl, rfl⟩
  obtain ⟨cfg, holds, ceiling⟩ := fields
  have running := runningPhase_running (s.setMode m).mode
  refine ⟨.of_loads cfg holds ceiling fun n => ?_, .of_loads cfg.symm holds.symm ceiling.symm fun n => ?_⟩
  · rw [Part.tellMode_load]
    split
    · next moves => exact ⟨rfl, .inr ⟨(Bool.and_eq_true_iff.1 moves).1, .inl running⟩⟩
    · exact ⟨rfl, .inl rfl⟩
  · rw [Part.tellMode_load]
    split
    · next moves => exact ⟨rfl, .inr ⟨running, .inl (Bool.and_eq_true_iff.1 moves).1⟩⟩
    · exact ⟨rfl, .inl rfl⟩

theorem Part.slows_raiseMode (s : Part) (late : Bool) : s.Slows (s.raiseMode late) ∧ (s.raiseMode late).Slows s :=
  ⟨⟨rfl, rfl, rfl, fun _ => Iff.rfl, fun _ => id⟩, ⟨rfl, rfl, rfl, fun _ => Iff.rfl, fun _ => id⟩⟩

/-- The telling of a mode leaves the lead as it is. -/
theorem Part.leadSeconds_told (s : Part) (m : ModeState) (late : Bool) :
    ((s.tellMode m).raiseMode late).leadSeconds = s.leadSeconds := by
  obtain ⟨less, more⟩ := s.slows_tellMode m
  obtain ⟨less', more'⟩ := (s.tellMode m).slows_raiseMode late
  exact le_antisymm (less.trans less').leadSeconds (more'.trans more).leadSeconds

theorem Part.slows_takeChecks (fuel : Nat) (s : Part) (due : List LoadId) : s.Slows (s.takeChecks fuel due) := by
  have work := s.loadWork_takeChecks fuel due
  refine .of_loads work.cfg work.holds ?_ fun n => ?_
  · obtain ⟨_, _, _, _, stops⟩ := s.stops_takeChecks fuel due
    rw [stops]
  · obtain same | ⟨runs, stops⟩ := s.takeChecks_load fuel due n
    · rw [same]; exact ⟨rfl, .inl rfl⟩
    · rw [stops]; exact ⟨rfl, .inr ⟨runs, .inr rfl⟩⟩

theorem Part.slows_finish (before : Part) (awake : s.mode ≠ .wake) : s.Slows (before.finish s) := by
  obtain ⟨_, _, _, _, closed⟩ := Part.finish_awake before awake
  refine .of_loads (by rw [closed]) (by rw [closed]) (by rw [closed]) fun n => ?_
  obtain same | ⟨runs, stops⟩ := Part.finish_awake_load before awake n
  · rw [same]; exact ⟨rfl, .inl rfl⟩
  · rw [stops]; exact ⟨rfl, .inr ⟨runs, .inr rfl⟩⟩

/-! ## The entry actions (R120) -/

/-- What the entry actions of NIGHT make of a part told of the mode: the lead held lies between that of the entry and
that of the loads left, the target is that of the entry, and loads only stop. -/
structure Part.TakesLead (s t : Part) : Prop where
  mode : ∃ lead, t.ncc.mode = .night s.wakeTarget (wakeBeginFor s.wakeTarget lead) lead ∧
    t.leadSeconds ≤ lead ∧ lead ≤ s.leadSeconds ∧ ((∀ n, s.stopsNow n = false) → lead = s.leadSeconds)
  loads : ∀ n, t.load n = s.load n ∨ ((s.load n).phase.running = true ∧
    t.load n = { s.load n with phase := .stopping s.now, stopPending := false, changed := true })
  cfg : t.cfg = s.cfg

theorem Part.leadMove_ahead {target : Option WakeTarget} {wakeBegin : Option Nat}
    (ahead : ∀ b, wakeBegin = some b → s.now < b) : s.leadMove target wakeBegin = none := by
  unfold Part.leadMove
  split
  · exact if_neg (Nat.not_le.2 (ahead _ rfl))
  · rfl

theorem Part.enterNight_takesLead (stays : s.nightStays) : s.TakesLead s.enterNight.1 ∧ s.enterNight.2 = none := by
  unfold Part.enterNight
  dsimp only
  split
  · exact ⟨⟨⟨s.leadSeconds, rfl, le_rfl, le_rfl, fun _ => rfl⟩, fun _ => .inl rfl, rfl⟩, Part.leadMove_ahead stays⟩
  · next some =>
    have stops : ¬ ∀ n, s.stopsNow n = false := fun none => some (by simp [none])
    split
    · have work := (s.nextChoice.takeLead s.wakeTarget).1.loadWork_takeChecks 64
        (allLoads.filter (s.nextChoice.takeLead s.wakeTarget).1.checkable)
      have slows := Part.slows_takeChecks 64 (s.nextChoice.takeLead s.wakeTarget).1
        (allLoads.filter (s.nextChoice.takeLead s.wakeTarget).1.checkable)
      refine ⟨⟨⟨s.leadSeconds, ?_, slows.leadSeconds, le_rfl, fun none => absurd none stops⟩, fun n => ?_, work.cfg⟩,
        Part.leadMove_ahead stays⟩
      · exact congrArg NightCycle.mode work.ncc
      · exact Part.takeChecks_load 64 _ _ n
    · have work := s.nextChoice.loadWork_takeChecks 64 (allLoads.filter s.nextChoice.checkable)
      have slows := (Part.slows_takeChecks 64 s.nextChoice (allLoads.filter s.nextChoice.checkable)).leadSeconds
      have now : s.nextChoice.nightChecks.now = s.now := work.now
      refine ⟨⟨⟨s.nextChoice.nightChecks.leadSeconds, rfl, le_rfl, slows, fun none => absurd none stops⟩, fun n => ?_,
        work.cfg⟩, Part.leadMove_ahead ?_⟩
      · exact Part.takeChecks_load 64 s.nextChoice _ n
      · rw [now]
        exact wakeBeginFor_ahead slows stays

/-! ## The move, whole (R26, R116) -/

/-- No load that runs is stopped where none is idle and none has a stop pending. -/
theorem Part.quiet.stopsNow (quiet : s.quiet) (n : LoadId) : s.stopsNow n = false := by
  refine Bool.eq_false_iff.2 fun stops => ?_
  obtain ⟨least, awake, none⟩ := quiet n (Part.stopsNow_running stops).1
  simp only [Part.stopsNow, Part.idleStopDue, none, Bool.or_eq_true, Bool.and_eq_true, decide_eq_true_eq, Bool.false_eq_true,
    false_and, or_false] at stops
  obtain ⟨⟨⟨⟨⟨-, idle⟩, -⟩, -⟩, -⟩, -⟩ := stops
  omega

theorem Part.quiet.told (quiet : s.quiet) (m : ModeState) : (s.tellMode m).quiet := by
  have same := s.sameSchedule_tellMode m
  have now := same.now
  have config (n : LoadId) : (s.tellMode m).config n = s.config n := by rw [Part.config, same.cfg]; rfl
  intro n runs
  rw [config, now, Part.tellMode_load]
  rw [Part.tellMode_load] at runs
  split
  · next moves => exact quiet n (Bool.and_eq_true_iff.1 moves).1
  · next stays => rw [if_neg stays] at runs; exact quiet n runs

theorem Part.quiet.raiseMode (quiet : s.quiet) (late : Bool) : (s.raiseMode late).quiet := quiet

/-- A load that runs when a mode is told runs in the state of that mode. -/
theorem Part.tellMode_running {n : LoadId} (runs : (s.load n).phase.running = true) (m : ModeState) :
    ((s.tellMode m).load n).phase = runningPhase (s.setMode m).mode := by
  rw [Part.tellMode_load]
  split
  · rfl
  · next stays => simpa [runs] using stays

/-- The move to NIGHT, no further one following. -/
theorem Part.runMoves_night (stays : s.nightStays) (k : Nat) :
    ∃ u, s.runMoves (k + 1) (some .night) = u ∧ s.EntersNight u := by
  have same := s.sameSchedule_tellMode (.night none none 0)
  have target := same.wakeTarget
  have now := same.now
  obtain ⟨less, more⟩ := s.slows_tellMode (.night none none 0)
  have lead : (s.tellMode (.night none none 0)).leadSeconds = s.leadSeconds := le_antisymm less.leadSeconds more.leadSeconds
  have stays' : (s.tellMode (.night none none 0)).nightStays := by
    rw [Part.nightStays, target, lead, now]; exact stays
  have quiet (h : s.quiet) := (h.told (.night none none 0)).stopsNow
  have running (n : LoadId) (runs : (s.load n).phase.running = true) :
      ((s.tellMode (.night none none 0)).load n).phase = .watch := Part.tellMode_running runs _
  obtain ⟨⟨⟨held, mode, above, below, exact_⟩, loads, cfg⟩, next⟩ := Part.enterNight_takesLead stays'
  have night := Part.enterNight_mode (s.tellMode (.night none none 0))
  rw [target] at mode
  refine ⟨((s.tellMode (.night none none 0)).enterNight.1).raiseMode false, ?_, ?_⟩
  · rw [Part.runMoves_some, Part.applyMove]
    simp only [next, Part.runMoves_none]
  · refine ⟨⟨held, mode, above, below.trans lead.le, fun h => (exact_ (quiet h)).trans lead⟩, ?_, fun n runs => ?_,
      cfg.trans less.cfg⟩
    · have raised := Part.modeRaised_raiseMode (s.tellMode (.night none none 0)).enterNight.1 false
      rw [night] at raised
      exact raised
    · rw [Part.raiseMode, Part.raise_load]
      obtain same | ⟨-, stops⟩ := loads n
      · exact .inl (by rw [same, running n runs])
      · exact .inr (by rw [stops, now])

/-- A part that has come to NIGHT is in NIGHT. -/
theorem Part.EntersNight.night (h : s.EntersNight t) : t.mode = .night := by
  obtain ⟨_, mode, -⟩ := h.mode
  rw [Part.mode, mode]

/-- The close of the handling stops loads at most. -/
theorem Part.EntersNight.finish (h : s.EntersNight t) (before : Part) (now : t.now = s.now) :
    s.EntersNight (before.finish t) := by
  have awake : t.mode ≠ .wake := by rw [h.night]; nofun
  have slows := Part.slows_finish before awake
  obtain ⟨⟨lead, mode, above, below, quiet⟩, raised, running, records⟩ := h
  obtain ⟨_, _, _, _, closed⟩ := Part.finish_awake before awake
  refine ⟨⟨lead, ?_, slows.leadSeconds.trans above, below, quiet⟩, ?_, fun n runs => ?_, slows.cfg.trans records⟩
  · rw [closed]; exact mode
  · rw [closed]; exact raised
  · obtain same | ⟨runs', stops⟩ := Part.finish_awake_load before awake n
    · rw [same]; exact running n runs
    · exact .inr (by rw [stops, now])

/-- The telling of another mode before leaves the entry as it is. -/
theorem Part.EntersNight.of_told {m : ModeState} {late : Bool}
    (h : ((s.tellMode m).raiseMode late).EntersNight t) : s.EntersNight t := by
  have same := s.sameSchedule_told m late
  have target := same.wakeTarget
  have lead := s.leadSeconds_told m late
  have still (h : s.quiet) := (h.told m).raiseMode late
  obtain ⟨⟨held, mode, above, below, quiet⟩, raised, running, records⟩ := h
  rw [target] at mode
  refine ⟨⟨held, mode, above, below.trans lead.le, fun h => (quiet (still h)).trans lead⟩, raised, fun n runs => ?_,
    records.trans same.cfg⟩
  rw [← same.now]
  refine running n ?_
  rw [Part.raiseMode, Part.raise_load, Part.tellMode_running runs]
  exact runningPhase_running _

end

/-! ## The request (R117) -/

section
variable {s : State} {b : Byte}

theorem setMode_night (can : s.canServe (.setMode b) = true)
    (asked : (b = 3 ∧ (s.mode = .day ∨ s.mode = .windDown)) ∨ (b = 2 ∧ s.mode = .day ∧ s.cfg.active.warningMin = 0))
    (stays : s.nightStays) :
    ∃ t : State, exec (.setMode b) s = .next t ∧ t.replies 0x05 .ok [3, 0, 0] ∧ s.EntersNight t.toPart ∧
      t.holds = s.holds ∧ s.SameOutside t.toPart := by
  obtain ⟨v, w, plain, done, moved, enters, now⟩ : ∃ (v : Move) (w : Part), v.isSetup = false ∧
      exec (.setMode b) s = .next (s.answered (.setMode b) (s.moveMode v).1 (s.moveMode v).2) ∧ s.changeMode v = w ∧
      s.EntersNight w ∧ w.now = s.now := by
    obtain ⟨rfl, here⟩ | ⟨rfl, day, none⟩ := asked
    · obtain ⟨w, moved, enters⟩ := Part.runMoves_night stays 7
      refine ⟨.night, w, rfl, exec_setMode_move can (m := .night) rfl ?_ ?_, moved, enters, ?_⟩
      · obtain day | down := here
        · rw [day]; nofun
        · rw [down]; nofun
      · unfold Part.modeRequest
        unfold Part.mode at here
        split <;> simp_all
      · rw [← moved]; exact (s.modeWork_changeMode .night).now
    · have told := s.sameSchedule_told (.windDown s.now false) false
      have stays' : ((s.tellMode (.windDown s.now false)).raiseMode false).nightStays := by
        rw [Part.nightStays, s.leadSeconds_told, told.now, told.wakeTarget]
        exact stays
      obtain ⟨w, moved, enters⟩ := Part.runMoves_night stays' 6
      have all : s.changeMode (.windDown s.now false) = w := by
        rw [Part.changeMode, Part.runMoves_some, Part.applyMove]
        simp only [if_pos le_rfl]
        exact moved
      refine ⟨.windDown s.now false, w, rfl, exec_setMode_move can (m := .windDown) rfl (by rw [day]; nofun) ?_, all,
        enters.of_told, ?_⟩
      · unfold Part.modeRequest
        unfold Part.mode at day
        split <;> simp_all
      · rw [← all]; exact (s.modeWork_changeMode _).now
  have night := enters.night
  have awake : w.mode ≠ .wake := by rw [night]; nofun
  obtain ⟨⟨lead, mode, above, below, quiet⟩, raised, running, records⟩ := enters.finish s.toPart now
  exact setMode_enters plain moved awake done (by rw [Part.modeData, night]; rfl)
    ⟨⟨lead, mode, above, below, quiet⟩, raised, running, records⟩

end

end Sys2Proof.Machine
end

section
/-! The wake sweep: the entries it makes are rooted in one of origin WAKE, and stay (R80, R82, R87, R123, R124). -/

namespace Sys2Proof.Machine

/-! ## Entries rooted in WAKE (R79) -/

/-- The load has an entry of origin WAKE, or one pulled by a load that is rooted so. -/
inductive Part.Rooted (s : Part) : LoadId → Prop
  | wake {n : LoadId} {e : Entry} (found : s.entry? n = some e) (own : e.origin = .wake) : s.Rooted n
  | pull {n k : LoadId} {e : Entry} (found : s.entry? n = some e) (own : e.origin = .pull k) (root : s.Rooted k) :
      s.Rooted n

section
variable {s t u : Part} {n : LoadId}

theorem Part.Rooted.listed (h : s.Rooted n) : n ∈ s.queuedLoads := by
  cases h with
  | wake found => exact Part.entry?_isSome.1 (by rw [found]; rfl)
  | pull found => exact Part.entry?_isSome.1 (by rw [found]; rfl)

/-- A rooted load leads to an entry of origin WAKE, so WAKE has work left (R124). -/
theorem Part.Rooted.wakeWork (h : s.Rooted n) : s.wakeWork = true := by
  induction h with
  | wake found own =>
    exact (Bool.or_eq_true _ _).mpr (.inl (List.any_eq_true.2 ⟨_, (Part.entry?_some found).1, decide_eq_true own⟩))
  | pull _ _ _ ih => exact ih

/-- Loads stay rooted where the entries of rooted loads stay. -/
theorem Part.Rooted.mono (keep : ∀ k e, s.Rooted k → s.entry? k = some e → t.entry? k = some e) (h : s.Rooted n) :
    t.Rooted n := by
  induction h with
  | wake found own => exact .wake (keep _ _ (.wake found own) found) own
  | pull found own root ih => exact .pull (keep _ _ (.pull found own root) found) own ih

/-- A load that has an entry pulled by one that has none is not rooted. -/
theorem Part.Rooted.puller {e : Entry} {k : LoadId} (h : s.Rooted n) (found : s.entry? n = some e)
    (pulled : e.origin = .pull k) : k ∈ s.queuedLoads := by
  cases h with
  | wake found' own =>
    rw [found] at found'; cases found'
    rw [pulled] at own; cases own
  | pull found' own root =>
    rw [found] at found'; cases found'
    rw [pulled] at own; cases own
    exact root.listed

/-! ## What requests of the sweep keep -/

/-- From s to t requests have come: rooted loads stay so, and no load but a rooted one has come to be queued. -/
structure Part.Sweeps (s t : Part) : Prop where
  asks : s.Asks t
  rooted : ∀ n, s.Rooted n → t.Rooted n
  fresh : ∀ n ∈ t.queuedLoads, n ∈ s.queuedLoads ∨ t.Rooted n

theorem Part.Sweeps.refl (s : Part) : s.Sweeps s := ⟨.refl s, fun _ => id, fun _ => .inl⟩

theorem Part.Sweeps.trans (h : s.Sweeps t) (g : t.Sweeps u) : s.Sweeps u where
  asks := h.asks.trans g.asks
  rooted n root := g.rooted n (h.rooted n root)
  fresh n listed := (g.fresh n listed).elim (fun listed => (h.fresh n listed).imp_right (g.rooted n)) .inr

theorem Part.Sweeps.foldl {α : Type} {f : α → Part} {step : α → LoadId → α} (l : List LoadId) (a : α)
    (steps : ∀ a m, s.Sweeps (f a) → s.Sweeps (f (step a m))) (start : s.Sweeps (f a)) : s.Sweeps (f (l.foldl step a)) := by
  induction l generalizing a with
  | nil => exact start
  | cons m l ih => exact ih _ (steps a m start)

/-- An update that leaves the queue as it is. -/
theorem Part.Sweeps.of_queue (asks : s.Asks t) (queue : t.dgv.queue = s.dgv.queue) : s.Sweeps t := by
  have entry (k : LoadId) : t.entry? k = s.entry? k := by rw [Part.entry?, queue]; rfl
  refine ⟨asks, fun n => Part.Rooted.mono fun k e _ found => (entry k).trans found, fun n listed => .inl ?_⟩
  rw [Part.queuedLoads, queue] at listed
  exact listed

/-! ## Orphans (R87) -/

/-- From s on, the entries of rooted loads have stayed, and no entry has been made. -/
structure Part.SparesRooted (s t : Part) : Prop where
  kept : ∀ k e, s.Rooted k → s.entry? k = some e → t.entry? k = some e
  fewer : t.queuedLoads ⊆ s.queuedLoads
  once : t.queuedLoads.Nodup

theorem Part.SparesRooted.setOrigin {o : Origin} (h : s.SparesRooted t) (free : ¬ s.Rooted n) :
    s.SparesRooted (t.setOrigin n o) where
  kept k e root found := by
    have other : e.load ≠ n := fun is => free (((Part.entry?_some found).2.symm.trans is) ▸ root)
    rw [Part.entry?_setOrigin, h.kept k e root found, Option.map_some, if_neg other]
  fewer := by rw [Part.setOrigin_queuedLoads]; exact h.fewer
  once := by rw [Part.setOrigin_queuedLoads]; exact h.once

theorem Part.SparesRooted.dropEntry (h : s.SparesRooted t) (free : ¬ s.Rooted n) : s.SparesRooted (t.dropEntry n) where
  kept k e root found := by
    have other : k ≠ n := fun is => free (is ▸ root)
    rw [Part.entry?_dropEntry_ne t other]
    exact h.kept k e root found
  fewer k listed := h.fewer (Part.mem_dropEntry.1 listed).1
  once := by
    rw [show (t.dropEntry n).queuedLoads = (t.removeEntry n).queuedLoads from rfl, Part.removeEntry_queuedLoads]
    exact h.once.filter _

/-- The orphans of loads that have no entry are not rooted. -/
theorem Part.SparesRooted.orphan {gone : List LoadId} {o : LoadId} (h : s.SparesRooted t)
    (away : ∀ g ∈ gone, g ∉ t.queuedLoads) (orphan : o ∈ t.orphansOf gone) : ¬ s.Rooted o := by
  intro root
  obtain ⟨e, listed, rfl⟩ := List.mem_map.1 orphan
  obtain ⟨there, pulled⟩ := List.mem_filter.1 listed
  have root' : t.Rooted e.load := root.mono h.kept
  obtain ⟨d, found⟩ := Option.isSome_iff_exists.1 (Part.entry?_isSome.2 root'.listed)
  obtain ⟨there', same⟩ := Part.entry?_some found
  rw [List.inj_on_of_nodup_map h.once there' there same] at found
  split at pulled
  · next p own => exact away p (by simpa using pulled) (root'.puller found own)
  · cases pulled

theorem Part.SparesRooted.settleOrphans (fuel : Nat) {gone : List LoadId} (h : s.SparesRooted t)
    (away : ∀ g ∈ gone, g ∉ t.queuedLoads) : s.SparesRooted (t.settleOrphans fuel gone) := by
  have round (l : List LoadId) (free : ∀ o ∈ l, ¬ s.Rooted o) (acc : Part × List LoadId) (h : s.SparesRooted acc.1)
      (away : ∀ g ∈ acc.2, g ∉ acc.1.queuedLoads) :
      s.SparesRooted (l.foldl settleOrphan acc).1 ∧
        ∀ g ∈ (l.foldl settleOrphan acc).2, g ∉ (l.foldl settleOrphan acc).1.queuedLoads := by
    induction l generalizing acc with
    | nil => exact ⟨h, away⟩
    | cons o l ih =>
      have own := free o List.mem_cons_self
      refine ih (fun p listed => free p (List.mem_cons_of_mem _ listed)) _ ?_ ?_ <;> unfold settleOrphan <;> split
      · exact h.setOrigin own
      · exact h.dropEntry own
      · intro g listed
        rw [Part.setOrigin_queuedLoads]
        exact away g listed
      · intro g listed there
        obtain ⟨there, other⟩ := Part.mem_dropEntry.1 there
        obtain listed | listed := List.mem_append.1 listed
        · exact away g listed there
        · exact other (List.mem_singleton.1 listed)
  induction fuel generalizing t gone with
  | zero => exact h
  | succ fuel ih =>
    unfold Part.settleOrphans
    split
    · exact h
    · obtain ⟨h', away'⟩ := round (t.orphansOf gone) (fun o orphan => h.orphan away orphan) (t, []) h nofun
      exact ih h' away'

/-! ## Entries made (R79, R80, R82) -/

/-- A request of the sweep: of origin WAKE, or by a rooted puller. -/
def Part.sweepOrigin (s : Part) (o : Origin) : Prop := o = .wake ∨ ∃ k, o = .pull k ∧ s.Rooted k

theorem Part.sweepOrigin.low {o : Origin} (h : s.sweepOrigin o) : o.high = false := by
  obtain rfl | ⟨k, rfl, -⟩ := h <;> rfl

section
variable (ok : s.Sound) (live : s.mode ≠ .setup) (off : (s.load n).phase = .off)
include ok live off

theorem Part.sweeps_newEntry {o : Origin} (own : s.sweepOrigin o) :
    s.Sweeps (s.newEntry n o) ∧ (s.newEntry n o).Rooted n := by
  have out : n ∉ s.queuedLoads := fun listed => by rw [(ok.queued n).2 listed] at off; cases off
  have kept (m : LoadId) (root : s.Rooted m) : (s.newEntry n o).Rooted m :=
    root.mono fun k e root found => by
      rw [Part.entry?_newEntry_ne ok out o fun is => out (is ▸ root.listed)]; exact found
  have rooted : (s.newEntry n o).Rooted n := by
    obtain ⟨e, found, origin⟩ := Part.entry?_newEntry_self ok out o
    obtain rfl | ⟨k, rfl, root⟩ := own
    · exact .wake found origin
    · exact .pull found origin (kept k root)
  refine ⟨⟨Part.asks_newEntry off live o, kept, fun m listed => ?_⟩, rooted⟩
  obtain rfl | listed := List.mem_cons.1 ((s.newEntry_queuedLoads n o).mem_iff.1 listed)
  · exact .inr rooted
  · exact .inl listed

/-- An entry that comes and goes takes no rooted load with it. -/
theorem Part.sweeps_bounce (o : Origin) : s.Sweeps ((s.newEntry n o).withdraw n .needLost) := by
  have out : n ∉ s.queuedLoads := fun listed => by rw [(ok.queued n).2 listed] at off; cases off
  have listed : n ∈ (s.newEntry n o).queuedLoads := (s.newEntry_queuedLoads n o).mem_iff.2 List.mem_cons_self
  have dropped : s.SparesRooted (((s.newEntry n o).dropEntry n).raise (.startFailed n .needLost)) := by
    refine ⟨fun k e root found => ?_, fun k listed => ?_, ?_⟩
    · have other : k ≠ n := fun is => out (is ▸ root.listed)
      show ((s.newEntry n o).dropEntry n).entry? k = _
      rw [Part.entry?_dropEntry_ne _ other, Part.entry?_newEntry_ne ok out o other]
      exact found
    · obtain ⟨listed, other⟩ := Part.mem_dropEntry.1 (show k ∈ ((s.newEntry n o).dropEntry n).queuedLoads from listed)
      exact (List.mem_cons.1 ((s.newEntry_queuedLoads n o).mem_iff.1 listed)).resolve_left other
    · show ((s.newEntry n o).removeEntry n).queuedLoads.Nodup
      rw [Part.removeEntry_queuedLoads]
      exact ((Part.asks_newEntry off live o).sound ok).once.filter _
  have settled := dropped.settleOrphans 64 (gone := [n]) fun g is there => by
    rw [List.mem_singleton.1 is] at there
    exact (Part.mem_dropEntry.1 (show n ∈ ((s.newEntry n o).dropEntry n).queuedLoads from there)).2 rfl
  have eq : (s.newEntry n o).withdraw n .needLost =
      (((s.newEntry n o).dropEntry n).raise (.startFailed n .needLost)).settleOrphans 64 [n] := Part.withdraw_eq rfl
  refine ⟨(Part.asks_newEntry off live o).trans (Part.asks_withdraw (.inl listed) rfl), ?_, ?_⟩
  · rw [eq]; exact fun m root => root.mono settled.kept
  · rw [eq]; exact fun m listed => .inl (settled.fewer listed)

end

/-- What a request must keep to for pull-up to keep to it. -/
def sweepsAsked (ask : Part → LoadId → Origin → Part) : Prop :=
  ∀ (s : Part) (n : LoadId) (o : Origin), s.Sound → s.sweepOrigin o → s.Sweeps (ask s n o)

section
variable {ask : Part → LoadId → Origin → Part} (asked : sweepsAsked ask)
include asked

theorem Part.sweeps_pullNeed {k : LoadId} (ok : s.Sound) (root : s.Rooted k) (need : Need) :
    s.Sweeps (Part.pullNeed ask k s need) := by
  have next {u : Part} (h : s.Sweeps u) (m : LoadId) : s.Sweeps (ask u m (.pull k)) :=
    h.trans (asked u m _ (h.asks.sound ok) (.inr ⟨k, rfl, h.rooted k root⟩))
  cases need with
  | load j =>
    unfold Part.pullNeed
    dsimp only
    split
    · exact next (.refl s) j
    · exact .refl s
  | group g =>
    rw [Part.pullNeed, Part.askStoppingMembers]
    refine Part.Sweeps.foldl (f := Prod.fst) _ _ (fun acc m h => ?_) ?_
    · split
      · exact next h m
      · exact h
    · refine Part.Sweeps.foldl (f := Prod.fst) _ _ (fun acc m h => ?_) (.refl s)
      split
      · exact next h m
      · exact h

theorem Part.sweeps_enqueueNew {o : Origin} (ok : s.Sound) (live : s.mode ≠ .setup) (off : (s.load n).phase = .off)
    (own : s.sweepOrigin o) : s.Sweeps (Part.enqueueNew ask s n o) := by
  obtain ⟨entered, root⟩ := Part.sweeps_newEntry ok live off own
  unfold Part.enqueueNew
  dsimp only
  split
  · have pulls (l : List Need) : ∀ u, s.Sweeps u → u.Rooted n → s.Sweeps (l.foldl (Part.pullNeed ask n) u) := by
      induction l with
      | nil => exact fun u h _ => h
      | cons need l ih =>
        intro u h root
        have step := Part.sweeps_pullNeed asked (h.asks.sound ok) root need
        exact ih _ (h.trans step) (step.rooted n root)
    exact (pulls _ _ entered root).trans (.of_queue (Part.asks_startScan _) rfl)
  · exact Part.sweeps_bounce ok live off o

theorem Part.sweeps_requestOff {o : Origin} (ok : s.Sound) (live : s.mode ≠ .setup) (off : (s.load n).phase = .off)
    (own : s.sweepOrigin o) : s.Sweeps (Part.requestOff ask s n o) := by
  have new := Part.sweeps_enqueueNew asked ok live off own
  obtain rfl | ⟨k, rfl, root⟩ := own
  · exact new
  · have stands : s.pullerStands k = true := by simp [Part.pullerStands, (ok.queued k).2 root.listed]
    simp only [Part.requestOff, stands, if_true]
    exact new

end

theorem Part.sweeps_request (fuel : Nat) : sweepsAsked (Part.request fuel) := by
  induction fuel with
  | zero => exact fun s n o _ _ => .refl s
  | succ fuel ih =>
    intro s n o ok own
    unfold Part.request
    split
    · exact .refl s
    · next live =>
      split
      · next off =>
        split
        · exact .refl s
        · exact Part.sweeps_requestOff ih ok live off own
      · split
        · next e found =>
          rw [Origin.merge_same fun high => by rw [own.low] at high; cases high]
          have same (k : LoadId) : (s.setOrigin n e.origin).entry? k = s.entry? k := by
            rw [Part.entry?_setOrigin]
            cases there : s.entry? k with
            | none => rfl
            | some d =>
              rw [Option.map_some]
              split
              · next is =>
                rw [← (Part.entry?_some there).2, is, found] at there
                cases there; rfl
              · rfl
          refine ⟨s.asks_setOrigin n _, fun m => Part.Rooted.mono fun k d _ there => (same k).trans there,
            fun m listed => .inl ?_⟩
          rwa [Part.setOrigin_queuedLoads] at listed
        · exact .refl s
      · next second stopping => exact .of_queue (Part.asks_holdRequest (by rw [stopping]; rfl) _) rfl
      · exact .refl s

/-! ## The sweep (R123) -/

theorem Part.mem_sweepList (can : s.sweeps n) : n ∈ s.sweepList := by
  obtain ⟨inUse, off, free, -, low⟩ := can
  refine List.mem_flatMap.2 ⟨(s.config n).wakePriority, List.mem_range.2 (by omega), ?_⟩
  simp [allLoads, inUse, off, free]

/-- The sweep leaves a load that it asks for, and that needs nothing else, queued and rooted. -/
theorem Part.sweep_rooted (ok : s.Sound) (live : s.mode ≠ .setup) (can : s.sweeps n) : s.sweep.Rooted n := by
  have listed := Part.mem_sweepList can
  obtain ⟨-, off, free, alone, -⟩ := can
  have step (u : Part) (m : LoadId) (h : s.Sweeps u) : s.Sweeps (u.enqueue m .wake) :=
    h.trans (Part.sweeps_request 65 u m .wake (h.asks.sound ok) (.inl rfl))
  have out : n ∉ s.queuedLoads := fun listed => by rw [(ok.queued n).2 listed] at off; cases off
  refine (foldl_reaches (f := fun u m => u.enqueue m .wake) (P := fun u => s.Sweeps u) (Q := fun u => u.Rooted n) step
    (fun u h => ?_) (fun u m h root => (Part.sweeps_request 65 u m .wake (h.asks.sound ok) (.inl rfl)).rooted n root)
    listed (.refl s)).2
  have next := Part.sweeps_request 65 u n .wake (h.asks.sound ok) (.inl rfl)
  obtain off' | queued := h.asks.rests (.inl off)
  · obtain ⟨-, -, -, -, -, offCount, -⟩ := h.asks.work.modeWork.reads h.asks.work.holds
    have new : u.enqueue n .wake = (u.newEntry n .wake).startScan := by
      rw [Part.enqueue, Part.request_off 64 (by rw [h.asks.work.mode]; exact live) off' ((offCount n).trans free)]
      exact Part.enqueueNew_alone _ _ _ (by rw [h.asks.work.config]; exact alone)
    obtain ⟨-, root⟩ := Part.sweeps_newEntry (h.asks.sound ok) (by rw [h.asks.work.mode]; exact live) off' (.inl rfl)
    rw [new]
    exact (Part.Sweeps.of_queue (Part.asks_startScan _) rfl).rooted n root
  · have root := (h.fresh n (((h.asks.sound ok).queued n).1 queued)).resolve_left out
    exact next.rooted n root

/-- Where there is none to ask for, the sweep does nothing. -/
theorem Part.sweep_none (none : s.sweepsNone) : s.sweep = s := by
  have empty : s.sweepList = [] := by
    refine List.flatMap_eq_nil_iff.2 fun p _ => List.filter_eq_nil_iff.2 fun k _ => ?_
    intro asks
    simp only [Bool.and_eq_true, Bool.or_eq_true, decide_eq_true_eq] at asks
    obtain ⟨⟨⟨inUse, off | stopping⟩, free⟩, -⟩ := asks
    · exact (none k inUse free).1 off
    · rw [(none k inUse free).2] at stopping; cases stopping
  rw [Part.sweep, empty]
  rfl

end

end Sys2Proof.Machine
end

section
/-! WAKE by command, and SET MODE in every mode but SETUP (R117 to R125). -/

namespace Sys2Proof.Machine

section
variable {s : State} {b : Byte}

/-- The grace deadline of a WAKE entered by command (R123). -/
def Part.commandGrace (p : Part) (target : Option WakeTarget) : Option Nat :=
  target.map fun w => w.at_ + 60 * p.cfg.active.wakeGraceMin

theorem Part.wakeMove_night {p : Part} {target : Option WakeTarget} {wakeBegin : Option Nat} {lead : Nat}
    (night : p.ncc.mode = .night target wakeBegin lead) :
    ∃ grace, p.wakeMove = .wake grace false ∧ grace.map Int.toNat = p.commandGrace target := by
  unfold Part.wakeMove
  rw [night]
  cases target with
  | none => exact ⟨none, rfl, rfl⟩
  | some w => exact ⟨some (p.graceAfter w.at_), rfl, congrArg some (Int.toNat_natCast _)⟩

/-- What the move to WAKE makes of the part before it is closed, and the further change it calls for. -/
theorem Part.applyMove_wake (p : Part) (grace : Option Int) :
    (p.applyMove (.wake grace false)).1 = ((p.tellMode (.wake (grace.map Int.toNat))).sweep).raiseMode false ∧
      (p.applyMove (.wake grace false)).2 =
        if ((p.tellMode (.wake (grace.map Int.toNat))).sweep).wakeWork then none else some (.day false none) := by
  refine ⟨rfl, ?_⟩
  simp only [Part.applyMove, Part.afterSweep]
  have same : (((p.tellMode (.wake (grace.map Int.toNat))).sweep).raiseMode false).wakeWork =
      ((p.tellMode (.wake (grace.map Int.toNat))).sweep).wakeWork := Part.wakeWork_of rfl rfl rfl
  rw [same]
  cases ((p.tellMode (.wake (grace.map Int.toNat))).sweep).wakeWork with
  | false => rfl
  | true => cases grace <;> rfl

/-- A telling leaves what the sweep reads of a load that does not run. -/
theorem Part.tellMode_still (p : Part) (m : ModeState) {n : LoadId} (still : (p.load n).phase.running = false) :
    (p.tellMode m).load n = p.load n := by
  rw [Part.tellMode_load, still]
  rfl

theorem Part.tellMode_wakeWork (p : Part) (m : ModeState) : (p.tellMode m).wakeWork = p.wakeWork := by
  have starting (n : LoadId) : (decide (((p.tellMode m).load n).phase = .starting)) = decide ((p.load n).phase = .starting) := by
    by_cases runs : (p.load n).phase.running = true
    · have phase := Part.tellMode_running runs m
      have running := runningPhase_running (p.setMode m).mode
      have away {q : LoadPhase} (runs : q.running = true) : decide (q = .starting) = false := by
        cases q <;> first | rfl | cases runs
      rw [phase, away running, away runs]
    · rw [p.tellMode_still m (Bool.eq_false_iff.2 runs)]
  unfold Part.wakeWork
  simp only [Part.tellMode_dgv, starting]

theorem Part.sweeps_told {p : Part} {n : LoadId} (can : p.sweeps n) (m : ModeState) : (p.tellMode m).sweeps n := by
  have work := p.modeWork_tellMode m
  obtain ⟨-, -, -, -, -, offCount, -⟩ := work.reads (p.tellMode_holds m)
  obtain ⟨used, off, free, alone, low⟩ := can
  exact ⟨(work.inUse n).trans used, by rw [p.tellMode_still m (by rw [off]; rfl)]; exact off, (offCount n).trans free,
    by rw [work.config]; exact alone, by rw [work.config]; exact low⟩

theorem Part.sweepsNone_told {p : Part} (none : p.sweepsNone) (m : ModeState) : (p.tellMode m).sweepsNone := by
  have work := p.modeWork_tellMode m
  obtain ⟨-, -, -, -, -, offCount, -⟩ := work.reads (p.tellMode_holds m)
  intro n used free
  by_cases runs : (p.load n).phase.running = true
  · have running := runningPhase_running (p.setMode m).mode
    rw [Part.tellMode_running runs]
    exact ⟨fun off => (by rw [off] at running; cases running), Bool.eq_false_iff.2 fun stops => by
      rw [LoadPhase.not_running_of_stopping stops] at running; cases running⟩
  · rw [p.tellMode_still m (Bool.eq_false_iff.2 runs)]
    exact none n ((work.inUse n).symm.trans used) ((offCount n).symm.trans free)

/-- An entry to WAKE whose sweep asks for a load that needs nothing else stays in WAKE, with that load queued. -/
theorem Part.changeMode_wake {p : Part} {n : LoadId} (ok : p.Sound) (can : p.sweeps n) (grace : Option Int) :
    ∃ w, p.changeMode (.wake grace false) = w ∧ w.ncc.mode = .wake (grace.map Int.toNat) ∧ w.modeRaised .wake false ∧
      w.wakeWork = true ∧ n ∈ w.queuedLoads ∧ w.cfg = p.cfg := by
  obtain ⟨entered, next⟩ := p.applyMove_wake grace
  have told := (Part.follows_tellMode (s := p) (m := .wake (grace.map Int.toNat)) nofun).sound ok
  have can := Part.sweeps_told can (.wake (grace.map Int.toNat))
  have awake : (p.tellMode (.wake (grace.map Int.toNat))).mode = .wake := p.tellMode_mode _
  have modeState : (p.tellMode (.wake (grace.map Int.toNat))).ncc.mode = .wake (grace.map Int.toNat) := by
    obtain ⟨_, _, eq⟩ := p.tellMode_eq (.wake (grace.map Int.toNat))
    rw [eq]; rfl
  have cfg := (p.sameSchedule_tellMode (.wake (grace.map Int.toNat))).cfg
  generalize p.tellMode (.wake (grace.map Int.toNat)) = v at entered next told can awake modeState cfg
  have root := Part.sweep_rooted told (by rw [awake]; nofun) can
  have work := v.loadWork_sweep
  refine ⟨v.sweep.raiseMode false, ?_, (congrArg NightCycle.mode work.ncc).trans modeState, ?_, ?_, root.listed,
    work.cfg.trans cfg⟩
  · rw [Part.changeMode, Part.runMoves_some, next, root.wakeWork, entered]
    exact Part.runMoves_none _ _
  · have raised := v.sweep.modeRaised_raiseMode false
    rw [work.mode, awake] at raised
    exact raised
  · exact (Part.wakeWork_of (t := v.sweep.raiseMode false) rfl rfl rfl).trans root.wakeWork

theorem exec_setMode_wake (can : s.canServe (.setMode b) = true) (named : b = 4) {target : Option WakeTarget}
    {wakeBegin : Option Nat} {lead : Nat} (night : s.ncc.mode = .night target wakeBegin lead) :
    ∃ grace : Option Int, grace.map Int.toNat = s.commandGrace target ∧ exec (.setMode b) s =
      .next (s.answered (.setMode b) (s.moveMode (.wake grace false)).1 (s.moveMode (.wake grace false)).2) := by
  subst named
  obtain ⟨grace, move, deadline⟩ := Part.wakeMove_night night
  have here : s.mode = .night := by rw [Part.mode, night]
  have request : s.modeRequest .wake = .move (.wake grace false) := by
    unfold Part.modeRequest
    rw [night, ← move]
  exact ⟨grace, deadline, exec_setMode_move can (m := .wake) rfl (by rw [here]; nofun) request⟩

theorem setMode_wake {grace : Option Int} {n : LoadId}
    (done : exec (.setMode b) s =
      .next (s.answered (.setMode b) (s.moveMode (.wake grace false)).1 (s.moveMode (.wake grace false)).2))
    (ok : s.Sound) (asked : s.sweeps n) :
    ∃ t : State, exec (.setMode b) s = .next t ∧ t.replies 0x05 .ok [4, 0, 0] ∧
      s.EntersWake t.toPart (grace.map Int.toNat) n ∧ t.holds = s.holds ∧ s.SameOutside t.toPart := by
  obtain ⟨w, moved, modeState, raised, works, listed, cfg⟩ := Part.changeMode_wake ok asked grace
  obtain ⟨closed, calm, told⟩ := Part.finish_settled s.toPart fun _ => works
  have outside := s.modeWork_moveMode (.wake grace false)
  have holds := s.moveMode_holds (m := .wake grace false) rfl
  have modeState := (congrArg NightCycle.mode closed.ncc).trans modeState
  have mode : (s.finish w).mode = .wake := by rw [Part.mode, modeState]
  have queued := calm.queuedLoads
  rw [Part.moveMode, moved] at done outside holds
  rw [Part.modeRaised, ← told] at raised
  have cfg := closed.cfg.trans cfg
  generalize s.finish w = u at done outside holds modeState mode queued raised cfg
  rw [show u.modeData = [4, 0, 0] by rw [Part.modeData, mode]; rfl] at done
  exact ⟨_, done, rfl, ⟨modeState, raised, (by rw [← queued] at listed; exact listed), cfg⟩, holds,
    outside.sameOutside_answer _ _⟩

/-- A WAKE that finds nothing to start is over at once. -/
theorem setMode_wake_over {grace : Option Int}
    (none : s.sweepsNone) (idle : s.wakeWork = false) : s.changeMode (.wake grace false) =
      ((s.tellMode (.wake (grace.map Int.toNat))).raiseMode false).runMoves (5 + 2) (some (.day false Option.none)) := by
  obtain ⟨entered, next⟩ := s.applyMove_wake grace
  rw [Part.sweep_none (Part.sweepsNone_told none _)] at entered next
  rw [Part.changeMode, Part.runMoves_some, next, entered, s.tellMode_wakeWork, idle]
  rfl

end

/-- Settles O18: each row of Table 5-3 outside SETUP is a mode change, which is carried out, closed and answered. -/
theorem windDownByCommand : Obligations.WindDownByCommand := by
  refine fun s b can => ⟨fun day named warns => setMode_windDown can (by rw [named]; rfl) day warns,
    fun asked stays => setMode_night can asked stays, fun named deadline scheduled down => ?_,
    fun named target wakeBegin lead night => ?_, fun named wake => ?_⟩
  · have here : s.mode = .windDown := by rw [Part.mode, down]
    have done : exec (.setMode b) s = .next (s.answered (.setMode b) (s.moveMode (.day false (some deadline))).1
        (s.moveMode (.day false (some deadline))).2) := by
      obtain rfl | rfl := named
      · exact exec_setMode_move can (m := .day) rfl (by rw [here]; nofun) (by unfold Part.modeRequest; rw [down])
      · exact exec_setMode_move can (m := .wake) rfl (by rw [here]; nofun) (by unfold Part.modeRequest; rw [down])
    exact setMode_day rfl (Part.SameSchedule.refl _) 6 rfl done
  · obtain ⟨grace, deadline, done⟩ := exec_setMode_wake can named night
    refine ⟨fun ok n asked => ?_, fun none idle => ?_⟩
    · have entered := setMode_wake done ok.sound asked
      rw [deadline] at entered
      exact entered
    · exact setMode_day rfl (s.sameSchedule_told _ false) 5 (setMode_wake_over none idle) done
  · subst named
    have request : s.modeRequest .day = .move (.day false none) := by
      unfold Part.modeRequest
      unfold Part.mode at wake
      split <;> simp_all
    exact setMode_day rfl (Part.SameSchedule.refl _) 6 rfl
      (exec_setMode_move can (m := .day) rfl (by rw [wake]; nofun) request)

end Sys2Proof.Machine
end

section
/-! What the effect of one load's feedback leaves of another load (R32, R33, R37, R38, R40). -/

namespace Sys2Proof.Machine

/-- From s to t the load's state has changed by requests alone, by which it may be queued or withdrawn, and what has
been raised stays raised. -/
structure Part.Hears (s t : Part) (n : LoadId) : Prop where
  work : s.LoadWork t
  phase : (t.load n).phase = (s.load n).phase ∨ (t.load n).phase = .off ∨ (t.load n).phase = .queued
  kept : (s.load n).phase ≠ .off → n ∉ s.queuedLoads → (t.load n).phase = (s.load n).phase ∧ n ∉ t.queuedLoads
  origin : t.dgv.startingOrigin[n] = s.dgv.startingOrigin[n]
  scan : s.dgv.scanDue = true → t.dgv.scanDue = true
  raised : ∀ i : Fin 8, s.atl.pending.getLsbD i = true → t.atl.pending.getLsbD i = true
  station : t.atl.details[1] = s.atl.details[1]
  failed : n ∈ s.queuedLoads ∨ s.failed → n ∈ t.queuedLoads ∨ t.failed

/-- From s to t the load has been passed by: its record has changed by requests alone. -/
structure Part.Passes (s t : Part) (n : LoadId) : Prop extends s.Hears t n where
  record : t.load n = { s.load n with
    phase := (t.load n).phase, changed := (t.load n).changed, heldEnqueue := (t.load n).heldEnqueue }

section
variable {s t u : Part} {n m : LoadId}

theorem Part.Hears.refl (s : Part) (n : LoadId) : s.Hears s n :=
  ⟨.refl s, .inl rfl, fun _ out => ⟨rfl, out⟩, rfl, id, fun _ => id, rfl, id⟩

theorem Part.Passes.refl (s : Part) (n : LoadId) : s.Passes s n := ⟨.refl s n, rfl⟩

theorem Part.Hears.trans (h : s.Hears t n) (g : t.Hears u n) : s.Hears u n where
  work := h.work.trans g.work
  phase := g.phase.elim (fun same => by rw [same]; exact h.phase) .inr
  kept up out := by
    obtain ⟨same, out'⟩ := h.kept up out
    obtain ⟨same', out''⟩ := g.kept (by rw [same]; exact up) out'
    exact ⟨same'.trans same, out''⟩
  origin := g.origin.trans h.origin
  scan due := g.scan (h.scan due)
  raised i up := g.raised i (h.raised i up)
  station := g.station.trans h.station
  failed start := g.failed (h.failed start)

theorem Part.Passes.trans (h : s.Passes t n) (g : t.Passes u n) : s.Passes u n :=
  ⟨h.toHears.trans g.toHears, by rw [g.record, h.record]⟩

theorem Part.Passes.ite {c : Prop} [Decidable c] (h : s.Passes t n) (g : s.Passes u n) :
    s.Passes (if c then t else u) n := by split <;> assumption

/-- A fold that comes to an item once is what comes before its turn, its turn, and what comes after. -/
theorem foldl_turn {α : Type} {f : Part → α → Part} {T : Part → Part → Prop} {x : α} {l : List α} (refl : ∀ s, T s s)
    (trans : ∀ {s t u}, T s t → T t u → T s u) (once : l.Nodup) (listed : x ∈ l)
    (other : ∀ s, ∀ y ∈ l, x ≠ y → T s (f s y)) (s : Part) : ∃ u, T s u ∧ T (f u x) (l.foldl f s) := by
  have away (l' : List α) (out : x ∉ l') (sub : l' ⊆ l) (s : Part) : T s (l'.foldl f s) := by
    induction l' generalizing s with
    | nil => exact refl s
    | cons y l' ih =>
      obtain ⟨isnt, out⟩ := not_or.1 (mt List.mem_cons.2 out)
      obtain ⟨head, tail⟩ := List.cons_subset.1 sub
      exact trans (other s y head isnt) (ih out tail (f s y))
  obtain ⟨l₁, l₂, rfl⟩ := List.append_of_mem listed
  obtain ⟨-, later, apart⟩ := List.nodup_append.1 once
  rw [List.foldl_append, List.foldl_cons]
  exact ⟨_, away l₁ (fun earlier => apart x earlier x List.mem_cons_self rfl) (List.subset_append_left _ _) s,
    away l₂ (List.nodup_cons.1 later).1 (fun y listed => List.mem_append_right _ (List.mem_cons_of_mem x listed)) _⟩

/-- Requests and reviews. -/
theorem Part.Asked.passes {a : Licence} (h : s.Asked a t) (loud : ¬ a.silent) (n : LoadId) : s.Passes t n where
  work := h.asks.work
  record := h.asks.record n
  phase := h.asks.phase n
  kept up out := ⟨(h.asks.kept n up out).1, (h.asks.kept n up out).2.2⟩
  origin := by rw [h.asks.governor]
  scan := h.asks.scan
  raised i up := by
    by_cases is : i = 3
    · subst is; exact h.asks.failed up
    · rw [(h.asks.causes i is).1]; exact up
  station := (h.asks.causes 1 (by decide)).2
  failed := h.queuedOrFailed loud

/-- An update of another load, which leaves the queue but for its entry, and raises no cause STATION. -/
theorem Part.Passes.of_other (work : s.LoadWork t) (load : t.load n = s.load n)
    (queued : n ∈ t.queuedLoads ↔ n ∈ s.queuedLoads) (origin : t.dgv.startingOrigin[n] = s.dgv.startingOrigin[n])
    (scan : s.dgv.scanDue = true → t.dgv.scanDue = true)
    (raised : ∀ i : Fin 8, s.atl.pending.getLsbD i = true → t.atl.pending.getLsbD i = true)
    (station : t.atl.details[1] = s.atl.details[1]) : s.Passes t n where
  work := work
  record := by rw [load]
  phase := .inl (by rw [load])
  kept _ out := ⟨by rw [load], fun listed => out (queued.1 listed)⟩
  origin := origin
  scan := scan
  raised := raised
  station := station
  failed := Or.imp queued.2 (raised 3)

theorem Part.passes_moveLoad (other : n ≠ m) (r : LoadRecord) : s.Passes (s.moveLoad m r) n :=
  .of_other (s.loadWork_moveLoad m r) (by rw [Part.moveLoad_load, if_neg other]) Iff.rfl rfl id (fun _ => id) rfl

theorem Part.passes_setLoad (other : n ≠ m) (r : LoadRecord) : s.Passes (s.setLoad m r) n :=
  .of_other (s.loadWork_setLoad m r) (by rw [Part.setLoad_load, if_neg other]) Iff.rfl rfl id (fun _ => id) rfl

theorem Part.passes_setStartingOrigin (other : n ≠ m) (o : Option Origin) : s.Passes (s.setStartingOrigin m o) n := by
  refine .of_other (s.loadWork_setStartingOrigin m o) rfl Iff.rfl ?_ id (fun _ => id) rfl
  exact Vector.getElem_set_ne m.isLt n.isLt fun is => other (Fin.ext is.symm)

theorem Part.passes_reportChange (before s : Part) (m n : LoadId) : s.Passes (before.reportChange s m) n :=
  .of_other (before.loadWork_reportChange s m) (by simp) (by simp [Part.queuedLoads]) (by simp)
    (Part.reportChange_scan before s m) (by simp) (by simp)

theorem Part.passes_raise {d : Detail} (other : d.cause.index ≠ 1) : s.Passes (s.raise d) n := by
  refine .of_other (s.loadWork_raise d) rfl Iff.rfl rfl id (fun i up => ?_) (s.raise_others d other.symm).2
  rw [Part.raise_atl, BitVec.getLsbD_or, up, Bool.true_or]

theorem Part.passes_keepOffStop (other : n ≠ m) : s.Passes (s.keepOffStop m) n := by
  unfold Part.keepOffStop
  exact .ite (.ite ((Part.passes_moveLoad other _).trans (Part.passes_reportChange s _ m n))
    (Part.passes_setLoad other _)) (.refl s n)

theorem Part.passes_reachedOff (other : n ≠ m) : s.Passes (s.reachedOff m) n :=
  (Part.passes_moveLoad other _).trans (Part.passes_setLoad other _)

theorem Part.passes_enterOff (other : n ≠ m) : s.Passes (s.enterOff m) n :=
  (Part.passes_reachedOff other).trans ((s.asked_enterOff m).passes id n)

/-- A withdrawal of another load to OVERRIDE, and what settles its orphans. -/
theorem Part.passes_withdraw_override (other : n ≠ m) : s.Passes (s.withdraw m .override) n := by
  have gone : s.Passes ((s.removeEntry m).setPhase m .override) n := by
    refine Part.Passes.trans ?_ (Part.passes_moveLoad other _)
    exact .of_other (s.loadWork_removeEntry m) rfl (Part.mem_removeEntry.trans (and_iff_left other)) rfl id (fun _ => id) rfl
  have told : s.Passes (((s.removeEntry m).setPhase m .override).raise (.startFailed m .override)) n :=
    gone.trans (Part.passes_raise (d := .startFailed m .override) (show (3 : Fin 8) ≠ 1 by decide))
  refine told.trans ((Part.asked_settleOrphans (a := {}) 64 _ [m] ?_).passes id n)
  exact .inl (Part.raise_pending _ (.startFailed m .override))

theorem Part.passes_enterOverride (other : n ≠ m) : s.Passes (s.enterOverride m) n :=
  .ite (Part.passes_withdraw_override other) (Part.passes_moveLoad other _)

theorem Part.passes_completeStart (other : n ≠ m) : s.Passes (s.completeStart m) n := by
  have ran : s.Passes ((s.reportChange (s.moveLoad m { s.load m with
      phase := runningPhase s.mode, lastActivity := s.now, changed := true }) m).setStartingOrigin m none) n :=
    ((Part.passes_moveLoad other _).trans (Part.passes_reportChange s _ m n)).trans
      (Part.passes_setStartingOrigin other none)
  exact .ite (ran.trans (Part.passes_keepOffStop other)) ran

theorem Part.passes_failStart (other : n ≠ m) : s.Passes (s.failStart m) n :=
  ((((Part.passes_moveLoad other _).trans (Part.passes_setStartingOrigin other none)).trans
    (Part.passes_raise (d := .loadFault m) (show (0 : Fin 8) ≠ 1 by decide))).trans
    ((Part.asked_floorForMember _ m).passes id n)).trans ((Part.asked_needReview _).passes id n)

theorem Part.passes_feedbackEffect (other : n ≠ m) (was : Bool) : s.Passes (s.feedbackEffect m was) n := by
  have same := Part.Passes.refl s n
  have toOff := Part.passes_enterOff (s := s) other
  have toOverride := Part.passes_enterOverride (s := s) other
  have completes := Part.passes_completeStart (s := s) other
  have fails := Part.passes_failStart (s := s) other
  unfold Part.feedbackEffect
  dsimp only
  split
  · exact same.ite toOff
  · exact same.ite toOff
  · exact toOverride.ite same
  · exact toOverride.ite same
  · exact toOverride.ite same
  · exact toOff.ite same
  · exact completes.ite (fails.ite same)
  all_goals exact same

end

end Sys2Proof.Machine
end

section
/-! What a good reply's readings make of a load's record (R22 to R25, R92, R98). -/

namespace Sys2Proof.Machine

/-! ## The record (R22 to R25) -/

section
variable {r u : LoadRecord} {c : LoadConfig} {now kept : Nat} {v : Reading}

/-- A load's record after a reading, its last activity being at `kept` before it. -/
def LoadRecord.heard (r : LoadRecord) (c : LoadConfig) (now kept : Nat) (v : Reading) : LoadRecord :=
  ({ r with lastActivity := kept }.qualifyFeedback c.feedbackFilter v.feedback).qualifyActivity c now v

theorem LoadRecord.heard_frame : r.heard c now kept v = { r with
    feedback := (r.heard c now kept v).feedback, filterCount := (r.heard c now kept v).filterCount
    activityCount := (r.heard c now kept v).activityCount, activityWindow := (r.heard c now kept v).activityWindow
    lastActivity := (r.heard c now kept v).lastActivity } := by
  have frame := { r with lastActivity := kept }.qualified_frame c.feedbackFilter c now v
  rw [LoadRecord.heard]
  conv_lhs => rw [frame]

theorem LoadRecord.heard_feedback : (r.heard c now kept v).feedback =
    if v.feedback ≠ r.feedback ∧ c.feedbackFilter ≤ r.filterCount + 1 then v.feedback else r.feedback := by
  rw [LoadRecord.heard, LoadRecord.qualifyActivity_frame, LoadRecord.qualifyFeedback]
  by_cases same : v.feedback = r.feedback
  · simp [same]
  · by_cases full : c.feedbackFilter ≤ r.filterCount + 1 <;> simp [same, full]

theorem LoadRecord.heard_filterCount : (r.heard c now kept v).filterCount =
    if v.feedback = r.feedback ∨ c.feedbackFilter ≤ r.filterCount + 1 then 0 else r.filterCount + 1 := by
  rw [LoadRecord.heard, LoadRecord.qualifyActivity_frame, LoadRecord.qualifyFeedback]
  by_cases same : v.feedback = r.feedback
  · simp [same]
  · by_cases full : c.feedbackFilter ≤ r.filterCount + 1 <;> simp [same, full]

/-- Readings are qualified as they are whatever the load's state. -/
theorem LoadRecord.heard_state (p : LoadPhase) (told : Bool) (request : Option Origin) :
    { r with phase := p, changed := told, heldEnqueue := request }.heard c now kept v =
      { r.heard c now kept v with phase := p, changed := told, heldEnqueue := request } := by
  unfold LoadRecord.heard LoadRecord.qualifyActivity LoadRecord.qualifyFeedback LoadRecord.qualifyPulse LoadRecord.qualifyLevel
  dsimp only
  split <;> split_ifs <;> rfl

/-- The activity that a reading leaves, in a record that has kept it (R23, R24). -/
theorem LoadRecord.qualifyActivity_hears {q : LoadRecord} {last : Nat → Prop} (count : q.activityCount = r.activityCount)
    (window : q.activityWindow = r.activityWindow) (second : q.lastActivity = kept)
    (count' : u.activityCount = (q.qualifyActivity c now v).activityCount)
    (window' : u.activityWindow = (q.qualifyActivity c now v).activityWindow)
    (second' : last (q.qualifyActivity c now v).lastActivity) : r.hearsActivity u c v now kept last := by
  unfold LoadRecord.qualifyActivity LoadRecord.qualifyPulse LoadRecord.qualifyLevel at count' window' second'
  rw [LoadRecord.hearsActivity]
  dsimp only at *
  rw [← count, ← window, ← second]
  cases mode : c.activityMode with
  | pulse =>
    simp only [mode] at count' window' second' ⊢
    split_ifs at count' window' second' ⊢ with idle full
    · exact ⟨count', window'.trans idle.1, second'⟩
    · exact ⟨count', window', second'⟩
    · exact ⟨count', window', second'⟩
  | level =>
    simp only [mode] at count' window' second' ⊢
    exact ⟨count', window', second'⟩

end

/-! ## What each load draws (R91, R92, R98) -/

section
variable {s t : Part} {n m : LoadId}

/-- Up outside its inrush window: what the load adds to D is its run_kw, and that is something (R91). -/
def Part.draws (s : Part) (n : LoadId) : Prop :=
  s.inWindow n = false ∧ s.up n = true ∧ 0 < (s.config n).runKw

/-- What a load draws, it draws as long as nothing its demand reads changes. -/
theorem Part.draws_of_same (drew : s.draws n) (work : s.LoadWork t) (started : (t.load n).startedAt = (s.load n).startedAt)
    (up : t.up n = true) : t.draws n := by
  obtain ⟨window, -, power⟩ := drew
  refine ⟨?_, up, by rw [work.config]; exact power⟩
  rw [Part.inWindow, started, work.now, work.config]
  exact window

/-- A load that ceases to be up lowers D, which starts a scan. -/
theorem Part.draws.reported (drew : s.draws n) (work : s.LoadWork t) (started : (t.load n).startedAt = (s.load n).startedAt)
    (down : t.up n = false) : (s.reportChange t n).dgv.scanDue = true := by
  obtain ⟨window, up, power⟩ := drew
  have window' : t.inWindow n = false := by
    rw [Part.inWindow, started, work.now, work.config]
    exact window
  have before : s.contribution n = (s.config n).runKw := by
    rw [Part.contribution, window, up]; rfl
  have after : t.contribution n = 0 := by
    rw [Part.contribution, window', down]; rfl
  rw [Part.reportChange, before, after, decide_eq_true power, Bool.true_or, if_pos rfl]
  rfl

theorem Part.draws.enterStopping (drew : s.draws n) : (s.enterStopping n).dgv.scanDue = true := by
  refine drew.reported (s.loadWork_moveLoad n _) (by rw [Part.moveLoad_load_self]) ?_
  rw [Part.up, Part.moveLoad_load_self]
  simp [LoadRecord.up, LoadPhase.running]

/-- The checks stop no load that draws without a scan. -/
theorem Part.draws.takeChecks (fuel : Nat) (due : List LoadId) (drew : s.draws n) :
    (s.takeChecks fuel due).load n = s.load n ∨ (s.takeChecks fuel due).dgv.scanDue = true := by
  induction fuel generalizing s due with
  | zero => exact .inl rfl
  | succ fuel ih =>
    have stops {m : LoadId} {u : Part} (drew : u.draws n) (due : List LoadId) :
        ((u.enterStopping m).takeChecks fuel due).load n = u.load n ∨
          ((u.enterStopping m).takeChecks fuel due).dgv.scanDue = true := by
      by_cases is : n = m
      · subst is
        exact .inr ((Part.follows_takeChecks fuel _ due).scan drew.enterStopping)
      · have same : (u.enterStopping m).load n = u.load n := by rw [Part.enterStopping_load, if_neg is]
        rw [← same]
        exact ih due (Part.draws_of_same drew (u.loadWork_enterStopping m) (by rw [same])
          (by rw [Part.up, same]; exact drew.2.1))
    unfold Part.takeChecks
    split
    · exact .inl rfl
    · exact stops drew _
    · exact stops (u := s.nextChoice) drew _

/-! ## What reading a load leaves (R22 to R25) -/

/-- From s to t the load's record has become r, but for requests, and a sound plant stays sound. -/
structure Part.Reads (s t : Part) (n : LoadId) (r : LoadRecord) : Prop extends s.Hears t n where
  keeps : s.Keeps t
  record : t.load n = { r with
    phase := (t.load n).phase, changed := (t.load n).changed, heldEnqueue := (t.load n).heldEnqueue }

/-- A fold in which the load's turn changes its record, each other turn passing it by. -/
theorem Part.Reads.foldl {f : Part → LoadId → Part} {l : List LoadId} (once : l.Nodup) (listed : n ∈ l)
    (other : ∀ (s : Part) (m : LoadId), n ≠ m → s.Passes (f s m) n) (keeps : ∀ (s : Part) (m : LoadId), s.Keeps (f s m))
    (s : Part) : ∃ u, s.Reads u n (s.load n) ∧ (f u n).Reads (l.foldl f s) n ((f u n).load n) := by
  obtain ⟨u, ⟨before, kept⟩, after, kept'⟩ := foldl_turn (f := f) (T := fun s t => s.Passes t n ∧ s.Keeps t)
    (fun s => ⟨.refl s n, .refl s⟩) (fun h g => ⟨h.1.trans g.1, h.2.trans g.2⟩) once listed
    (fun s m _ isnt => ⟨other s m isnt, keeps s m⟩) s
  exact ⟨u, ⟨before.toHears, kept, before.record⟩, ⟨after.toHears, kept', after.record⟩⟩

/-- An update of the load's record that leaves its state. -/
theorem Part.hears_moveLoad {r : LoadRecord} (same : r.phase = (s.load n).phase) : s.Hears (s.moveLoad n r) n where
  work := s.loadWork_moveLoad n r
  phase := .inl (by rw [Part.moveLoad_load_self, same])
  kept _ out := ⟨by rw [Part.moveLoad_load_self, same], out⟩
  origin := rfl
  scan := id
  raised _ := id
  station := rfl
  failed := id

theorem Part.hears_setLoad {r : LoadRecord} (same : r.phase = (s.load n).phase) : s.Hears (s.setLoad n r) n where
  work := s.loadWork_setLoad n r
  phase := .inl (by rw [Part.setLoad_load_self, same])
  kept _ out := ⟨by rw [Part.setLoad_load_self, same], out⟩
  origin := rfl
  scan := id
  raised _ := id
  station := rfl
  failed := id

theorem Part.passes_qualifyLoad (other : n ≠ m) (v : Reading) : s.Passes (s.qualifyLoad m v) n :=
  (Part.passes_moveLoad other _).trans (Part.passes_reportChange s _ m n)

theorem Part.hears_qualifyLoad (s : Part) (n : LoadId) (v : Reading) : s.Hears (s.qualifyLoad n v) n :=
  (Part.hears_moveLoad (by rw [LoadRecord.qualified_frame])).trans (Part.passes_reportChange s _ n n).toHears

theorem Part.qualifyLoad_load (s : Part) (n : LoadId) (v : Reading) :
    (s.qualifyLoad n v).load n = (s.load n).heard (s.config n) s.now (s.load n).lastActivity v := by
  rw [Part.qualifyLoad, Part.reportChange_load, Part.moveLoad_load_self]
  rfl

/-- A reading by which a load that draws goes off starts a scan (R92, R98). -/
theorem Part.draws.qualifyLoad {v : Reading} (drew : s.draws n)
    (off : ((s.qualifyLoad n v).load n).feedback = false) : (s.qualifyLoad n v).dgv.scanDue = true := by
  have load := s.qualifyLoad_load n v
  have reached := (s.reportChange_load (s.moveLoad n (((s.load n).qualifyFeedback (s.config n).feedbackFilter
    v.feedback).qualifyActivity (s.config n) s.now v)) n n).symm
  refine drew.reported (s.loadWork_moveLoad n _) (reached.trans load ▸ ?_) ?_
  · rw [LoadRecord.heard_frame]
  · rw [Part.up, reached]
    exact Bool.and_eq_false_imp.2 fun on => absurd (off.symm.trans on) (by decide)

end

/-! ## Silence (R25) -/

section
variable {s : Part} {n : LoadId}

/-- The silence that a good reply ends, where it is handed to the station's loads. -/
def Part.silence (s : Part) (k : StationId) (before : Station) : Option Nat :=
  if 0 < before.missed ∧ (s.cfg.link.stations[k]).silenceCountsIdle = false then before.lastGood.map fun g => s.now - g
  else none

/-- The last activity of a load to which a silence is handed. -/
def keptActivity (now last : Nat) : Option Nat → Nat
  | some silence => min now (last + silence)
  | none => last

/-- A load is handed a silence. -/
def Part.handLoad (silence : Nat) (s : Part) (n : LoadId) : Part :=
  s.setLoad n { s.load n with lastActivity := min s.now ((s.load n).lastActivity + silence) }

theorem Part.keeps_handLoad (silence : Nat) (s : Part) (n : LoadId) : s.Keeps (s.handLoad silence n) :=
  Part.keeps_setLoad (fun ok => (ok.loads n).congr rfl rfl rfl rfl) fun _ => Iff.rfl

theorem Part.handLoad_load (silence : Nat) (s : Part) (n : LoadId) : (s.handLoad silence n).load n =
    { s.load n with lastActivity := min s.now ((s.load n).lastActivity + silence) } := Part.setLoad_load_self _ _ _

/-- The part after the silence has been handed to the station's loads. -/
def Part.silenced (s : Part) (k : StationId) (before : Station) : Part :=
  match s.silence k before with
  | some silence => ((slotsOf k).filter s.qualifies).foldl (Part.handLoad silence) s
  | none => s

theorem Part.useReply_awake {k : StationId} {before : Station} (awake : before.grade ≠ .offline) (v : Vector Reading 4) :
    s.useReply k before v = (s.silenced k before).qualifyReply k v := by
  unfold Part.useReply Part.silenced Part.silence Part.handSilence
  rw [if_neg awake]
  cases before.lastGood with
  | none => simp
  | some g =>
    by_cases missed : 0 < before.missed
    · cases (s.cfg.link.stations[k]).silenceCountsIdle
      · simp only [missed, if_true, and_self, Option.map_some]; rfl
      · simp [missed]
    · simp [missed]

/-- A load whose readings are qualified has been handed the silence. -/
theorem Part.reads_silenced {k : StationId} (before : Station) (reads : s.qualifies n = true) (here : stationOf n = k) :
    s.Reads (s.silenced k before) n { s.load n with
      lastActivity := keptActivity s.now (s.load n).lastActivity (s.silence k before) } := by
  unfold Part.silenced
  cases s.silence k before with
  | none => exact ⟨.refl s n, .refl s, rfl⟩
  | some silence =>
    dsimp only [keptActivity]
    obtain ⟨u, earlier, later⟩ := Part.Reads.foldl (f := Part.handLoad silence) ((slotsOf_nodup k).filter s.qualifies)
      (List.mem_filter.2 ⟨mem_slotsOf.2 here, reads⟩) (fun _ _ isnt => Part.passes_setLoad isnt _)
      (Part.keeps_handLoad silence) s
    have turn : u.Hears (u.handLoad silence n) n := Part.hears_setLoad rfl
    have record := later.record
    rw [Part.handLoad_load, earlier.work.now] at record
    refine ⟨(earlier.toHears.trans turn).trans later.toHears,
      (earlier.keeps.trans (Part.keeps_handLoad silence u n)).trans later.keeps, ?_⟩
    rw [record, earlier.record]

end

end Sys2Proof.Machine
end

section
/-! What stage 1 of a good reply leaves of a load, and what is heard of it before its feedback takes effect (R98, R137). -/

namespace Sys2Proof.Machine

section
variable {s t u : Part} {k : StationId} {n : LoadId} {r : LoadRecord}

/-! ## Stage 1 (R30, R137) -/

theorem Part.gradeReply_checks (s : Part) (k : StationId) (v : Vector Reading 4) : ∃ next : Part,
    s.gradeReply k v = s.recheck next ∧ next.loads = s.loads ∧ next.cfg = s.cfg ∧ next.ncc = s.ncc := by
  refine ⟨_, rfl, ?_⟩
  dsimp only
  split_ifs <;> exact ⟨rfl, rfl, rfl⟩

theorem Part.loadWork_gradeReply (s : Part) (k : StationId) (v : Vector Reading 4) :
    (s.setStation k (s.graded k v)).LoadWork (s.gradeReply k v) := by
  refine Part.LoadWork.trans (.ite _ (.refl _) (Part.loadWork_raise _ _)) (t := s.regraded k v) ?_
  unfold Part.gradeReply
  dsimp only
  exact .trans (.ite _ (Part.loadWork_startScan _) (.refl _)) (Part.loadWork_recheck _ _)

/-- A load is left as it is, or stopped by its check, which where it draws starts a scan. -/
theorem Part.gradeReply_load (s : Part) (k : StationId) (v : Vector Reading 4) (n : LoadId) :
    (s.gradeReply k v).load n = s.load n ∨ ((s.load n).phase.running = true ∧
      (s.gradeReply k v).load n =
        { s.load n with phase := .stopping s.now, stopPending := false, changed := true } ∧
      (s.draws n → (s.gradeReply k v).dgv.scanDue = true)) := by
  obtain ⟨next, checked, loads, cfg, ncc⟩ := s.gradeReply_checks k v
  have load : next.load n = s.load n := by rw [Part.load, loads]; rfl
  have now : next.now = s.now := by rw [Part.now, ncc]; rfl
  rw [checked]
  show (next.takeChecks 64 (s.changedInputs next)).load n = _ ∨ (_ ∧ (next.takeChecks 64 (s.changedInputs next)).load n = _ ∧
    (_ → (next.takeChecks 64 (s.changedInputs next)).dgv.scanDue = true))
  obtain same | ⟨runs, stopped⟩ := next.takeChecks_load 64 (s.changedInputs next) n
  · exact .inl (same.trans load)
  · rw [load] at runs
    refine .inr ⟨runs, by rw [stopped, load, now], fun drew => ?_⟩
    have drew : next.draws n := by
      obtain ⟨window, up, power⟩ := drew
      refine ⟨?_, by rw [Part.up, load]; exact up, by rw [Part.config, cfg]; exact power⟩
      rw [Part.inWindow, load, now, Part.config, cfg]
      exact window
    refine (drew.takeChecks 64 (s.changedInputs next)).resolve_left fun same => ?_
    have is := congrArg LoadRecord.phase (same.symm.trans stopped)
    rw [load] at is
    rw [is] at runs
    cases runs

/-! ## What is heard (R22 to R25) -/

theorem Part.Reads.trans (h : s.Reads t n r) (g : t.Reads u n (t.load n)) : s.Reads u n r :=
  ⟨h.toHears.trans g.toHears, h.keeps.trans g.keeps, by rw [g.record, h.record]⟩

/-- A record that requests alone have changed, and the silence, hears what the record heard that it was. -/
theorem LoadRecord.heard_of_reads {q : LoadRecord} {kept : Nat} (c : LoadConfig) (now : Nat) (v : Reading)
    (same : q = { r with
      lastActivity := kept, phase := q.phase, changed := q.changed, heldEnqueue := q.heldEnqueue }) :
    q.heard c now q.lastActivity v = { r.heard c now kept v with
      phase := q.phase, changed := q.changed, heldEnqueue := q.heldEnqueue } := by
  have activity : q.lastActivity = kept := by rw [same]
  rw [activity]
  conv_lhs => rw [same]
  exact r.heard_state q.phase q.changed q.heldEnqueue

theorem Part.Hears.qualifies (h : s.Hears t n) (reads : s.qualifies n = true) : t.qualifies n = true := by
  rw [Part.qualifies, Bool.and_eq_true, bne_iff_ne] at reads ⊢
  obtain ⟨used, reach⟩ := reads
  refine ⟨(h.work.inUse n).trans used, fun lost => ?_⟩
  obtain same | off | queued := h.phase
  · exact reach (same.symm.trans lost)
  · rw [lost] at off; cases off
  · rw [lost] at queued; cases queued

/-- A load that is heard goes on drawing, up to its own reading. -/
theorem Part.draws.hears (drew : s.draws n) (ok : s.Sound) (h : s.Hears t n)
    (feedback : (t.load n).feedback = (s.load n).feedback) (started : (t.load n).startedAt = (s.load n).startedAt) :
    t.draws n := by
  have up : (s.load n).up = true := drew.2.1
  have phase : (t.load n).phase = (s.load n).phase := by
    refine (h.kept (fun off => ?_) fun listed => ?_).1
    · simp [LoadRecord.up, off, LoadPhase.running] at up
    · simp [LoadRecord.up, (ok.queued n).2 listed, LoadPhase.running] at up
  exact Part.draws_of_same drew h.work started (by rw [Part.up, LoadRecord.up, feedback, phase]; exact up)

/-- A good reply from a station that was not OFFLINE: each of its loads is heard, its feedback then takes effect, and
the effects of the others pass it by. -/
theorem Part.useReply_turn {before : Station} (awake : before.grade ≠ .offline) (v : Vector Reading 4)
    (reads : s.qualifies n = true) (here : stationOf n = k) :
    ∃ u : Part, s.Reads u n ((s.load n).heard (s.config n) s.now
        (keptActivity s.now (s.load n).lastActivity (s.silence k before)) v[channelOf n]) ∧
      (s.Sound → s.draws n → (u.load n).feedback = false → u.dgv.scanDue = true) ∧
      (u.feedbackEffect n (s.load n).feedback).Reads (s.useReply k before v) n
        ((u.feedbackEffect n (s.load n).feedback).load n) := by
  rw [Part.useReply_awake awake]
  have handed := Part.reads_silenced before reads here
  generalize keptActivity s.now (s.load n).lastActivity (s.silence k before) = kept at *
  generalize s.silenced k before = h at *
  have listed : n ∈ (slotsOf k).filter h.qualifies :=
    List.mem_filter.2 ⟨mem_slotsOf.2 here, handed.qualifies reads⟩
  have once := (slotsOf_nodup k).filter h.qualifies
  obtain ⟨a, earlier, later⟩ := Part.Reads.foldl (f := fun s m => s.qualifyLoad m v[channelOf m]) once listed
    (fun _ _ isnt => Part.passes_qualifyLoad isnt _) (fun s m => s.keeps_qualifyLoad m _) h
  obtain ⟨u, sooner, rest⟩ := Part.Reads.foldl (f := fun s' m => s'.feedbackEffect m (h.load m).feedback) once listed
    (fun _ _ isnt => Part.passes_feedbackEffect isnt _) (fun s m => s.keeps_feedbackEffect m _)
    (((slotsOf k).filter h.qualifies).foldl (fun s m => s.qualifyLoad m v[channelOf m]) h)
  have was : (h.load n).feedback = (s.load n).feedback := by rw [handed.record]
  have base := handed.trans earlier
  have after := later.trans sooner
  rw [was] at rest
  refine ⟨u, ⟨(base.toHears.trans (a.hears_qualifyLoad n _)).trans after.toHears,
    (base.keeps.trans (a.keeps_qualifyLoad n _)).trans after.keeps, ?_⟩, fun ok drew off => ?_, rest⟩
  · have heard := LoadRecord.heard_of_reads (s.config n) s.now v[channelOf n] base.record
    have record := after.record
    rw [Part.qualifyLoad_load, base.work.config, base.work.now, heard] at record
    exact record
  · have drew : a.draws n := drew.hears ok base.toHears (by rw [base.record]) (by rw [base.record])
    refine after.scan (drew.qualifyLoad ?_)
    rw [after.record] at off
    exact off

end

end Sys2Proof.Machine
end

section
/-! What a load's own feedback makes of it, and that it lasts (R32, R33, R37, R38, R40). -/

namespace Sys2Proof.Machine

section
variable {s t u : Part} {n : LoadId}

/-! ## The record -/

/-- What an effect leaves of a record: its readings and its start, and its last activity but where a start completes
at the present second. -/
def LoadRecord.Leaves (r e : LoadRecord) (now : Nat) : Prop :=
  e = { r with
    phase := e.phase, stopPending := e.stopPending, changed := e.changed, heldEnqueue := e.heldEnqueue
    stoppedAt := e.stoppedAt, lastActivity := e.lastActivity } ∧
  (e.lastActivity = r.lastActivity ∨ (r.phase = .starting ∧ e.phase ≠ .starting ∧ e.lastActivity = now))

theorem LoadRecord.Leaves.refl (r : LoadRecord) (now : Nat) : r.Leaves r now := ⟨rfl, .inl rfl⟩

theorem LoadRecord.leaves_of_same {r e : LoadRecord} {now : Nat} (same : e = { r with
    phase := e.phase, stopPending := e.stopPending, changed := e.changed, heldEnqueue := e.heldEnqueue
    stoppedAt := e.stoppedAt }) : r.Leaves e now :=
  ⟨by rw [same], .inl (by rw [same])⟩

theorem Part.enterOff_load (s : Part) (n : LoadId) : (s.enterOff n).load n = { s.load n with
    phase := ((s.enterOff n).load n).phase, stoppedAt := some s.now, changed := ((s.enterOff n).load n).changed
    heldEnqueue := ((s.enterOff n).load n).heldEnqueue } ∧
    (((s.enterOff n).load n).phase = .off ∨ ((s.enterOff n).load n).phase = .queued) := by
  have load := s.reachedOff_load n n
  rw [if_pos rfl] at load
  have asks := s.asks_enterOff n
  refine ⟨(asks.record n).trans ?_, ?_⟩
  · rw [load]
  · obtain same | rests := asks.phase n
    · exact .inl (same.trans (by rw [load]))
    · exact rests

theorem Part.enterOff_leaves (s : Part) (n : LoadId) : (s.load n).Leaves ((s.enterOff n).load n) s.now := by
  refine LoadRecord.leaves_of_same ?_
  conv_lhs => rw [(s.enterOff_load n).1]
  rw [(s.enterOff_load n).1]

/-! ## A load found running (R40) -/

/-- A withdrawal to OVERRIDE up to its orphans. -/
def Part.overridden (s : Part) (n : LoadId) : Part :=
  ((s.removeEntry n).setPhase n .override).raise (.startFailed n .override)

theorem Part.overridden_load (s : Part) (n : LoadId) :
    (s.overridden n).load n = { s.load n with phase := .override, changed := true } := by
  rw [Part.overridden, Part.raise_load, Part.setPhase_load, if_pos rfl]
  rfl

theorem Part.asks_withdraw_override (s : Part) (n : LoadId) : (s.overridden n).Asks (s.withdraw n .override) :=
  Part.asks_settleOrphans 64 _ [n]

theorem Part.enterOverride_leaves (s : Part) (n : LoadId) : (s.load n).Leaves ((s.enterOverride n).load n) s.now := by
  unfold Part.enterOverride
  split
  · refine LoadRecord.leaves_of_same ((s.asks_withdraw_override n).record n |>.trans ?_)
    rw [Part.overridden_load]
    conv_rhs => rw [(s.asks_withdraw_override n).record n, Part.overridden_load]
  · exact LoadRecord.leaves_of_same (by rw [Part.setPhase_load, if_pos rfl])

theorem Part.enterOverride_makes (ok : s.Sound) : ((s.enterOverride n).load n).phase = .override ∧
    n ∉ (s.enterOverride n).queuedLoads ∧ (n ∈ s.queuedLoads ∨ s.failed → (s.enterOverride n).failed) := by
  unfold Part.enterOverride
  split
  · next queued =>
    have settled := s.asks_withdraw_override n
    have out : n ∉ (s.overridden n).queuedLoads := fun listed => (Part.mem_removeEntry.1 listed).2 rfl
    obtain ⟨phase, -, out⟩ := settled.kept n (by rw [Part.overridden_load]; nofun) out
    exact ⟨phase.trans (by rw [Part.overridden_load]), out,
      fun _ => settled.failed (Part.raise_pending _ (.startFailed n .override))⟩
  · next idle =>
    have out : n ∉ s.queuedLoads := fun listed => idle ((ok.queued n).2 listed)
    exact ⟨by rw [Part.setPhase_load, if_pos rfl], out, fun start => start.resolve_left out⟩

/-! ## A start completes, or fails (R37, R38) -/

theorem Part.failStart_load (s : Part) (n : LoadId) : (s.failStart n).load n = { s.load n with
    phase := ((s.failStart n).load n).phase, changed := ((s.failStart n).load n).changed
    heldEnqueue := ((s.failStart n).load n).heldEnqueue } ∧
    (n ∉ s.queuedLoads → ((s.failStart n).load n).phase = .fault .noStart) ∧
    (s.failStart n).dgv.startingOrigin[n] = none ∧ (s.failStart n).atl.pending.getLsbD 0 = true := by
  have asks : (((s.setPhase n (.fault .noStart)).setStartingOrigin n none).raise (.loadFault n)).Asks (s.failStart n) :=
    (Part.asks_floorForMember _ n).trans (Part.asks_needReview _)
  have load : (((s.setPhase n (.fault .noStart)).setStartingOrigin n none).raise (.loadFault n)).load n =
      { s.load n with phase := .fault .noStart, changed := true } := by
    rw [Part.raise_load, Part.setStartingOrigin_load, Part.setPhase_load, if_pos rfl]
  refine ⟨(asks.record n).trans (by rw [load]), fun out => ?_, ?_, ?_⟩
  · exact (asks.kept n (by rw [load]; nofun) out).1.trans (by rw [load])
  · rw [asks.governor]
    exact Part.setStartingOrigin_self _ n none
  · exact (asks.causes 0 (by decide)).1.trans (Part.raise_pending _ (.loadFault n))

/-- A start that has completed, up to a KEEP_OFF that covers the load (R37). -/
def Part.completed (s : Part) (n : LoadId) : Part :=
  (s.reportChange (s.moveLoad n { s.load n with
    phase := runningPhase s.mode, lastActivity := s.now, changed := true }) n).setStartingOrigin n none

theorem Part.completed_load (s : Part) (n : LoadId) : (s.completed n).load n =
    { s.load n with phase := runningPhase s.mode, lastActivity := s.now, changed := true } := by
  rw [Part.completed, Part.setStartingOrigin_load, Part.reportChange_load, Part.moveLoad_load_self]

theorem Part.loadWork_completed (s : Part) (n : LoadId) : s.LoadWork (s.completed n) :=
  ((s.loadWork_moveLoad n _).trans (Part.loadWork_reportChange s _ n)).trans (Part.loadWork_setStartingOrigin _ n none)

theorem Part.completeStart_eq (s : Part) (n : LoadId) :
    s.completeStart n = if 0 < s.offCount n then (s.completed n).keepOffStop n else s.completed n := by
  rw [← (s.loadWork_completed n).offCount]
  rfl

/-- A KEEP_OFF stop begins, or is left pending (R34). -/
theorem Part.keepOffStop_load_self (runs : (s.load n).phase.running = true) : (s.keepOffStop n).load n =
    if s.stopConditions n then { s.load n with phase := .stopping s.now, stopPending := false, changed := true }
    else { s.load n with stopPending := true } := by
  rw [Part.keepOffStop_load, if_pos ⟨rfl, runs⟩]

theorem Part.stopsOrPends_keepOffStop (runs : (s.load n).phase.running = true) :
    (s.keepOffStop n).stopsOrPends n s.now := by
  rw [Part.stopsOrPends, Part.keepOffStop_load_self runs]
  split
  · exact .inl rfl
  · exact .inr ⟨runs, rfl⟩

theorem Part.keepOffStop_record (s : Part) (n : LoadId) : (s.keepOffStop n).load n = { s.load n with
    phase := ((s.keepOffStop n).load n).phase, stopPending := ((s.keepOffStop n).load n).stopPending
    changed := ((s.keepOffStop n).load n).changed } := by
  rw [Part.keepOffStop_load]
  split_ifs <;> rfl

theorem Part.completeStart_load (s : Part) (n : LoadId) : (s.completeStart n).load n = { s.load n with
    phase := ((s.completeStart n).load n).phase, stopPending := ((s.completeStart n).load n).stopPending
    changed := ((s.completeStart n).load n).changed, lastActivity := s.now } ∧
    ((s.completeStart n).load n).phase ≠ .starting ∧ (s.completeStart n).dgv.startingOrigin[n] = none ∧
    (s.offCount n = 0 → ((s.completeStart n).load n).phase.running = true ∧
      ((s.completeStart n).load n).stopPending = (s.load n).stopPending) ∧
    (0 < s.offCount n → (s.completeStart n).stopsOrPends n s.now) := by
  have load := s.completed_load n
  have runs : ((s.completed n).load n).phase.running = true := by rw [load]; exact runningPhase_running s.mode
  have isnt {p : LoadPhase} (runs : p.running = true) : p ≠ .starting := fun is => by rw [is] at runs; cases runs
  have origin : (s.completed n).dgv.startingOrigin[n] = none := Part.setStartingOrigin_self _ n none
  rw [Part.completeStart_eq]
  split
  · next covered =>
    have stops := Part.stopsOrPends_keepOffStop runs
    have record := (s.completed n).keepOffStop_record n
    rw [(s.loadWork_completed n).now] at stops
    refine ⟨record.trans (by rw [load]), ?_, ?_, fun free => absurd free covered.ne', fun _ => stops⟩
    · obtain stops | ⟨runs, -⟩ := stops
      · rw [stops]; nofun
      · exact isnt runs
    · refine Eq.trans ?_ origin
      unfold Part.keepOffStop
      split_ifs <;> simp [Part.enterStopping]
  · next free =>
    exact ⟨by rw [load], isnt runs, origin, fun _ => ⟨runs, by rw [load]⟩, fun covered => absurd covered free⟩

/-! ## The effect (R32, R33, R37, R38, R40) -/

theorem Part.feedbackEffect_down (was : Bool)
    (down : (s.load n).phase.isStopping = true ∨ (s.load n).phase = .fault .noStop) :
    s.feedbackEffect n was = if (s.load n).feedback then s else s.enterOff n := by
  unfold Part.feedbackEffect
  obtain stops | fault := down
  · cases phase : (s.load n).phase with
    | stopping => rfl
    | _ => rw [phase] at stops; cases stops
  · rw [fault]

theorem Part.feedbackEffect_idle (was : Bool)
    (idle : (s.load n).phase = .off ∨ (s.load n).phase = .queued ∨ (s.load n).phase = .fault .noStart) :
    s.feedbackEffect n was = if (s.load n).feedback && !was then s.enterOverride n else s := by
  unfold Part.feedbackEffect
  obtain h | h | h := idle <;> rw [h]

theorem Part.feedbackEffect_override (was : Bool) (found : (s.load n).phase = .override) :
    s.feedbackEffect n was = if !(s.load n).feedback && was then s.enterOff n else s := by
  unfold Part.feedbackEffect
  rw [found]

theorem Part.feedbackEffect_starting (was : Bool) (starts : (s.load n).phase = .starting) : s.feedbackEffect n was =
    if ((s.load n).feedback && !was) && !s.inWindow n then s.completeStart n
    else if (!(s.load n).feedback && was) && s.startDeadlinePassed n then s.failStart n else s := by
  unfold Part.feedbackEffect
  rw [starts]

/-- Whatever the effect, it leaves the readings. -/
theorem Part.feedbackEffect_leaves (s : Part) (n : LoadId) (was : Bool) :
    (s.load n).Leaves ((s.feedbackEffect n was).load n) s.now := by
  have same := LoadRecord.Leaves.refl (s.load n) s.now
  have off := s.enterOff_leaves n
  have override := s.enterOverride_leaves n
  have choose {c : Bool} {t u : Part} (h : (s.load n).Leaves (t.load n) s.now) (g : (s.load n).Leaves (u.load n) s.now) :
      (s.load n).Leaves ((if c then t else u).load n) s.now := by cases c <;> assumption
  have completes (starts : (s.load n).phase = .starting) : (s.load n).Leaves ((s.completeStart n).load n) s.now := by
    obtain ⟨record, isnt, -⟩ := s.completeStart_load n
    exact ⟨by rw [record], .inr ⟨starts, isnt, by rw [record]⟩⟩
  have fails : (s.load n).Leaves ((s.failStart n).load n) s.now := LoadRecord.leaves_of_same (by rw [(s.failStart_load n).1])
  unfold Part.feedbackEffect
  dsimp only
  split
  · exact choose same off
  · exact choose same off
  · exact choose override same
  · exact choose override same
  · exact choose override same
  · exact choose off same
  · next starts => exact choose (completes starts) (choose fails same)
  all_goals exact same

end

end Sys2Proof.Machine
end

section
/-! What a good reply from a station that was not OFFLINE comes to for one of its loads (R22 to R25, R32, R33, R37, R38,
R40, R98). -/

namespace Sys2Proof.Machine

/-! ## What lasts -/

/-- From s to t the load has been left as it came out of its turn, but for requests and what the checks of a running
load do, and what has been raised stays raised. -/
structure Part.Spares (s t : Part) (n : LoadId) : Prop where
  record : t.load n = { s.load n with
    phase := (t.load n).phase, stopPending := (t.load n).stopPending, changed := (t.load n).changed
    heldEnqueue := (t.load n).heldEnqueue }
  rests : (s.load n).phase = .off ∨ (s.load n).phase = .queued → (t.load n).phase = .off ∨ (t.load n).phase = .queued
  stays : (s.load n).phase ≠ .off → (s.load n).phase.running = false → n ∉ s.queuedLoads →
    (t.load n).phase = (s.load n).phase ∧ n ∉ t.queuedLoads
  starting : (t.load n).phase = .starting → (s.load n).phase = .starting
  origin : t.dgv.startingOrigin[n] = s.dgv.startingOrigin[n]
  scan : s.dgv.scanDue = true → t.dgv.scanDue = true
  raised : ∀ i : Fin 8, i ≠ 5 → i ≠ 6 → s.atl.pending.getLsbD i = true → t.atl.pending.getLsbD i = true

section
variable {s t u : Part} {n : LoadId}

theorem Part.Spares.trans (h : s.Spares t n) (g : t.Spares u n) : s.Spares u n where
  record := by rw [g.record, h.record]
  rests rest := g.rests (h.rests rest)
  stays up still out := by
    obtain ⟨same, out⟩ := h.stays up still out
    obtain ⟨same', out⟩ := g.stays (by rw [same]; exact up) (by rw [same]; exact still) out
    exact ⟨same'.trans same, out⟩
  starting starts := h.starting (g.starting starts)
  origin := g.origin.trans h.origin
  scan due := g.scan (h.scan due)
  raised i other other' up := g.raised i other other' (h.raised i other other' up)

/-- An update of what no load's record, entry or starting origin and no cause reads. -/
theorem Part.Spares.of_same (loads : t.loads = s.loads) (dgv : t.dgv = s.dgv) (atl : t.atl = s.atl) : s.Spares t n := by
  have load : t.load n = s.load n := by rw [Part.load, loads]; rfl
  have list : t.queuedLoads = s.queuedLoads := by rw [Part.queuedLoads, dgv]; rfl
  refine ⟨by rw [load], by rw [load]; exact id, fun _ _ out => ⟨by rw [load], by rw [list]; exact out⟩,
    by rw [load]; exact id, by rw [dgv], by rw [dgv]; exact id, fun _ _ _ => by rw [atl]; exact id⟩

theorem Part.Reads.spares (h : s.Reads t n (s.load n)) : s.Spares t n where
  record := by rw [h.record]
  rests rest := h.phase.elim (fun same => by rw [same]; exact rest) id
  stays up _ out := h.kept up out
  starting starts := by
    obtain same | off | queued := h.phase
    · exact same.symm.trans starts
    · rw [off] at starts; cases starts
    · rw [queued] at starts; cases starts
  origin := h.origin
  scan := h.scan
  raised i _ _ := h.raised i

theorem Part.Follows.spares (h : s.Follows t) (n : LoadId) : s.Spares t n where
  record := h.record n
  rests := h.rests
  stays up still out := by
    obtain ⟨same, -, -, out⟩ := h.kept n up still out
    exact ⟨same, out⟩
  starting starts := by
    obtain same | off | queued | ⟨-, runs | stops⟩ := h.phase n
    · exact same.symm.trans starts
    · rw [off] at starts; cases starts
    · rw [queued] at starts; cases starts
    · rw [starts] at runs; cases runs
    · rw [stops] at starts; cases starts
  origin := by rw [h.starting]
  scan := h.scan
  raised i other other' up := by
    by_cases is : i = 3
    · subst is; exact h.failed up
    · rw [(h.causes i is other other').1]; exact up

theorem Part.spares_setStation (s : Part) (k : StationId) (r : Station) (n : LoadId) : s.Spares (s.setStation k r) n :=
  .of_same rfl rfl rfl

theorem Part.spares_pollNext (s : Part) (n : LoadId) : s.Spares s.pollNext n := by
  have rest := s.pollNext_rest.1
  generalize s.pollNext = t at rest
  rw [rest]
  exact .of_same rfl rfl rfl

/-- A load whose idle time has just begun, and that has no stop pending, goes on running through the close (R29). -/
theorem Part.Closes.goesOn_of_fresh (h : s.Closes t) (ok : s.Sound) (runs : (s.load n).phase.running = true)
    (calm : (s.load n).stopPending = false) (fresh : (s.load n).lastActivity = s.now)
    (idle : 1 ≤ (s.config n).idleMin) : s.goesOn t n := by
  refine (h.goesOn (Q := fun u => (u.load n).stopPending = false ∧ (u.load n).lastActivity = u.now ∧
    1 ≤ (u.config n).idleMin) ok runs ?_ ?_ ⟨calm, fresh, idle⟩).1
  · rintro u - ⟨calm, fresh, idle⟩
    have young : ¬ (u.config n).idleMin * 60 ≤ u.now - (u.load n).lastActivity := by rw [fresh]; omega
    simp [Part.stopsNow, Part.idleStopDue, calm, young]
  · rintro u v - follows on ⟨calm, fresh, idle⟩
    refine ⟨on.2.trans calm, ?_, by rw [follows.work.config]; exact idle⟩
    rw [follows.record n, follows.work.now]
    exact fresh

end

/-! ## A load's turn (R137) -/

/-- A load as s found it has come to its turn in u, at which its feedback b takes effect, and from there to t is spared;
`was` is its feedback in s. -/
structure Part.Turns (s u t : Part) (n : LoadId) (was b : Bool) : Prop where
  sound : u.Sound
  now : u.now = s.now
  config : u.config n = s.config n
  feedback : (u.load n).feedback = b
  started : (u.load n).startedAt = (s.load n).startedAt
  up : (s.load n).phase ≠ .off → (s.load n).phase ≠ .queued → (s.load n).phase.running = false →
    (u.load n).phase = (s.load n).phase ∧ n ∉ u.queuedLoads
  rests : (s.load n).phase = .off ∨ (s.load n).phase = .queued → (u.load n).phase = .off ∨ (u.load n).phase = .queued
  failed : (s.load n).phase = .queued → n ∈ u.queuedLoads ∨ u.failed
  spares : (u.feedbackEffect n was).Spares t n

section
variable {s u t : Part} {n : LoadId} {was b : Bool}

theorem Part.Turns.spared {x : Part} (h : s.Turns u t n was b) (spares : t.Spares x n) : s.Turns u x n was b :=
  { h with spares := h.spares.trans spares }

/-- A load in a state in which feedback changes nothing now keeps it. -/
theorem Part.Turns.stays (h : s.Turns u t n was b) (up : (s.load n).phase ≠ .off) (unqueued : (s.load n).phase ≠ .queued)
    (still : (s.load n).phase.running = false) (none : u.feedbackEffect n was = u) :
    (t.load n).phase = (s.load n).phase := by
  obtain ⟨phase, out⟩ := h.up up unqueued still
  have spares := h.spares
  rw [none] at spares
  exact (spares.stays (by rw [phase]; exact up) (by rw [phase]; exact still) out).1.trans phase

/-- A load that reaches OFF rests, its stopped_at the present second (R32). -/
theorem Part.Turns.reachesOff (h : s.Turns u t n was b) (off : u.feedbackEffect n was = u.enterOff n) :
    ((t.load n).phase = .off ∨ (t.load n).phase = .queued) ∧ (t.load n).stoppedAt = some s.now := by
  have spares := h.spares
  rw [off] at spares
  obtain ⟨record, rests⟩ := u.enterOff_load n
  exact ⟨spares.rests rests, by rw [spares.record, record, h.now]⟩

/-- R32, R33: a load that stops, or has failed to. -/
theorem Part.Turns.down (h : s.Turns u t n was b)
    (down : (s.load n).phase.isStopping = true ∨ (s.load n).phase = .fault .noStop) :
    (b = true → (t.load n).phase = (s.load n).phase) ∧
    (b = false → ((t.load n).phase = .off ∨ (t.load n).phase = .queued) ∧ (t.load n).stoppedAt = some s.now) := by
  obtain ⟨up, unqueued, still⟩ : (s.load n).phase ≠ .off ∧ (s.load n).phase ≠ .queued ∧
      (s.load n).phase.running = false := by
    obtain stops | fault := down
    · cases phase : (s.load n).phase with
      | stopping => exact ⟨nofun, nofun, rfl⟩
      | _ => rw [phase] at stops; cases stops
    · rw [fault]; exact ⟨nofun, nofun, rfl⟩
  have effect := Part.feedbackEffect_down (s := u) was (by rw [(h.up up unqueued still).1]; exact down)
  rw [h.feedback] at effect
  exact ⟨fun on => h.stays up unqueued still (by rw [effect, on]; rfl),
    fun off => h.reachesOff (by rw [effect, off]; rfl)⟩

/-- R40: a load that should be off is found running. -/
theorem Part.Turns.foundRunning (h : s.Turns u t n was b)
    (idle : (s.load n).phase = .off ∨ (s.load n).phase = .queued ∨ (s.load n).phase = .fault .noStart)
    (off : was = false) (on : b = true) : (t.load n).phase = .override ∧ n ∉ t.queuedLoads ∧
      ((s.load n).phase = .queued → t.atl.pending.getLsbD 3 = true) := by
  have idle' : (u.load n).phase = .off ∨ (u.load n).phase = .queued ∨ (u.load n).phase = .fault .noStart := by
    obtain off | queued | fault := idle
    · exact (h.rests (.inl off)).imp_right .inl
    · exact (h.rests (.inr queued)).imp_right .inl
    · exact .inr (.inr ((h.up (by rw [fault]; nofun) (by rw [fault]; nofun) (by rw [fault]; rfl)).1.trans fault))
  have spares := h.spares
  rw [Part.feedbackEffect_idle was idle', h.feedback, on, off] at spares
  obtain ⟨phase, out, told⟩ := Part.enterOverride_makes (n := n) h.sound
  obtain ⟨same, out⟩ := spares.stays (s := u.enterOverride n) (by rw [phase]; nofun) (by rw [phase]; rfl) out
  exact ⟨same.trans phase, out, fun queued => spares.raised 3 (by decide) (by decide) (told (h.failed queued))⟩

theorem Part.Turns.notStarted (h : s.Turns u t n was b) (fault : (s.load n).phase = .fault .noStart) (same : b = was) :
    (t.load n).phase = .fault .noStart := by
  have up : (s.load n).phase ≠ .off ∧ (s.load n).phase ≠ .queued ∧ (s.load n).phase.running = false := by
    rw [fault]; exact ⟨nofun, nofun, rfl⟩
  obtain ⟨up, unqueued, still⟩ := up
  refine (h.stays up unqueued still ?_).trans fault
  rw [Part.feedbackEffect_idle was (.inr (.inr ((h.up up unqueued still).1.trans fault))), h.feedback, same]
  cases was <;> rfl

theorem Part.Turns.override (h : s.Turns u t n was b) (found : (s.load n).phase = .override) :
    (b = was → (t.load n).phase = .override) ∧ (was = true → b = false →
      ((t.load n).phase = .off ∨ (t.load n).phase = .queued) ∧ (t.load n).stoppedAt = some s.now) := by
  have up : (s.load n).phase ≠ .off ∧ (s.load n).phase ≠ .queued ∧ (s.load n).phase.running = false := by
    rw [found]; exact ⟨nofun, nofun, rfl⟩
  obtain ⟨up, unqueued, still⟩ := up
  have effect := Part.feedbackEffect_override (s := u) was ((h.up up unqueued still).1.trans found)
  rw [h.feedback] at effect
  refine ⟨fun same => (h.stays up unqueued still ?_).trans found, fun on off => h.reachesOff ?_⟩
  · rw [effect, same]; cases was <;> rfl
  · rw [effect, on, off]; rfl

/-- What decides of a STARTING load at its turn (R37, R38). -/
theorem Part.Turns.starting (h : s.Turns u t n was b) {a : Nat} (starts : (s.load n).phase = .starting)
    (since : (s.load n).startedAt = some a) : (u.load n).phase = .starting ∧ n ∉ u.queuedLoads ∧
    u.feedbackEffect n was =
      if (b && !was) && !decide (s.now - a < (s.config n).accelS) then u.completeStart n
      else if (!b && was) && decide (a + (s.config n).startTimeoutS ≤ s.now) then u.failStart n else u := by
  obtain ⟨phase, out⟩ := h.up (by rw [starts]; nofun) (by rw [starts]; nofun) (by rw [starts]; rfl)
  have phase := phase.trans starts
  refine ⟨phase, out, ?_⟩
  rw [Part.feedbackEffect_starting was phase, h.feedback, Part.inWindow, Part.startDeadlinePassed, h.started, since, h.now,
    h.config]

/-- R38: a start that has failed. -/
theorem Part.Turns.fails (h : s.Turns u t n was b) {a : Nat} (starts : (s.load n).phase = .starting)
    (since : (s.load n).startedAt = some a) (on : was = true) (off : b = false)
    (late : a + (s.config n).startTimeoutS ≤ s.now) : (t.load n).phase = .fault .noStart ∧
      t.dgv.startingOrigin[n] = none ∧ t.atl.pending.getLsbD 0 = true := by
  obtain ⟨-, out, effect⟩ := h.starting starts since
  have spares := h.spares
  rw [effect, on, off, decide_eq_true late] at spares
  obtain ⟨record, fault, origin, told⟩ := u.failStart_load n
  have phase := fault out
  have out : n ∉ (u.failStart n).queuedLoads := by
    have sound := (Part.keeps_failStart ((h.starting starts since).1)).sound h.sound
    exact fun listed => by have := (sound.queued n).2 listed; rw [phase] at this; cases this
  obtain ⟨same, -⟩ := spares.stays (s := u.failStart n) (by rw [phase]; nofun) (by rw [phase]; rfl) out
  exact ⟨same.trans phase, spares.origin.trans origin, spares.raised 0 (by decide) (by decide) told⟩

/-- R37, R38: a start that neither completes nor fails goes on. -/
theorem Part.Turns.goesOnStarting (h : s.Turns u t n was b) {a : Nat} (starts : (s.load n).phase = .starting)
    (since : (s.load n).startedAt = some a) (same : b = was ∨ (b = true ∧ ¬ (s.config n).accelS ≤ s.now - a) ∨
      (b = false ∧ ¬ a + (s.config n).startTimeoutS ≤ s.now)) : (t.load n).phase = .starting := by
  refine (h.stays (by rw [starts]; nofun) (by rw [starts]; nofun) (by rw [starts]; rfl) ?_).trans starts
  obtain ⟨-, -, effect⟩ := h.starting starts since
  rw [effect]
  obtain rfl | ⟨rfl, young⟩ | ⟨rfl, early⟩ := same
  · cases b <;> rfl
  · simp [Nat.lt_of_not_le young]
  · simp [early]

/-- R37: a start that completes. -/
theorem Part.Turns.completes (h : s.Turns u t n was b) {a : Nat} (starts : (s.load n).phase = .starting)
    (since : (s.load n).startedAt = some a) (off : was = false) (on : b = true) (over_ : (s.config n).accelS ≤ s.now - a) :
    u.feedbackEffect n was = u.completeStart n ∧ t.dgv.startingOrigin[n] = none ∧ (t.load n).lastActivity = s.now := by
  obtain ⟨-, -, effect⟩ := h.starting starts since
  have effect : u.feedbackEffect n was = u.completeStart n := by
    rw [effect, on, off, decide_eq_false (Nat.not_lt.2 over_)]; rfl
  have spares := h.spares
  rw [effect] at spares
  obtain ⟨record, -, origin, -⟩ := u.completeStart_load n
  exact ⟨effect, spares.origin.trans origin, by rw [spares.record, record, h.now]⟩

end

end Sys2Proof.Machine
end

section
/-! The return of a station's loads on a good reply (R34, R46). -/

namespace Sys2Proof.Machine

section
variable {s t u : Part} {n m : LoadId}

/-! ## Whether a load may be stopped (R34) -/

theorem Part.dependentsAllowStop_of_active {j : LoadId} (used : s.inUse j = true) (needs : .load n ∈ (s.config j).needs)
    (active : s.active j = true) : s.dependentsAllowStop n = false := by
  have depends : j ∈ s.directDependents n := List.mem_filter.2 ⟨List.mem_finRange j, by simp [used, needs]⟩
  have some : (s.directDependents n).any s.active = true := List.any_eq_true.2 ⟨j, depends, active⟩
  rw [Part.dependentsAllowStop, some]
  rfl

/-- A load nothing depends on, and in no group, is stopped where its station is ONLINE. -/
theorem Part.stopConditions_of_free (online : s.stationOnline n = true)
    (free : ∀ j, s.inUse j = true → .load n ∉ (s.config j).needs) (alone : (s.config n).group = none) :
    s.stopConditions n = true := by
  have none : s.directDependents n = [] := List.filter_eq_nil_iff.2 fun j _ both => by
    rw [Bool.and_eq_true, List.contains_iff_mem] at both
    exact free j both.1 both.2
  have group : s.groupOf n = Option.none := by rw [Part.groupOf, alone]
  rw [Part.stopConditions, online, Part.dependentsAllowStop, none, Part.groupAllowsStop, group]
  rfl

/-! ## One load's return (R46) -/

/-- A load's record as it returns, up to R34. -/
def Part.returning (s : Part) (n : LoadId) (v : Reading) : LoadRecord :=
  ((s.load n).returned s.mode s.now v).qualifyActivity (s.config n) s.now v

/-- The return of a load, reported, up to R34. -/
def Part.cameBack (s : Part) (n : LoadId) (v : Reading) : Part := s.reportChange (s.backLoad n v) n

theorem Part.cameBack_load (s : Part) (m n : LoadId) (v : Reading) :
    (s.cameBack m v).load n = if n = m then s.returning m v else s.load n := by
  rw [Part.cameBack, Part.reportChange_load, Part.backLoad, Part.moveLoad_load]
  rfl

theorem Part.returning_phase (s : Part) (n : LoadId) (v : Reading) : (s.returning n v).phase = runningPhase s.mode := by
  rw [Part.returning, LoadRecord.qualifyActivity_frame]
  rfl

theorem Part.loadWork_cameBack (s : Part) (n : LoadId) (v : Reading) : s.LoadWork (s.cameBack n v) :=
  (s.loadWork_moveLoad n _).trans (Part.loadWork_reportChange s _ n)

theorem Part.cameBack_runs (s : Part) (n : LoadId) (v : Reading) :
    ((s.cameBack n v).load n).phase.running = true := by
  rw [Part.cameBack_load, if_pos rfl, Part.returning_phase]
  exact runningPhase_running s.mode

theorem Part.returnLoad_load (s : Part) (n : LoadId) (v : Reading) : (s.returnLoad n v).load n = { s.returning n v with
    phase := ((s.returnLoad n v).load n).phase, stopPending := ((s.returnLoad n v).load n).stopPending } ∧
    (s.offCount n = 0 → (s.returnLoad n v).load n = s.returning n v) ∧
    (0 < s.offCount n → (s.returnLoad n v).load n = if (s.cameBack n v).stopConditions n then
        { s.returning n v with phase := .stopping s.now, stopPending := false }
      else { s.returning n v with stopPending := true }) := by
  have load := s.cameBack_load n n v
  rw [if_pos rfl] at load
  have told : (s.returning n v).changed = true := by
    rw [Part.returning, LoadRecord.qualifyActivity_frame]
    rfl
  have split : s.returnLoad n v = if 0 < s.offCount n then (s.cameBack n v).keepOffStop n else s.cameBack n v :=
    s.returnLoad_eq n v
  rw [split]
  by_cases covered : 0 < s.offCount n
  · have stop := Part.keepOffStop_load_self (s.cameBack_runs n v)
    have stays : ({ s.returning n v with phase := .stopping s.now, stopPending := false, changed := true } : LoadRecord) =
        { s.returning n v with phase := .stopping s.now, stopPending := false } := by rw [← told]
    rw [load, (s.loadWork_cameBack n v).now, stays] at stop
    rw [if_pos covered, stop]
    refine ⟨?_, fun free => absurd free covered.ne', fun _ => rfl⟩
    split <;> rfl
  · rw [if_neg covered, load]
    exact ⟨rfl, fun _ => rfl, fun is => absurd is covered⟩

theorem Part.returning_record (s : Part) (n : LoadId) (v : Reading) : (s.returning n v).feedback = v.feedback ∧
    (s.returning n v).filterCount = 0 ∧ (s.returning n v).lastActivity = s.now ∧ (s.returning n v).changed = true ∧
    (s.returning n v).stopPending = (s.load n).stopPending := by
  have second : (s.returning n v).lastActivity = s.now := by
    unfold Part.returning LoadRecord.qualifyActivity LoadRecord.qualifyPulse LoadRecord.qualifyLevel LoadRecord.returned
    dsimp only
    split <;> split_ifs <;> rfl
  refine ⟨?_, ?_, second, ?_, ?_⟩ <;> (rw [Part.returning, LoadRecord.qualifyActivity_frame]; rfl)

/-! ## The other loads' returns -/

/-- LOCAL, WATCH, STOPPING or UNREACHABLE: a load in one of these states is active, and neither a return nor the close
takes it out of them. -/
def LoadPhase.standing (p : LoadPhase) : Bool := p.running || p.isStopping || p = .unreachable

theorem LoadPhase.active_of_standing {p : LoadPhase} (h : p.standing = true) : p.active = true := by
  cases p with
  | fault => cases h
  | off | unused => cases h
  | _ => rfl

/-- From s to t other loads of the station have returned. -/
structure Part.Returns (s t : Part) (n : LoadId) : Prop where
  work : s.LoadWork t
  load : t.load n = s.load n
  queue : t.dgv.queue = s.dgv.queue
  standing : ∀ j, (s.load j).phase.standing = true → (t.load j).phase.standing = true

theorem Part.Returns.refl (s : Part) (n : LoadId) : s.Returns s n := ⟨.refl s, rfl, rfl, fun _ => id⟩

theorem Part.Returns.trans (h : s.Returns t n) (g : t.Returns u n) : s.Returns u n :=
  ⟨h.work.trans g.work, g.load.trans h.load, g.queue.trans h.queue, fun j stands => g.standing j (h.standing j stands)⟩

theorem Part.cameBack_standing (s : Part) (n : LoadId) (v : Reading) (j : LoadId)
    (stands : (s.load j).phase.standing = true) : ((s.cameBack n v).load j).phase.standing = true := by
  by_cases is : j = n
  · subst is
    rw [LoadPhase.standing, s.cameBack_runs j v]
    rfl
  · rw [Part.cameBack_load, if_neg is]
    exact stands

theorem Part.keepOffStop_standing (s : Part) (n j : LoadId) (stands : (s.load j).phase.standing = true) :
    ((s.keepOffStop n).load j).phase.standing = true := by
  rw [Part.keepOffStop_load]
  split
  · next is =>
    split
    · rfl
    · rw [is.1] at stands
      exact stands
  · exact stands

theorem Part.returnLoad_standing (s : Part) (n : LoadId) (v : Reading) (j : LoadId)
    (stands : (s.load j).phase.standing = true) : ((s.returnLoad n v).load j).phase.standing = true := by
  have back := s.cameBack_standing n v j stands
  rw [Part.returnLoad_eq]
  split
  · exact Part.keepOffStop_standing _ n j back
  · exact back

theorem Part.returns_returnLoad (other : n ≠ m) (v : Reading) : s.Returns (s.returnLoad m v) n where
  work := s.loadWork_returnLoad m v
  load := by
    have back : (s.cameBack m v).load n = s.load n := (s.cameBack_load m n v).trans (if_neg other)
    rw [Part.returnLoad_eq]
    split
    · exact (Part.keepOffStop_load _ m n).trans ((if_neg fun both => other both.1).trans back)
    · exact back
  queue := by
    have back : (s.cameBack m v).dgv.queue = s.dgv.queue := by
      rw [Part.cameBack, Part.reportChange_queue]
      rfl
    rw [Part.returnLoad_eq]
    split
    · refine Eq.trans ?_ back
      show ((s.cameBack m v).keepOffStop m).dgv.queue = _
      unfold Part.keepOffStop
      split_ifs <;> simp [Part.enterStopping]
    · exact back
  standing := s.returnLoad_standing m v

/-- An UNREACHABLE load of a station that is back ONLINE returns at its turn, and the others' returns leave it. -/
theorem Part.returnLoads_turn {k : StationId} (v : Vector Reading 4) (used : s.inUse n = true) (here : stationOf n = k)
    (lost : (s.load n).phase = .unreachable) : ∃ u : Part, s.Returns u n ∧
      (u.returnLoad n v[channelOf n]).Returns (s.returnLoads k v) n := by
  unfold Part.returnLoads
  refine foldl_turn (f := fun s n => s.returnLoad n v[channelOf n]) (T := fun s t => s.Returns t n)
    (fun s => .refl s n) (fun h g => h.trans g) ((slotsOf_nodup k).filter _)
    (List.mem_filter.2 ⟨mem_slotsOf.2 here, by simp [used, lost]⟩)
    (fun s m _ isnt => Part.returns_returnLoad isnt _) s

/-! ## What the close leaves of those that stand (R34) -/

/-- A load that stands goes on standing through the close. -/
theorem Part.Follows.standing (h : s.Follows t) (ok : s.Sound) {j : LoadId} (stands : (s.load j).phase.standing = true) :
    (t.load j).phase.standing = true := by
  have out : j ∉ s.queuedLoads := fun listed => by rw [(ok.queued j).2 listed] at stands; cases stands
  by_cases runs : (s.load j).phase.running = true
  · obtain still | stops := (h.ran j runs out).1
    · rw [LoadPhase.standing, still]; rfl
    · rw [stops]; rfl
  · rw [(h.kept j (fun off => by rw [off] at stands; cases stands) (Bool.eq_false_iff.2 runs) out).1]
    exact stands

/-- A load that one which stands needs goes on running through the close. -/
theorem Part.Closes.goesOn_of_needed (h : s.Closes t) (ok : s.Sound) (runs : (s.load n).phase.running = true) {j : LoadId}
    (used : s.inUse j = true) (needs : .load n ∈ (s.config j).needs) (stands : (s.load j).phase.standing = true) :
    s.goesOn t n := by
  refine (h.goesOn (Q := fun u => u.inUse j = true ∧ .load n ∈ (u.config j).needs ∧ (u.load j).phase.standing = true) ok
    runs ?_ ?_ ⟨used, needs, stands⟩).1
  · rintro u - ⟨used, needs, stands⟩
    have kept := Part.dependentsAllowStop_of_active used needs (LoadPhase.active_of_standing stands)
    simp [Part.stopsNow, Part.idleStopDue, Part.stopConditions, kept]
  · rintro u v ok follows - ⟨used, needs, stands⟩
    exact ⟨(follows.work.inUse j).trans used, by rw [follows.work.config]; exact needs, follows.standing ok stands⟩

end

end Sys2Proof.Machine
end

section
/-! What a good reply does to its station (R134, R137, R138, R140, R141, R143). -/

namespace Sys2Proof.Machine

/-! ## Cause STATION and the scan -/

/-- From s to t a scan stays due, and cause STATION as it was. -/
structure Part.KeepsStation (s t : Part) : Prop where
  scan : s.dgv.scanDue = true → t.dgv.scanDue = true
  raised : s.atl.pending.getLsbD 1 = true → t.atl.pending.getLsbD 1 = true
  station : t.atl.details[1] = s.atl.details[1]

section
variable {s t u : Part} {k : StationId}

theorem Part.KeepsStation.refl (s : Part) : s.KeepsStation s := ⟨id, id, rfl⟩

theorem Part.KeepsStation.trans (h : s.KeepsStation t) (g : t.KeepsStation u) : s.KeepsStation u :=
  ⟨g.scan ∘ h.scan, g.raised ∘ h.raised, g.station.trans h.station⟩

theorem Part.KeepsStation.foldl {f : Part → LoadId → Part} (h : ∀ (s : Part) (n : LoadId), s.KeepsStation (f s n))
    (l : List LoadId) (s : Part) : s.KeepsStation (l.foldl f s) := by
  induction l generalizing s with
  | nil => exact .refl s
  | cons n l ih => exact (h s n).trans (ih _)

theorem Part.Hears.keepsStation {n : LoadId} (h : s.Hears t n) : s.KeepsStation t := ⟨h.scan, h.raised 1, h.station⟩

theorem Part.Follows.keepsStation (h : s.Follows t) : s.KeepsStation t := by
  obtain ⟨pending, details⟩ := h.causes 1 (by decide) (by decide) (by decide)
  exact ⟨h.scan, fun up => pending.trans up, details⟩

theorem Part.keepsStation_returnLoad (s : Part) (n : LoadId) (v : Reading) : s.KeepsStation (s.returnLoad n v) := by
  have reported (before t : Part) : t.KeepsStation (before.reportChange t n) :=
    ⟨Part.reportChange_scan before t n, by rw [Part.reportChange_atl]; exact id, by rw [Part.reportChange_atl]⟩
  have back : s.KeepsStation (s.cameBack n v) :=
    Part.KeepsStation.trans (t := s.backLoad n v) ⟨id, id, rfl⟩ (reported s _)
  rw [Part.returnLoad_eq]
  split
  · refine back.trans ?_
    show (s.cameBack n v).KeepsStation ((s.cameBack n v).keepOffStop n)
    unfold Part.keepOffStop
    split
    · split
      · exact Part.KeepsStation.trans (t := (s.cameBack n v).moveLoad n _) ⟨id, id, rfl⟩ (reported (s.cameBack n v) _)
      · exact ⟨id, id, rfl⟩
    · exact .refl _
  · exact back

theorem Part.keepsStation_useReply (s : Part) (k : StationId) (before : Station) (v : Vector Reading 4) :
    s.KeepsStation (s.useReply k before v) := by
  by_cases awake : before.grade ≠ .offline
  · rw [Part.useReply_awake awake]
    have handed : s.KeepsStation (s.silenced k before) := by
      unfold Part.silenced
      split
      · next silence _ => exact .foldl (f := Part.handLoad silence) (fun _ _ => ⟨id, id, rfl⟩) _ s
      · exact .refl s
    refine handed.trans (.trans (.foldl (fun s n => (s.hears_qualifyLoad n _).keepsStation) _ _)
      (.foldl (fun s m => ?_) _ _))
    obtain ⟨n, other⟩ := exists_ne m
    exact (Part.passes_feedbackEffect other _).toHears.keepsStation
  · unfold Part.useReply
    rw [if_pos (not_not.1 awake)]
    split
    · exact .foldl (fun s n => s.keepsStation_returnLoad n _) _ s
    · exact .refl s

/-- A station whose grade a good reply changes raises STATION, and one that is ONLINE again a scan (R98, R143). -/
theorem Part.goodReply_tells (v : Vector Reading 4) (moved : (s.graded k v).grade ≠ (s.station k).grade) :
    (s.goodReply k v).atl.pending.getLsbD 1 = true ∧ (s.goodReply k v).atl.details[1] = some (.station k) ∧
    ((s.graded k v).grade = .online → (s.goodReply k v).dgv.scanDue = true) := by
  have used := (s.gradeReply k v).keepsStation_useReply k (s.station k) v
  have graded := (s.follows_gradeReply k v).keepsStation
  have raised : s.regraded k v = (s.setStation k (s.graded k v)).raise (.station k) := if_neg moved
  rw [raised] at graded
  refine ⟨used.raised (graded.raised (Part.raise_pending _ (.station k))),
    used.station.trans (graded.station.trans (Part.raise_details _ (.station k))), fun online => used.scan ?_⟩
  have again : ((s.graded k v).grade = .online && (s.station k).grade != .online) = true := by
    rw [Bool.and_eq_true, decide_eq_true_eq, bne_iff_ne]
    exact ⟨online, fun same => moved (online.trans same.symm)⟩
  unfold Part.gradeReply
  dsimp only
  refine (Part.follows_recheck s _).scan ?_
  exact congrArg (fun p : Part => p.dgv.scanDue) (if_pos again)

/-! ## The station's record -/

theorem Part.goodReply_eq (s : Part) (k : StationId) (v : Vector Reading 4) :
    s.goodReply k v = ((s.gradeReply k v).useReply k (s.station k) v).setStation k { s.graded k v with missed := 0 } := by
  have same : ((s.gradeReply k v).useReply k (s.station k) v).station k = s.graded k v := by
    rw [((s.gradeReply k v).loadWork_useReply k (s.station k) v).station, Part.gradeReply_station, if_pos rfl]
  rw [← same, Part.goodReply]

theorem Part.goodReply_station (s : Part) (k : StationId) (v : Vector Reading 4) :
    (s.goodReply k v).station k = { s.graded k v with missed := 0 } := by
  rw [Part.goodReply_eq, Part.setStation_station_self]

/-- After a good reply and the poll that follows it the station is graded as R138, R140 and R141 say. -/
theorem Part.goodReply_after (s : Part) (k : StationId) (v : Vector Reading 4) {t : Part}
    (ended : (s.finish (s.goodReply k v)).pollNext = t) : t.station k = { s.graded k v with
      missed := 0, pollTag := (t.station k).pollTag, probeCount := (t.station k).probeCount } := by
  have after := (s.finish (s.goodReply k v)).pollNext_record k
  rw [ended, (s.follows_finish (s.goodReply k v)).keeps.station, Part.goodReply_station] at after
  exact after

theorem Station.afterGood_suspect {r : Station} (suspect : r.grade = .suspect) (auto : Bool) :
    (r.err - 1 < 64 → (r.afterGood auto).grade = .online) ∧ (64 ≤ r.err - 1 → (r.afterGood auto).grade = .suspect) := by
  unfold Station.afterGood
  rw [suspect]
  exact ⟨fun low => if_pos low, fun high => if_neg (Nat.not_lt.2 high)⟩

theorem Station.afterGood_online {r : Station} (online : r.grade = .online) (auto : Bool) :
    (r.afterGood auto).grade = .online := by
  unfold Station.afterGood
  rw [online]

theorem Station.afterGood_barred {r : Station} (offline : r.grade = .offline) (manual : r.recoverArmed = false) :
    r.afterGood false = r := by
  unfold Station.afterGood
  rw [offline, manual]
  rfl

/-- R141: sixteen good replies in a row return a station that may recover. -/
theorem Station.afterGood_recovers {r : Station} {auto : Bool} (offline : r.grade = .offline)
    (may : auto = true ∨ r.recoverArmed = true) :
    (r.goodRun ≠ 15 → r.afterGood auto = { r with goodRun := r.goodRun + 1 }) ∧
    (r.goodRun = 15 → r.afterGood auto =
      { r with grade := .online, err := 0, goodRun := 0, recoverArmed := false, forcedAuto := false }) := by
  unfold Station.afterGood
  rw [offline]
  dsimp only
  rw [if_pos (by rw [Bool.or_eq_true]; exact may)]
  refine ⟨fun early => if_neg fun full => early ?_, fun full => if_pos (by rw [full]; rfl)⟩
  exact Nat.add_right_cancel (m := 1) full

end

end Sys2Proof.Machine
end

section
/-! What a good reply from a station that was not OFFLINE comes to (R22 to R25, R32 to R40, R98). -/

namespace Sys2Proof.Machine

section
variable {s t : Part} {k : StationId} {n : LoadId}

theorem Part.gradeReply_keeps (s : Part) (k : StationId) (v : Vector Reading 4) :
    (s.gradeReply k v).now = s.now ∧ (s.gradeReply k v).cfg = s.cfg ∧ (s.gradeReply k v).mode = s.mode ∧
    (s.gradeReply k v).holds = s.holds := by
  have work := s.loadWork_gradeReply k v
  exact ⟨work.now, work.cfg, work.mode, work.holds⟩

/-- What the check after stage 1 may change of a load. -/
theorem Part.gradeReply_record (s : Part) (k : StationId) (v : Vector Reading 4) (n : LoadId) :
    (s.gradeReply k v).load n = { s.load n with
      phase := ((s.gradeReply k v).load n).phase, stopPending := ((s.gradeReply k v).load n).stopPending
      changed := ((s.gradeReply k v).load n).changed } := by
  obtain same | ⟨-, stopped, -⟩ := s.gradeReply_load k v n
  · rw [same]
  · rw [stopped]

theorem Part.gradeReply_still (s : Part) (k : StationId) (v : Vector Reading 4) {n : LoadId}
    (still : (s.load n).phase.running = false) : (s.gradeReply k v).load n = s.load n :=
  (s.gradeReply_load k v n).resolve_right fun ⟨runs, _⟩ => by rw [still] at runs; cases runs

theorem Part.gradeReply_sound (ok : s.Sound) (k : StationId) (v : Vector Reading 4) : (s.gradeReply k v).Sound :=
  (s.keeps_gradeReply k v).sound (ok.setStation k _)

theorem Part.gradeReply_qualifies (v : Vector Reading 4) (used : s.inUse n = true) (reach : (s.load n).phase ≠ .unreachable) :
    (s.gradeReply k v).qualifies n = true := by
  rw [Part.qualifies, Bool.and_eq_true, bne_iff_ne]
  refine ⟨((s.loadWork_gradeReply k v).inUse n).trans used, ?_⟩
  obtain same | ⟨-, stopped, -⟩ := s.gradeReply_load k v n
  · rw [same]; exact reach
  · rw [stopped]; nofun

/-- The feedback of a load after a reading (R22). -/
def LoadRecord.hears (r : LoadRecord) (c : LoadConfig) (v : Reading) : Bool :=
  if v.feedback ≠ r.feedback ∧ c.feedbackFilter ≤ r.filterCount + 1 then v.feedback else r.feedback

/-- The last activity of a load that a good reply finds, the silence handed to it (R25). -/
def Part.keptUntil (s : Part) (k : StationId) (n : LoadId) : Nat :=
  keptActivity s.now (s.load n).lastActivity (s.silence k (s.station k))

/-- A load of the station comes to its turn with its readings qualified; from there to the end of the handling it is
spared. -/
theorem Part.goodReply_turn (awake : (s.station k).grade ≠ .offline) (v : Vector Reading 4) (used : s.inUse n = true)
    (here : stationOf n = k) (reach : (s.load n).phase ≠ .unreachable) :
    ∃ u : Part, (s.gradeReply k v).Reads u n
        (((s.gradeReply k v).load n).heard (s.config n) s.now (s.keptUntil k n) v[channelOf n]) ∧
      (s.Sound → s.draws n → (u.load n).feedback = false →
        (s.goodReply k v).dgv.scanDue = true) ∧
      (u.feedbackEffect n (s.load n).feedback).Spares (s.goodReply k v) n ∧
      (u.feedbackEffect n (s.load n).feedback).Reads ((s.gradeReply k v).useReply k (s.station k) v) n
        ((u.feedbackEffect n (s.load n).feedback).load n) := by
  obtain ⟨u, reads, drew, rest⟩ :=
    Part.useReply_turn awake v (Part.gradeReply_qualifies (k := k) v used reach) here
  obtain ⟨now, cfg, -, -⟩ := s.gradeReply_keeps k v
  have record := s.gradeReply_record k v n
  have feedback : ((s.gradeReply k v).load n).feedback = (s.load n).feedback := by rw [record]
  have kept : keptActivity (s.gradeReply k v).now ((s.gradeReply k v).load n).lastActivity
      ((s.gradeReply k v).silence k (s.station k)) = s.keptUntil k n := by
    rw [record, Part.keptUntil, Part.silence, Part.silence, now, cfg]
  have config : (s.gradeReply k v).config n = s.config n := by rw [Part.config, cfg]; rfl
  rw [kept, config, now] at reads
  rw [feedback] at rest
  have spares : (u.feedbackEffect n (s.load n).feedback).Spares (s.goodReply k v) n := by
    rw [Part.goodReply_eq]
    exact rest.spares.trans (Part.spares_setStation _ _ _ _)
  refine ⟨u, reads, fun ok drawn off => ?_, spares, rest⟩
  have due : (s.gradeReply k v).dgv.scanDue = true ∨ u.dgv.scanDue = true := by
    obtain same | ⟨-, -, told⟩ := s.gradeReply_load k v n
    · refine .inr (drew (Part.gradeReply_sound ok k v) ?_ off)
      obtain ⟨window, up, power⟩ := drawn
      refine ⟨?_, by rw [Part.up, same]; exact up, by rw [config]; exact power⟩
      rw [Part.inWindow, same, now, config]
      exact window
    · exact .inl (told drawn)
  have due := due.elim reads.scan id
  obtain ⟨m, other⟩ := exists_ne n
  exact spares.scan ((Part.passes_feedbackEffect other _).scan due)

/-- From the end of a good reply's handling to the next poll each load is spared. -/
theorem Part.spares_closed {z : Part} (before : Part) (ended : (before.finish z).pollNext = t) (n : LoadId) : z.Spares t n :=
  ended ▸ ((before.follows_finish z).spares n).trans (Part.spares_pollNext _ n)

/-- The readings qualified (R22 to R25). -/
theorem Part.goodReply_hears (awake : (s.station k).grade ≠ .offline) (v : Vector Reading 4) (used : s.inUse n = true)
    (here : stationOf n = k) (reach : (s.load n).phase ≠ .unreachable)
    (ended : (s.finish (s.goodReply k v)).pollNext = t) :
    (t.load n).feedback = (s.load n).hears (s.config n) v[channelOf n] ∧
    (t.load n).filterCount =
      (if v[channelOf n].feedback = (s.load n).feedback ∨ (s.config n).feedbackFilter ≤ (s.load n).filterCount + 1 then 0
        else (s.load n).filterCount + 1) ∧
    (s.load n).hearsActivity (t.load n) (s.config n) v[channelOf n] s.now (s.keptUntil k n) fun second =>
      (t.load n).lastActivity = second ∨
        ((s.load n).phase = .starting ∧ (t.load n).phase ≠ .starting ∧ (t.load n).lastActivity = s.now) := by
  obtain ⟨u, reads, -, spares, -⟩ := Part.goodReply_turn awake v used here reach
  have spares := spares.trans (Part.spares_closed s ended n)
  obtain ⟨left, activity⟩ := u.feedbackEffect_leaves n (s.load n).feedback
  have begun := s.gradeReply_record k v n
  have now : u.now = s.now := reads.work.now.trans (s.gradeReply_keeps k v).1
  have starts (starting : (u.load n).phase = .starting) : (s.load n).phase = .starting := by
    obtain same | off | queued := reads.phase
    · obtain still | ⟨-, stopped, -⟩ := s.gradeReply_load k v n
      · rw [← still, ← same]; exact starting
      · rw [same, stopped] at starting; cases starting
    · rw [starting] at off; cases off
    · rw [starting] at queued; cases queued
  have record := reads.record
  generalize (s.gradeReply k v).load n = w at *
  generalize u.feedbackEffect n (s.load n).feedback = e at *
  refine ⟨?_, ?_, ?_⟩
  · rw [spares.record, left, record, LoadRecord.heard_feedback, begun]
    rfl
  · rw [spares.record, left, record, LoadRecord.heard_filterCount, begun]
  · have same (q : LoadRecord) (f : Nat) (b : Bool) : (q.qualifyFeedback f b).activityCount = q.activityCount ∧
        (q.qualifyFeedback f b).activityWindow = q.activityWindow ∧
        (q.qualifyFeedback f b).lastActivity = q.lastActivity := by
      unfold LoadRecord.qualifyFeedback
      split_ifs <;> exact ⟨rfl, rfl, rfl⟩
    obtain ⟨count, window, second⟩ := same { w with lastActivity := s.keptUntil k n } (s.config n).feedbackFilter
      v[channelOf n].feedback
    refine LoadRecord.qualifyActivity_hears (count.trans (by rw [begun])) (window.trans (by rw [begun])) second
      (by rw [spares.record, left, record]; rfl) (by rw [spares.record, left, record]; rfl) ?_
    have kept : (t.load n).lastActivity = (e.load n).lastActivity := by rw [spares.record]
    obtain same | ⟨starting, gone, present⟩ := activity
    · refine .inl (kept.trans (same.trans ?_))
      rw [record]
      rfl
    · exact .inr ⟨starts starting, fun still => gone (spares.starting still), by rw [kept, present, now]⟩

/-! ## What the feedback makes of the load -/

/-- The turn of a load of a sound plant. -/
theorem Part.goodReply_turns (ok : s.Sound) (awake : (s.station k).grade ≠ .offline) (v : Vector Reading 4)
    (used : s.inUse n = true) (here : stationOf n = k) (reach : (s.load n).phase ≠ .unreachable) : ∃ u : Part,
    s.Turns u (s.goodReply k v) n (s.load n).feedback ((s.load n).hears (s.config n) v[channelOf n]) ∧
    u.offCount n = s.offCount n ∧ (s.goodReply k v).Sound ∧ (s.goodReply k v).now = s.now ∧
    (s.goodReply k v).config n = s.config n ∧
    (u.feedbackEffect n (s.load n).feedback).Reads ((s.gradeReply k v).useReply k (s.station k) v) n
        ((u.feedbackEffect n (s.load n).feedback).load n) := by
  obtain ⟨u, reads, -, spares, rest⟩ := Part.goodReply_turn awake v used here reach
  have graded := Part.gradeReply_sound ok k v
  have work := s.loadWork_gradeReply k v
  have begun := s.gradeReply_record k v n
  have sound : ((s.gradeReply k v).useReply k (s.station k) v).Sound :=
    rest.keeps.sound ((u.keeps_feedbackEffect n _).sound (reads.keeps.sound graded))
  refine ⟨u, ⟨reads.keeps.sound graded, reads.work.now.trans work.now, (reads.work.config n).trans (work.config n), ?_, ?_,
    fun up unqueued still => ?_, fun rests => ?_, fun queued => ?_, spares⟩, (reads.work.offCount n).trans (work.offCount n),
    ?_, ?_, ?_, rest⟩
  · rw [reads.record, LoadRecord.heard_feedback, begun]; rfl
  · rw [reads.record, LoadRecord.heard_frame, begun]
  · have load := s.gradeReply_still k v still
    rw [← load] at up unqueued ⊢
    exact reads.kept up fun listed => unqueued ((graded.queued n).2 listed)
  · have load := s.gradeReply_still k v (n := n) (by obtain h | h := rests <;> rw [h] <;> rfl)
    rw [← load] at rests
    exact reads.phase.elim (fun same => by rw [same]; exact rests) id
  · have load := s.gradeReply_still k v (n := n) (by rw [queued]; rfl)
    exact reads.failed (.inl ((graded.queued n).1 (by rw [load]; exact queued)))
  · rw [Part.goodReply_eq]
    exact sound.setStation k _
  · exact (((s.gradeReply k v).loadWork_useReply k (s.station k) v).now).trans work.now
  · exact (((s.gradeReply k v).loadWork_useReply k (s.station k) v).config n).trans (work.config n)

/-- A start that completes leaves the load running, or applies a KEEP_OFF that covers it (R34, R37). -/
theorem Part.goodReply_completes (ok : s.Sound) (awake : (s.station k).grade ≠ .offline) (v : Vector Reading 4)
    (used : s.inUse n = true) (here : stationOf n = k) (ended : (s.finish (s.goodReply k v)).pollNext = t) {a : Nat}
    (starts : (s.load n).phase = .starting) (since : (s.load n).startedAt = some a) (off : (s.load n).feedback = false)
    (on : (s.load n).hears (s.config n) v[channelOf n] = true) (windowOver : (s.config n).accelS ≤ s.now - a)
    (idle : 1 ≤ (s.config n).idleMin) :
    t.dgv.startingOrigin[n] = none ∧ (t.load n).lastActivity = s.now ∧
    (s.offCount n = 0 → (t.load n).phase.running = true) ∧
    (0 < s.offCount n → (t.load n).phase = .stopping s.now ∨
      ((t.load n).phase.running = true ∧ (t.load n).stopPending = true)) := by
  obtain ⟨u, turns, count, sound, now, config, rest⟩ :=
    Part.goodReply_turns ok awake v used here (n := n) (by rw [starts]; nofun)
  obtain ⟨effect, -, fresh⟩ := turns.completes starts since off on windowOver
  obtain ⟨-, origin, second⟩ := (turns.spared (Part.spares_closed s ended n)).completes starts since off on windowOver
  refine ⟨origin, second, ?_⟩
  obtain ⟨phase, -, -⟩ := turns.starting starts since
  obtain ⟨-, -, -, free, covered⟩ := u.completeStart_load n
  have calm : (u.load n).stopPending = false := (turns.sound.loads n).calm (by rw [phase]; rfl)
  rw [calm, count] at free
  rw [count, turns.now] at covered
  have sound' := (Part.keeps_completeStart phase).sound turns.sound
  rw [effect] at rest
  have load : (s.goodReply k v).load n = ((s.gradeReply k v).useReply k (s.station k) v).load n := by
    rw [Part.goodReply_eq, Part.setStation_load]
  have closes := s.closes_finish (s.goodReply k v)
  have last : t.load n = (s.finish (s.goodReply k v)).load n := by
    rw [← ended, (Part.pollNext_rest _).1]
    rfl
  clear ended turns effect origin second
  generalize (s.gradeReply k v).useReply k (s.station k) v = y at *
  generalize s.finish (s.goodReply k v) = f at *
  generalize s.goodReply k v = z at *
  have pending : (z.load n).stopPending = ((u.completeStart n).load n).stopPending := by rw [load, rest.record]
  rw [last]
  refine ⟨fun none => ?_, fun some => ?_⟩
  · obtain ⟨runs, calm⟩ := free none
    obtain ⟨up, out⟩ := Part.unqueued_of_running sound' runs
    obtain ⟨same, -⟩ := rest.kept up out
    exact (closes.goesOn_of_fresh sound (by rw [load, same]; exact runs) (pending.trans calm) (fresh.trans now.symm)
      (by rw [config]; exact idle)).1
  · have stops : z.stopsOrPends n s.now := by
      rw [Part.stopsOrPends, load]
      obtain stops | ⟨runs, pends⟩ := covered some
      · obtain ⟨up, out⟩ := Part.unqueued_of_stopping sound' stops
        exact .inl ((rest.kept up out).1.trans stops)
      · obtain ⟨up, out⟩ := Part.unqueued_of_running sound' runs
        exact .inr ⟨by rw [(rest.kept up out).1]; exact runs, by rw [← load, pending]; exact pends⟩
    exact stops.closes sound now closes

end

end Sys2Proof.Machine
end

section
/-! What a good reply that returns its station ONLINE comes to for the station's loads (R34, R46, R141). -/

namespace Sys2Proof.Machine

/-- A load as s found it UNREACHABLE returns in u, and z is the part when all of them have returned. -/
structure Part.ComesBack (s u z : Part) (n : LoadId) (v : Reading) : Prop where
  load : u.load n = s.load n
  now : u.now = s.now
  mode : u.mode = s.mode
  records : u.cfg = s.cfg
  offCount : u.offCount n = s.offCount n
  online : u.stationOnline n = true
  standing : ∀ j, (s.load j).phase = .unreachable ∨ (s.load j).phase.running = true → (u.load j).phase.standing = true
  record : z.load n = (u.returnLoad n v).load n
  settled : z.now = s.now ∧ z.mode = s.mode ∧ z.cfg = s.cfg
  later : ∀ j, (u.load j).phase.standing = true → (z.load j).phase.standing = true
  sound : s.Sound → s.mode ≠ .setup → z.Sound

section
variable {s u z t : Part} {k : StationId} {n : LoadId} {v : Reading}

theorem Part.returnLoads_sound (ok : s.Sound) (holds : s.mode = .setup → s.holds = []) (k : StationId)
    (v : Vector Reading 4) : (s.returnLoads k v).Sound := by
  unfold Part.returnLoads
  refine (Part.returnList_sound (fun n => v[channelOf n]) _ ((slotsOf_nodup k).filter _) ok (fun m listed => ?_) holds).1
  have := (List.mem_filter.1 listed).2
  simp only [Bool.and_eq_true, decide_eq_true_eq] at this
  exact this.2

theorem Part.goodReply_comesBack (offline : (s.station k).grade = .offline) (vs : Vector Reading 4)
    (back : (s.graded k vs).grade = .online) (used : s.inUse n = true) (here : stationOf n = k)
    (lost : (s.load n).phase = .unreachable) : ∃ u, s.ComesBack u (s.goodReply k vs) n vs[channelOf n] := by
  have still := s.gradeReply_still k vs (n := n) (by rw [lost]; rfl)
  have work := s.loadWork_gradeReply k vs
  have station : (s.gradeReply k vs).station k = s.graded k vs := (s.gradeReply_station k k vs).trans (if_pos rfl)
  obtain ⟨u, before, after⟩ := (s.gradeReply k vs).returnLoads_turn vs ((work.inUse n).trans used) here
    (by rw [still]; exact lost)
  have returned : (s.gradeReply k vs).useReply k (s.station k) vs = (s.gradeReply k vs).returnLoads k vs := by
    rw [Part.useReply, if_pos offline, station, if_pos back]
  have turn := u.loadWork_returnLoad n vs[channelOf n]
  have rest := (before.work.trans turn).trans after.work
  have whole : s.goodReply k vs =
      ((s.gradeReply k vs).returnLoads k vs).setStation k { s.graded k vs with missed := 0 } := by
    rw [Part.goodReply_eq, returned]
  have load (j : LoadId) : (s.goodReply k vs).load j = ((s.gradeReply k vs).returnLoads k vs).load j := by
    rw [whole, Part.setStation_load]
  refine ⟨u, before.load.trans still, before.work.now.trans work.now, before.work.mode.trans work.mode,
    before.work.cfg.trans work.cfg, (before.work.offCount n).trans (work.offCount n), ?_, fun j stands => ?_,
    (load n).trans after.load, ⟨?_, ?_, ?_⟩, fun j stands => ?_, fun ok live => ?_⟩
  · rw [Part.stationOnline, here, before.work.station, station, back]
    rfl
  · refine before.standing j ?_
    obtain same | ⟨-, stopped, -⟩ := s.gradeReply_load k vs j
    · rw [same, LoadPhase.standing]
      obtain lost | runs := stands
      · rw [lost]; rfl
      · rw [runs]; rfl
    · rw [stopped]; rfl
  · rw [whole, Part.setStation_now]; exact rest.now.trans work.now
  · rw [whole, Part.setStation_mode]; exact rest.mode.trans work.mode
  · rw [whole, Part.setStation_cfg]; exact rest.cfg.trans work.cfg
  · rw [load]
    exact after.standing j (u.returnLoad_standing n _ j stands)
  · rw [whole]
    exact (Part.returnLoads_sound (Part.gradeReply_sound ok k vs)
      (fun setup => absurd (work.mode.symm.trans setup) live) k vs).setStation k _

/-! ## What the return leaves (R46) -/

theorem Part.ComesBack.returning (h : s.ComesBack u z n v) :
    u.returning n v = ((s.load n).returned s.mode s.now v).qualifyActivity (s.config n) s.now v := by
  rw [Part.returning, h.load, h.now, h.mode, Part.config, h.records]
  rfl

/-- Runs, or stops. -/
theorem Part.ComesBack.back (h : s.ComesBack u z n v) :
    (z.load n).phase = runningPhase s.mode ∨ (z.load n).phase = .stopping s.now := by
  obtain ⟨-, free, covered⟩ := u.returnLoad_load n v
  have phase := u.returning_phase n v
  rw [h.mode] at phase
  rw [h.record]
  by_cases off : 0 < u.offCount n
  · rw [covered off]
    split
    · exact .inr (congrArg _ h.now)
    · exact .inl phase
  · rw [free (Nat.eq_zero_of_not_pos off)]
    exact .inl phase

/-- The record of a load that has come back, at the end of the handling. -/
theorem Part.ComesBack.reads (h : s.ComesBack u z n v) (before : Part) (ended : (before.finish z).pollNext = t) :
    (t.load n).phase ≠ .unreachable ∧ (t.load n).feedback = v.feedback ∧ (t.load n).filterCount = 0 ∧
    (t.load n).lastActivity = s.now ∧ (t.load n).changed = true ∧
    ((s.load n).hearsActivity (t.load n) (s.config n) v s.now s.now fun second => (t.load n).lastActivity = second) := by
  have spares := Part.spares_closed before ended n
  obtain ⟨record, -, -⟩ := u.returnLoad_load n v
  rw [← h.record] at record
  obtain ⟨feedback, filter, second, changed, -⟩ := u.returning_record n v
  rw [h.now] at second
  have back := h.back
  have returning := h.returning
  have follows := before.follows_finish z
  have last : t.load n = (before.finish z).load n := by
    rw [← ended, (Part.pollNext_rest _).1]
    rfl
  generalize before.finish z = f at *
  refine ⟨?_, ?_, ?_, ?_, ?_, ?_⟩
  · have reach : (z.load n).phase ≠ .unreachable := by
      obtain runs | stops := back
      · rw [runs]; cases s.mode <;> nofun
      · rw [stops]; nofun
    rw [last]
    obtain same | off | queued | ⟨-, runs | stops⟩ := follows.phase n
    · rw [same]; exact reach
    · rw [off]; nofun
    · rw [queued]; nofun
    · exact fun lost => by rw [lost] at runs; cases runs
    · rw [stops]; nofun
  · rw [spares.record, record, feedback]
  · rw [spares.record, record, filter]
  · rw [spares.record, record, second]
  · rw [last]
    exact follows.changed n (by rw [record, changed])
  · refine LoadRecord.qualifyActivity_hears (q := (s.load n).returned s.mode s.now v) rfl rfl rfl ?_ ?_ ?_ <;>
      rw [spares.record, record, returning]

/-! ## What the close makes of it (R29, R30, R34) -/

/-- A load in the running state of the mode (R20). -/
def Part.runs (s : Part) (n : LoadId) : Prop := (s.load n).phase = runningPhase s.mode

/-- A running load of a sound plant is in the running state of the mode. -/
theorem Part.Sound.runs (ok : s.Sound) (running : (s.load n).phase.running = true) : s.runs n := (ok.loads n).running running

theorem Part.runs.running (h : s.runs n) : (s.load n).phase.running = true := by
  rw [h]; exact runningPhase_running s.mode

/-- In SETUP the close of a handling leaves the loads and the mode. -/
theorem Part.closed_setup (before : Part) (ended : (before.finish z).pollNext = t) (setup : z.mode = .setup) :
    t.load n = z.load n ∧ t.mode = z.mode := by
  obtain ⟨demand, scanDue, closed⟩ := Part.finish_of_setup before setup
  rw [closed] at ended
  rw [← ended, (Part.pollNext_rest _).1]
  exact ⟨rfl, rfl⟩

section
variable (before : Part) (ended : (before.finish z).pollNext = t) (sound : z.mode ≠ .setup → z.Sound)
include ended sound

/-- Outside SETUP what a load's state comes to by a close of a sound plant, its state comes to at the next poll; in
SETUP it stays. -/
theorem Part.closed_cases : (t.load n = z.load n ∧ t.mode = z.mode) ∨
    ∃ f, z.Closes f ∧ z.Sound ∧ f.Sound ∧ t.load n = f.load n ∧ t.mode = f.mode := by
  by_cases setup : z.mode = .setup
  · exact .inl (Part.closed_setup before ended setup)
  · refine .inr ⟨_, before.closes_finish z, sound setup, (before.follows_finish z).sound (sound setup), ?_⟩
    rw [← ended, (Part.pollNext_rest _).1]
    exact ⟨rfl, rfl⟩

theorem Part.closed_runs (runs : z.runs n) (calm : (z.load n).stopPending = false)
    (fresh : (z.load n).lastActivity = z.now) (idle : 1 ≤ (z.config n).idleMin) : t.runs n := by
  obtain ⟨load, mode⟩ | ⟨f, closes, ok, ok', load, mode⟩ := Part.closed_cases (n := n) before ended sound
  · rw [Part.runs, load, mode]; exact runs
  · rw [Part.runs, load, mode]
    exact ok'.runs (closes.goesOn_of_fresh ok runs.running calm fresh idle).1

theorem Part.closed_stopping {second : Nat} (stops : (z.load n).phase = .stopping second) :
    (t.load n).phase = .stopping second := by
  obtain ⟨load, mode⟩ | ⟨f, closes, ok, ok', load, mode⟩ := Part.closed_cases (n := n) before ended sound
  · rw [load]; exact stops
  · obtain ⟨up, out⟩ := Part.unqueued_of_stopping ok stops
    rw [load, (closes.follows.kept n up (by rw [stops]; rfl) out).1]
    exact stops

theorem Part.closed_pends (runs : z.runs n) (pends : (z.load n).stopPending = true) :
    (t.load n).phase = .stopping z.now ∨ (t.runs n ∧ (t.load n).stopPending = true) := by
  obtain ⟨load, mode⟩ | ⟨f, closes, ok, ok', load, mode⟩ := Part.closed_cases (n := n) before ended sound
  · rw [Part.runs, load, mode]; exact .inr ⟨runs, pends⟩
  · rw [Part.runs, load, mode]
    exact (Part.stopsOrPends.closes (.inr ⟨runs.running, pends⟩) ok rfl closes).imp_right
      fun ⟨running, pends⟩ => ⟨ok'.runs running, pends⟩

theorem Part.closed_needed (runs : z.runs n) (pends : (z.load n).stopPending = true) {j : LoadId} (used : z.inUse j = true)
    (needs : .load n ∈ (z.config j).needs) (stands : (z.load j).phase.standing = true) :
    t.runs n ∧ (t.load n).stopPending = true := by
  obtain ⟨load, mode⟩ | ⟨f, closes, ok, ok', load, mode⟩ := Part.closed_cases (n := n) before ended sound
  · rw [Part.runs, load, mode]; exact ⟨runs, pends⟩
  · rw [Part.runs, load, mode]
    obtain ⟨running, same⟩ := closes.goesOn_of_needed ok runs.running used needs stands
    exact ⟨ok'.runs running, same.trans pends⟩

end

/-- R34 applied to a load that has come back. -/
theorem Part.ComesBack.settles (h : s.ComesBack u z n v) (ok : s.Sound) (lost : (s.load n).phase = .unreachable)
    (idle : 1 ≤ (s.config n).idleMin) (before : Part) (ended : (before.finish z).pollNext = t) :
    (s.offCount n = 0 → t.runs n) ∧
    (0 < s.offCount n →
      ((t.load n).phase = .stopping s.now ∨ (t.runs n ∧ (t.load n).stopPending = true)) ∧
      ((∀ j, s.inUse j = true → .load n ∉ (s.config j).needs) → (s.config n).group = none →
        (t.load n).phase = .stopping s.now) ∧
      (∀ j, s.inUse j = true → .load n ∈ (s.config j).needs →
        (s.load j).phase.running = true ∨ (s.load j).phase = .unreachable →
        t.runs n ∧ (t.load n).stopPending = true)) := by
  obtain ⟨-, free, covered⟩ := u.returnLoad_load n v
  obtain ⟨-, -, second, -, pending⟩ := u.returning_record n v
  have phase := u.returning_phase n v
  have calm : (s.load n).stopPending = false := (ok.loads n).calm (by rw [lost]; rfl)
  have back := u.loadWork_cameBack n v
  have stands := u.cameBack_standing n v
  rw [h.load, calm] at pending
  rw [h.now] at second covered
  rw [h.mode, ← h.settled.2.1] at phase
  rw [← h.record, h.offCount] at free covered
  have sound (live : z.mode ≠ .setup) : z.Sound := h.sound ok fun setup => live (h.settled.2.1.trans setup)
  have config (j : LoadId) : z.config j = s.config j := by rw [Part.config, h.settled.2.2]; rfl
  have inUse (j : LoadId) : z.inUse j = s.inUse j := congrArg LoadConfig.inUse (config j)
  have came (j : LoadId) : (u.cameBack n v).config j = s.config j := by rw [back.config, Part.config, h.records]; rfl
  have cameUse (j : LoadId) : (u.cameBack n v).inUse j = s.inUse j := congrArg LoadConfig.inUse (came j)
  refine ⟨fun none => ?_, fun some => ?_⟩
  · have load := free none
    exact Part.closed_runs before ended sound (by rw [Part.runs, load]; exact phase) (by rw [load]; exact pending)
      (by rw [load, second, h.settled.1]) (by rw [config]; exact idle)
  · have load := covered some
    have pends (waits : (u.cameBack n v).stopConditions n = false) :
        z.runs n ∧ (z.load n).stopPending = true := by
      rw [waits] at load
      rw [Part.runs, load]
      exact ⟨phase, rfl⟩
    have stops (may : (u.cameBack n v).stopConditions n = true) : (z.load n).phase = .stopping s.now := by
      rw [may] at load
      rw [load]
      rfl
    refine ⟨?_, fun none alone => ?_, fun j used needs up => ?_⟩
    · cases may : (u.cameBack n v).stopConditions n with
      | true => exact .inl (Part.closed_stopping before ended sound (stops may))
      | false =>
        obtain ⟨runs, pends⟩ := pends may
        rw [← h.settled.1]
        exact Part.closed_pends before ended sound runs pends
    · refine Part.closed_stopping before ended sound (stops (Part.stopConditions_of_free ?_ (fun j used => ?_) ?_))
      · rw [Part.stationOnline, back.station]; exact h.online
      · rw [came]
        exact none j ((cameUse j).symm.trans used)
      · rw [came]; exact alone
    · have up := h.standing j up.symm
      have kept := Part.dependentsAllowStop_of_active (s := u.cameBack n v) (n := n) (j := j)
        ((cameUse j).trans used) (by rw [came]; exact needs) (LoadPhase.active_of_standing (stands j up))
      obtain ⟨runs, pends⟩ := pends (by rw [Part.stopConditions, kept, Bool.and_false])
      exact Part.closed_needed before ended sound runs pends ((inUse j).trans used) (by rw [config]; exact needs)
        (h.later j up)

end

end Sys2Proof.Machine
end

section
/-! A good reply, what it does to its station and loads, and the next poll (R22 to R25, R32 to R46, R134 to R143). -/

namespace Sys2Proof.Machine

section
variable {s t : Part} {k : StationId} {n : LoadId} {v : Vector Reading 4}

/-- What a good reply leaves, and that the cycle goes on (R134). -/
theorem Part.goodReply_frame (s : Part) (k : StationId) (v : Vector Reading 4)
    (ended : (s.finish (s.goodReply k v)).pollNext = t) :
    s.cycleGoesOn t ∧ (s.mode ≠ .wake → t.mode = s.mode) ∧ t.flm.link = s.flm.link := by
  obtain ⟨tags, cfg, list⟩ := s.goodReply_keeps k v
  have goesOn : s.cycleGoesOn t := ended ▸ Part.finish_pollNext list cfg tags
  have work := s.loadWork_gradeReply k v
  have used := (s.gradeReply k v).loadWork_useReply k (s.station k) v
  have mode : (s.goodReply k v).mode = s.mode := by
    rw [Part.goodReply_eq, Part.setStation_mode]
    exact used.mode.trans work.mode
  have link : (s.goodReply k v).flm.link = s.flm.link := by
    have graded : (s.gradeReply k v).flm.link = s.flm.link := by rw [work.flm]; rfl
    rw [Part.goodReply_eq]
    exact (congrArg (·.link) used.flm).trans graded
  obtain ⟨rest, linked⟩ : t = { s.finish (s.goodReply k v) with flm := t.flm } ∧
      t.flm.link = (s.finish (s.goodReply k v)).flm.link := ended ▸ (s.finish (s.goodReply k v)).pollNext_rest
  have closed := s.follows_finish (s.goodReply k v)
  refine ⟨goesOn, fun awake => ?_, linked.trans ((congrArg (·.link) closed.work.flm).trans link)⟩
  obtain ⟨loads, demand, scanDue, choices, same⟩ := Part.finish_awake s (by rw [mode]; exact awake)
  have ending : t.mode = (s.finish (s.goodReply k v)).mode := by rw [rest]; rfl
  rw [ending, same]
  exact mode

/-- R92, R98: a load that was up and goes off outside its window lowers D. -/
theorem Part.goodReply_lowers (ok : s.Sound) (awake : (s.station k).grade ≠ .offline) (used : s.inUse n = true)
    (here : stationOf n = k) (ended : (s.finish (s.goodReply k v)).pollNext = t)
    (up : (s.load n).phase.running = true ∨ (s.load n).phase = .override) (on : (s.load n).feedback = true)
    (off : (s.load n).hears (s.config n) v[channelOf n] = false) (outside : s.inWindow n = false)
    (power : 0 < (s.config n).runKw) : t.dgv.scanDue = true := by
  have reach : (s.load n).phase ≠ .unreachable := fun lost => by rw [lost] at up; obtain h | h := up <;> cases h
  obtain ⟨u, reads, lowers, -⟩ := Part.goodReply_turn awake v used here reach
  have drew : s.draws n := by
    refine ⟨outside, ?_, power⟩
    rw [Part.up, LoadRecord.up, on]
    obtain runs | found := up
    · rw [runs]; rfl
    · rw [found]; rfl
  have silent : (u.load n).feedback = false := by
    rw [reads.record, LoadRecord.heard_feedback, s.gradeReply_record k v n]
    exact off
  exact (Part.spares_closed s ended n).scan (lowers ok drew silent)

/-- What the reply raises and starts where it changes the station's grade (R98, R143). -/
theorem Part.goodReply_regrades (ended : (s.finish (s.goodReply k v)).pollNext = t)
    (moved : (s.graded k v).grade ≠ (s.station k).grade) : t.atl.pending.getLsbD 1 = true ∧
    t.atl.details[1] = some (.station k) ∧ ((s.graded k v).grade = .online → t.dgv.scanDue = true) := by
  obtain ⟨raised, named, scan⟩ := Part.goodReply_tells v moved
  have closed := (s.follows_finish (s.goodReply k v)).keepsStation
  have rest : t = { s.finish (s.goodReply k v) with flm := t.flm } := ended ▸ (s.finish (s.goodReply k v)).pollNext_rest.1
  clear ended
  generalize s.finish (s.goodReply k v) = f at *
  rw [rest]
  exact ⟨closed.raised raised, closed.station.trans named, fun online => closed.scan (scan online)⟩

theorem Part.runs_iff : s.runs n ↔
    (s.load n).phase = (if s.mode = .setup ∨ s.mode = .day then .localRun else .watch) ∧
      (s.load n).phase.permit = true := by
  have running : runningPhase s.mode = if s.mode = .setup ∨ s.mode = .day then .localRun else .watch := by
    cases s.mode <;> rfl
  rw [Part.runs, ← running]
  exact ⟨fun runs => ⟨runs, by rw [runs]; cases s.mode <;> rfl⟩, fun h => h.1⟩

theorem Part.graded_suspect (suspect : (s.station k).grade = .suspect) (v : Vector Reading 4) :
    ((s.station k).err - 1 < 64 → (s.graded k v).grade = .online) ∧
    (64 ≤ (s.station k).err - 1 → (s.graded k v).grade = .suspect) :=
  Station.afterGood_suspect suspect _

end

/-- Settles O39: each load of the station comes to its turn once, before which and after which the other loads' effects
pass it by, and what its turn has made of it lasts through the close of the handling. -/
theorem goodReply : Obligations.GoodReply := by
  intro s x bytes v works flown judged k r heard
  have taken : exec (.pollReplyGood bytes) s = .next (s.withPart (s.finish (s.goodReply k v)).pollNext) := by
    show execPollReplyGood bytes s = _
    exact (event_taken works).trans (by simp only [flown, judged]; rfl)
  have kept := ((s.keepsHolds_goodReply k v).finish s.toPart).trans (Part.keepsHolds_pollNext _)
  obtain ⟨t, ended⟩ : ∃ t, (s.finish (s.goodReply k v)).pollNext = t := ⟨_, rfl⟩
  obtain ⟨goesOn, mode, link⟩ := Part.goodReply_frame s.toPart k v ended
  have after := Part.goodReply_after s.toPart k v ended
  have regrades := Part.goodReply_regrades (s := s.toPart) ended
  rw [ended] at taken kept
  have grade : (t.station k).grade = (s.graded k v).grade := by rw [after]
  have goodRun : (t.station k).goodRun = (s.graded k v).goodRun := by rw [after]
  have err : (t.station k).err = (s.graded k v).err := by rw [after]
  refine ⟨_, taken, congrArg Station.missed after, congrArg Station.lastGood after, congrArg Station.lastReply after, goesOn,
    fun awake n used here reach => Part.goodReply_hears awake v used here reach ended, fun awake ok n used here => ?_,
    fun suspect => ?_, fun online => grade.trans (Station.afterGood_online online _), fun offline auto manual => ?_,
    fun offline may => ?_, mode, link, kept.holds, kept.cfs, kept.power, kept.uptime, kept.clock⟩
  · obtain ⟨sound, linked⟩ := s.toPart.loadsOk_iff.1 ok
    have reach : (s.load n).phase ≠ .unreachable := fun lost =>
      awake ((congrArg (fun j => (s.station j).grade) here.symm).trans ((linked n used).1 lost))
    obtain ⟨u, turns, -⟩ := Part.goodReply_turns sound awake v used here reach
    have turns := turns.spared (Part.spares_closed s.toPart ended n)
    exact ⟨Part.goodReply_lowers sound awake used here ended, turns.down,
      fun a starts since => ⟨Part.goodReply_completes sound awake v used here ended starts since,
        turns.fails starts since, turns.goesOnStarting starts since⟩,
      turns.foundRunning, turns.notStarted, turns.override⟩
  · obtain ⟨clears, stays⟩ := Part.graded_suspect suspect v
    refine ⟨fun low => ?_, fun high => grade.trans (stays high)⟩
    have online := clears low
    obtain ⟨raised, named, scan⟩ := regrades (by rw [online, suspect]; nofun)
    exact ⟨grade.trans online, raised, named, scan online⟩
  · have same : s.graded k v = { r with lastGood := some s.now, lastReply := some v } := by
      rw [Part.graded, auto, Station.afterGood_barred offline manual]
    rw [same] at grade
    exact ⟨grade.trans offline, goodRun.trans (by rw [same])⟩
  · obtain ⟨counts, returns⟩ := Station.afterGood_recovers offline may
    refine ⟨fun early => ?_, fun full => ?_⟩
    · obtain ⟨graded, counted⟩ : (s.graded k v).grade = r.grade ∧ (s.graded k v).goodRun = r.goodRun + 1 := by
        rw [Part.graded, counts early]
        exact ⟨rfl, rfl⟩
      exact ⟨(grade.trans graded).trans offline, goodRun.trans counted⟩
    · have back := returns full
      have online : (s.graded k v).grade = .online := congrArg Station.grade back
      obtain ⟨raised, -, scan⟩ := regrades (by rw [online, offline]; nofun)
      refine ⟨grade.trans online, err.trans (congrArg Station.err back), goodRun.trans (congrArg Station.goodRun back), raised,
        scan online, fun n used here lost => ?_⟩
      obtain ⟨u, comes⟩ := Part.goodReply_comesBack offline v online used here lost
      obtain ⟨reach, feedback, filter, second, changed, activity⟩ := comes.reads s.toPart ended
      refine ⟨reach, feedback, filter, second, changed, activity, fun ok idle => ?_⟩
      obtain ⟨free, covered⟩ := comes.settles (s.toPart.loadsOk_iff.1 ok).1 lost idle s.toPart ended
      refine ⟨fun none => Part.runs_iff.1 (free none), fun some => ?_⟩
      obtain ⟨stops, alone, needed⟩ := covered some
      exact ⟨stops.imp_right (And.imp_left Part.runs_iff.1), alone,
        fun j used needs up => (needed j used needs up).imp_left Part.runs_iff.1⟩

end Sys2Proof.Machine
end
